-- ==== Sys2Proof/Word.lean ====
section
/-! DEFINITION. The plain shapes every file shares: a byte, a group of four like things (inputs
IN1..IN4, tracks T1..T4, the four packet kinds of one direction of one link), and a yaw and pitch
pair. Nothing here decides a meaning. -/

namespace Sys2Proof

/-- One byte as a link carries it (R200). -/
abbrev Byte := BitVec 8

/-- The names of four like things, as T1..T4 or IN1..IN4. -/
inductive Four where
  | i1 | i2 | i3 | i4
  deriving DecidableEq, Repr

namespace Four

def all : List Four := [.i1, .i2, .i3, .i4]

/-- Position from 0. -/
def idx : Four → Nat
  | .i1 => 0
  | .i2 => 1
  | .i3 => 2
  | .i4 => 3

/-- The name at a position; positions above 3 name the last. -/
def ofIdx : Nat → Four
  | 0 => .i1
  | 1 => .i2
  | 2 => .i3
  | _ => .i4

end Four

/-- Four values of one type, one for each name of `Four`. -/
structure Quad (α : Type) where
  q1 : α
  q2 : α
  q3 : α
  q4 : α
  deriving DecidableEq, Repr

namespace Quad

variable {α β γ : Type}

def fill (a : α) : Quad α := ⟨a, a, a, a⟩

def get (q : Quad α) : Four → α
  | .i1 => q.q1
  | .i2 => q.q2
  | .i3 => q.q3
  | .i4 => q.q4

def set (q : Quad α) (i : Four) (a : α) : Quad α :=
  match i with
  | .i1 => { q with q1 := a }
  | .i2 => { q with q2 := a }
  | .i3 => { q with q3 := a }
  | .i4 => { q with q4 := a }

def map (f : α → β) (q : Quad α) : Quad β := ⟨f q.q1, f q.q2, f q.q3, f q.q4⟩

def zipWith (f : α → β → γ) (a : Quad α) (b : Quad β) : Quad γ :=
  ⟨f a.q1 b.q1, f a.q2 b.q2, f a.q3 b.q3, f a.q4 b.q4⟩

def toList (q : Quad α) : List α := [q.q1, q.q2, q.q3, q.q4]

end Quad

/-- A value for each gyro axis. -/
structure YawPitch (α : Type) where
  yaw : α
  pitch : α
  deriving DecidableEq, Repr

namespace YawPitch

variable {α β : Type}

def both (a : α) : YawPitch α := ⟨a, a⟩

def map (f : α → β) (p : YawPitch α) : YawPitch β := ⟨f p.yaw, f p.pitch⟩

end YawPitch

end Sys2Proof
end

