-- ==== Sys2Proof/Config.lean ====
section
/-! DEFINITION. What the part fixes and the manual does not give: values with no body, so that no
proof can lean on a choice of ours. -/

namespace Sys2Proof

/-- FREE VALUE. Row `row` (0..15) of the factory glyph of code `code`, bit k the pixel of column k.
R143 builds the bitmaps of 94 of the 96 factory glyphs into the part and leaves them to the data
sheet; the two it states (codes 32 and 45) do not read this constant. Log entry 2. -/
opaque Config.factoryGlyphRow (code row : Nat) : BitVec 12

/-- FREE VALUE. What the two-byte count field of a GAP mark in the part close record carries for a
gap of more than 65535 frames: R86 puts no bound on the count, R206 gives the field two bytes, and
no rule says what a larger count becomes. Log entry 3. -/
opaque Config.wideGapCount (count : Nat) : BitVec 16

/-- FREE VALUE. What a four-byte count field carries for a count past 4,294,967,295: the part counts
and the offered count have that range (5.1, R98), and no rule says what such a count becomes there.
Log entry 35. -/
opaque Config.widePartCount (count : Nat) : BitVec 32

end Sys2Proof
end

