-- ==== Sys2Proof/Syntax.lean ====
section
/-! DEFINITION. The commands of the part: one constructor of `Instr` for each row of
spec/opcode_table.json, carrying what the row's packet, completion or event carries. -/

namespace Sys2Proof

/-- The two packet links (R167). -/
inductive LinkId where
  | head | body
  deriving DecidableEq, Repr

/-- The two card slots. -/
inductive SlotId where
  | a | b
  deriving DecidableEq, Repr

def SlotId.other : SlotId → SlotId
  | .a => .b
  | .b => .a

/-- Slot A is 0 and slot B is 1 (R202). -/
def SlotId.code : SlotId → Nat
  | .a => 0
  | .b => 1

/-- The source of a COMMAND that names a defined one: 0 the body's system processor, 1 the remote
panel (R182). -/
inductive Source where
  | system | panel
  deriving DecidableEq, Repr

/-- The eight frame-rate codes (R3), in the order of their codes (R201). -/
inductive RateCode where
  | r23976 | r24 | r25 | r2997 | r30 | r50 | r5994 | r60
  deriving DecidableEq, Repr

/-- The essence streams (R201). -/
inductive Stream where
  | main | proxy
  deriving DecidableEq, Repr

/-- Timecode as FRAME_MARK carries it (R201). -/
structure Timecode where
  hh : Byte
  mm : Byte
  ss : Byte
  ff : Byte
  deriving DecidableEq, Repr

/-- One audio sample of each input at one index, as carried: signed 24 bits each (R201). -/
abbrev InputSamples := Quad (BitVec 24)

/-- The commands. A packet row stands for a packet that passed its CRC-16, carries channel 0, and has
the length and field values of its kind; `seq` is its header's sequence. A COMMAND packet's row
carries also its source and tag. -/
inductive Instr where
  /-- POWER_ON_RESET (R199, steps 1 to 6) -/
  | powerOnReset
  /-- POWER_ON_RESET_END (R180, R199 step 7) -/
  | powerOnResetEnd
  /-- MOTION: yaw and pitch rate -/
  | motion (seq : Byte) (yaw pitch : BitVec 16)
  /-- LENS_REPORT: Z, measured shift, status bits (0 wide end, 1 tele end, 2 lens fault) -/
  | lensReport (seq : Byte) (z shiftYaw shiftPitch : BitVec 16) (status : Byte)
  /-- PANEL: rocker deflection and button bits (0 REC, 1 MARK, 2 STAB, 3 P1, 4 P2) -/
  | panel (seq : Byte) (rocker buttons : Byte)
  /-- AUDIO_IN: 48 sample indices, four inputs each -/
  | audioIn (seq : Byte) (samples : List InputSamples)
  /-- FRAME_MARK -/
  | frameMark (seq : Byte) (frame : BitVec 32) (tc : Timecode) (rate : RateCode)
  /-- ESSENCE -/
  | essence (seq : Byte) (frame : BitVec 32) (stream : Stream) (last : Bool) (offset : BitVec 32)
      (bytes : List Byte)
  /-- VF_LINE: line number and 960 pixel words -/
  | vfLine (seq : Byte) (line : BitVec 16) (pixels : List (BitVec 32))
  /-- LINK_RESET packet received on a link -/
  | linkReset (link : LinkId) (epoch : Byte)
  /-- INBOUND_CRC_FAILURE -/
  | inboundCrcFailure (link : LinkId)
  /-- FOREIGN_PACKET -/
  | foreignPacket (link : LinkId)
  /-- REJECTED_PACKET -/
  | rejectedPacket (link : LinkId)
  /-- LOSS_OF_FRAMING -/
  | lossOfFraming (link : LinkId)
  /-- RESEND_TIMER_EXPIRY -/
  | resendTimerExpiry (link : LinkId)
  /-- TRANSMIT_LINE_READY -/
  | transmitLineReady (link : LinkId)
  /-- GET item -/
  | get (seq : Byte) (src : Source) (tag item : Byte)
  /-- SET item to value -/
  | set (seq : Byte) (src : Source) (tag item : Byte) (value : BitVec 32)
  /-- SELECT table, index -/
  | select (seq : Byte) (src : Source) (tag table : Byte) (index : BitVec 16)
  /-- WRITE n entries -/
  | write (seq : Byte) (src : Source) (tag : Byte) (n : BitVec 16) (data : List Byte)
  /-- READ n entries -/
  | read (seq : Byte) (src : Source) (tag : Byte) (n : BitVec 16)
  /-- UNDEFINED_COMMAND: a COMMAND refused by its form (R182, check 1) -/
  | undefinedCommand (seq tag : Byte)
  /-- ACTION REC_START -/
  | recStart (seq : Byte) (src : Source) (tag : Byte)
  /-- ACTION REC_STOP -/
  | recStop (seq : Byte) (src : Source) (tag : Byte)
  /-- ACTION MARK -/
  | mark (seq : Byte) (src : Source) (tag : Byte)
  /-- ACTION ZOOM_PRESET n -/
  | zoomPreset (seq : Byte) (src : Source) (tag n : Byte)
  /-- ACTION ZOOM_STOP -/
  | zoomStop (seq : Byte) (src : Source) (tag : Byte)
  /-- ACTION STAB_ON -/
  | stabOn (seq : Byte) (src : Source) (tag : Byte)
  /-- ACTION STAB_OFF -/
  | stabOff (seq : Byte) (src : Source) (tag : Byte)
  /-- ACTION BASELINE_RESET -/
  | baselineReset (seq : Byte) (src : Source) (tag : Byte)
  /-- ACTION ENTER_SETUP -/
  | enterSetup (seq : Byte) (src : Source) (tag : Byte)
  /-- ACTION ENTER_RUN -/
  | enterRun (seq : Byte) (src : Source) (tag : Byte)
  /-- ACTION LENS_TABLE_CLEAR -/
  | lensTableClear (seq : Byte) (src : Source) (tag : Byte)
  /-- ACTION CLEAR_HOLD slot -/
  | clearHold (seq : Byte) (src : Source) (tag slot : Byte)
  /-- ACTION CLEAR_FAULT scope, group, detail -/
  | clearFault (seq : Byte) (src : Source) (tag scope group detail : Byte)
  /-- ACTION STORE_SCENE n -/
  | storeScene (seq : Byte) (src : Source) (tag area : Byte)
  /-- ACTION RECALL_SCENE n -/
  | recallScene (seq : Byte) (src : Source) (tag area : Byte)
  /-- ACTION RECALL_FACTORY -/
  | recallFactory (seq : Byte) (src : Source) (tag : Byte)
  /-- ACTION STORE_FIXED -/
  | storeFixed (seq : Byte) (src : Source) (tag : Byte)
  /-- CARD_INSERTION: the presence line goes present -/
  | cardInsertion (slot : SlotId)
  /-- CARD_REMOVAL: the presence line goes absent -/
  | cardRemoval (slot : SlotId)
  /-- MOUNT completion; free blocks count only when it is OK -/
  | mountCompletion (slot : SlotId) (number : Byte) (ok : Bool) (free : BitVec 32)
  /-- PART_OPEN completion -/
  | partOpenCompletion (slot : SlotId) (number : Byte) (ok : Bool)
  /-- UNIT_WRITE completion -/
  | unitWriteCompletion (slot : SlotId) (number : Byte) (ok : Bool)
  /-- PART_CLOSE completion -/
  | partCloseCompletion (slot : SlotId) (number : Byte) (ok : Bool)
  /-- MOUNT_TIMEOUT -/
  | mountTimeout (slot : SlotId)
  /-- SLOW_TIMER_EXPIRY -/
  | slowTimerExpiry (slot : SlotId)
  /-- REQUEST_TIMEOUT -/
  | requestTimeout (slot : SlotId)
  /-- LENS_SILENCE_TIMER_EXPIRY -/
  | lensSilenceTimerExpiry
  /-- ROCKER_LAPSE_TIMER_EXPIRY -/
  | rockerLapseTimerExpiry
  /-- PRESET_TIMEOUT_EXPIRY -/
  | presetTimeoutExpiry
  /-- REFRESH_TIMER_EXPIRY -/
  | refreshTimerExpiry
  /-- GYRO_SILENCE_TIMER_EXPIRY -/
  | gyroSilenceTimerExpiry
  /-- LONG_GAP_TIMER_EXPIRY -/
  | longGapTimerExpiry
  /-- AUDIO_SILENCE_TIMER_EXPIRY -/
  | audioSilenceTimerExpiry
  /-- METER_LAPSE_TIMER_EXPIRY -/
  | meterLapseTimerExpiry
  /-- MARK_SILENCE_TIMER_EXPIRY -/
  | markSilenceTimerExpiry
  /-- LINE_SILENCE_TIMER_EXPIRY -/
  | lineSilenceTimerExpiry
  /-- CHECK_CYCLE: the supervision timer expires -/
  | checkCycle
  /-- STORE_COMPLETION: the nonvolatile write completes, or reports failure -/
  | storeCompletion (ok : Bool)
  /-- STORE_TIMEOUT: 400 ms have passed without completion -/
  | storeTimeout
  /-- RECALL_COMPLETION: 20 ms have passed since the recall was taken -/
  | recallCompletion
  /-- CELL_WRITE_COMPLETION: the cell write completes, or reports failure -/
  | cellWriteCompletion (ok : Bool)
  deriving DecidableEq, Repr

end Sys2Proof
end

