-- ==== Sys2Proof/WellFormed.lean ====
section
/-! DEFINITION. Which commands a port can carry: the lengths a packet's payload fixes (R200). Every
other operand is bounded by its type. A term outside these is no packet of its kind; the links
treat one that is nevertheless presented as R168 and R172 treat a packet of that length. -/

namespace Sys2Proof

/-- The bytes an ESSENCE packet may carry: its payload is at most 4096, ten of them fixed (R200). -/
def maxEssenceBytes : Nat := 4086

/-- The entry bytes a WRITE may carry: source, tag, code and n take five of 4096 (R203). -/
def maxWriteBytes : Nat := 4091

/-- The lengths R200 and R201 give AUDIO_IN, VF_LINE, ESSENCE and a WRITE command. -/
def Instr.wellFormed : Instr → Bool
  | .audioIn _ samples => samples.length == 48
  | .vfLine _ _ pixels => pixels.length == 960
  | .essence _ _ _ _ _ bytes => decide (bytes.length ≤ maxEssenceBytes)
  | .write _ _ _ _ data => decide (data.length ≤ maxWriteBytes)
  | _ => true

end Sys2Proof
end

