-- ==== Sys2Proof/Decode.lean ====
section
/-! DEFINITION. From bytes at a port to the command they present (R167, R200, R201, R203, R206), and
the framing the other way. No row of spec/opcode_table.json gives bits, so `decodeTableWord` answers
none on every word; a packet or a completion is read by `receive` and `receiveCompletion`. -/

namespace Sys2Proof

/-! ### Bytes -/

/-- The `n` bytes of a value, least significant first (R200). -/
def leBytes : Nat → Nat → List Byte
  | 0, _ => []
  | n + 1, v => BitVec.ofNat 8 v :: leBytes n (v / 256)

/-- The value of bytes sent least significant first (R200). -/
def leNat : List Byte → Nat
  | [] => 0
  | b :: rest => b.toNat + 256 * leNat rest

/-- The `n` bytes of a signed value, two's complement (R200). -/
def intBytes (n : Nat) (v : Int) : List Byte := leBytes n (v % ((256 ^ n : Nat) : Int)).toNat

/-- `w` bits of a field read from bytes. -/
def field (w : Nat) (bytes : List Byte) : BitVec w := BitVec.ofNat w (leNat bytes)

/-! ### CRC-16 (R200) -/

/-- One bit of the CRC: polynomial 1021h, most significant bit first, not reflected. -/
def crcBit (crc : BitVec 16) : BitVec 16 :=
  if crc.msb then (crc <<< 1) ^^^ 0x1021#16 else crc <<< 1

/-- One byte taken into the CRC. -/
def crcByte (crc : BitVec 16) (b : Byte) : BitVec 16 :=
  let c := crc ^^^ (b.zeroExtend 16 <<< 8)
  crcBit (crcBit (crcBit (crcBit (crcBit (crcBit (crcBit (crcBit c)))))))

/-- The CRC-16 of R200: starting value FFFFh, not inverted. -/
def crc16 (bytes : List Byte) : BitVec 16 := bytes.foldl crcByte 0xFFFF#16

/-- A packet of the frame of R200 on channel `channel`. -/
def frameBytes (kind channel seq : Byte) (payload : List Byte) : List Byte :=
  let covered := kind :: channel :: seq :: (leBytes 2 payload.length ++ payload)
  covered ++ leBytes 2 (crc16 covered).toNat

/-! ### Kind codes (R200) -/

def kindMotion : Byte := 0x01#8
def kindLensReport : Byte := 0x02#8
def kindPanel : Byte := 0x03#8
def kindAudioIn : Byte := 0x04#8
def kindZoomCmd : Byte := 0x05#8
def kindShiftCmd : Byte := 0x06#8
def kindTally : Byte := 0x07#8
def kindFrameMark : Byte := 0x10#8
def kindEssence : Byte := 0x11#8
def kindVfLine : Byte := 0x12#8
def kindCommand : Byte := 0x13#8
def kindReply : Byte := 0x14#8
def kindNotice : Byte := 0x15#8
def kindMonitor : Byte := 0x16#8
def kindLinkReset : Byte := 0x7F#8

/-- Rate codes 0..7 (R201); none above 7. -/
def RateCode.ofByte (b : Byte) : Option RateCode :=
  match b.toNat with
  | 0 => some .r23976
  | 1 => some .r24
  | 2 => some .r25
  | 3 => some .r2997
  | 4 => some .r30
  | 5 => some .r50
  | 6 => some .r5994
  | 7 => some .r60
  | _ => none

def RateCode.toByte : RateCode → Byte
  | .r23976 => 0#8
  | .r24 => 1#8
  | .r25 => 2#8
  | .r2997 => 3#8
  | .r30 => 4#8
  | .r50 => 5#8
  | .r5994 => 6#8
  | .r60 => 7#8

/-- Stream 0 is MAIN and 1 is PROXY (R201); none above 1. -/
def Stream.ofByte (b : Byte) : Option Stream :=
  match b.toNat with
  | 0 => some .main
  | 1 => some .proxy
  | _ => none

def Stream.toByte : Stream → Byte
  | .main => 0#8
  | .proxy => 1#8

/-- Source 0 is the system processor and 1 the remote panel (R182); none above 1. -/
def Source.ofByte (b : Byte) : Option Source :=
  match b.toNat with
  | 0 => some .system
  | 1 => some .panel
  | _ => none

def Source.toByte : Source → Byte
  | .system => 0#8
  | .panel => 1#8

/-- The samples of an AUDIO_IN payload: per index IN1..IN4, each s3 (R201). -/
def readSamples : Nat → List Byte → List InputSamples
  | 0, _ => []
  | n + 1, bytes =>
    ⟨field 24 (bytes.take 3), field 24 ((bytes.drop 3).take 3), field 24 ((bytes.drop 6).take 3),
      field 24 ((bytes.drop 9).take 3)⟩ :: readSamples n (bytes.drop 12)

def sampleBytes (q : InputSamples) : List Byte :=
  leBytes 3 q.q1.toNat ++ leBytes 3 q.q2.toNat ++ leBytes 3 q.q3.toNat ++ leBytes 3 q.q4.toNat

/-- The pixel words of a VF_LINE payload, 4 bytes each (R201). -/
def readPixels : Nat → List Byte → List (BitVec 32)
  | 0, _ => []
  | n + 1, bytes => field 32 (bytes.take 4) :: readPixels n (bytes.drop 4)

/-! ### Commands (R203) -/

/-- An ACTION command's row by its code and argument bytes; UNDEFINED_COMMAND where the code names
no action or the arguments do not have its width (R182 check 1, R203). -/
def readAction (seq : Byte) (src : Source) (tag code : Byte) (args : List Byte) : Instr :=
  match code.toNat, args with
  | 1, [] => .recStart seq src tag
  | 2, [] => .recStop seq src tag
  | 3, [] => .mark seq src tag
  | 4, [n] => .zoomPreset seq src tag n
  | 5, [] => .zoomStop seq src tag
  | 6, [] => .stabOn seq src tag
  | 7, [] => .stabOff seq src tag
  | 8, [] => .baselineReset seq src tag
  | 9, [] => .enterSetup seq src tag
  | 10, [] => .enterRun seq src tag
  | 11, [] => .lensTableClear seq src tag
  | 12, [slot] => .clearHold seq src tag slot
  | 13, [scope, group, detail] => .clearFault seq src tag scope group detail
  | 14, [area] => .storeScene seq src tag area
  | 15, [area] => .recallScene seq src tag area
  | 16, [] => .recallFactory seq src tag
  | 17, [] => .storeFixed seq src tag
  | _, _ => .undefinedCommand seq tag

/-- A COMMAND's row by its code and arguments from a defined source (R203). -/
def readCommand (seq : Byte) (src : Source) (tag code : Byte) (args : List Byte) : Instr :=
  match code.toNat, args with
  | 1, [item] => .get seq src tag item
  | 2, [item, v0, v1, v2, v3] => .set seq src tag item (field 32 [v0, v1, v2, v3])
  | 3, [table, i0, i1] => .select seq src tag table (field 16 [i0, i1])
  | 4, n0 :: n1 :: data => .write seq src tag (field 16 [n0, n1]) data
  | 5, [n0, n1] => .read seq src tag (field 16 [n0, n1])
  | 6, action :: rest => readAction seq src tag action rest
  | _, _ => .undefinedCommand seq tag

/-! ### Packets -/

/-- The row of a good channel-0 packet on the head link (R172 steps 2 and 3, R201). -/
def readHead (kind seq : Byte) (p : List Byte) : Instr :=
  match kind.toNat, p with
  | 0x01, [y0, y1, p0, p1] => .motion seq (field 16 [y0, y1]) (field 16 [p0, p1])
  | 0x02, [z0, z1, y0, y1, p0, p1, status] =>
    .lensReport seq (field 16 [z0, z1]) (field 16 [y0, y1]) (field 16 [p0, p1]) status
  | 0x03, [rocker, buttons] => .panel seq rocker buttons
  | 0x04, bytes =>
    if bytes.length = 576 then .audioIn seq (readSamples 48 bytes) else .rejectedPacket .head
  | 0x7F, [epoch] => .linkReset .head epoch
  | _, _ => .rejectedPacket .head

/-- The row of a good channel-0 packet on the body link (R172 steps 2 and 3, R200, R201). -/
def readBody (kind seq : Byte) (p : List Byte) : Instr :=
  match kind.toNat, p with
  | 0x10, [f0, f1, f2, f3, hh, mm, ss, ff, rate] =>
    match RateCode.ofByte rate with
    | some r => .frameMark seq (field 32 [f0, f1, f2, f3]) ⟨hh, mm, ss, ff⟩ r
    | none => .rejectedPacket .body
  | 0x11, f0 :: f1 :: f2 :: f3 :: stream :: flags :: o0 :: o1 :: o2 :: o3 :: bytes =>
    match Stream.ofByte stream with
    | some st => .essence seq (field 32 [f0, f1, f2, f3]) st (flags.getLsbD 0)
        (field 32 [o0, o1, o2, o3]) bytes
    | none => .rejectedPacket .body
  | 0x12, l0 :: l1 :: bytes =>
    if bytes.length = 3840 then .vfLine seq (field 16 [l0, l1]) (readPixels 960 bytes)
    else .rejectedPacket .body
  | 0x13, source :: tag :: code :: args =>
    match Source.ofByte source with
    | some src => readCommand seq src tag code args
    | none => .undefinedCommand seq tag
  | 0x7F, [epoch] => .linkReset .body epoch
  | _, _ => .rejectedPacket .body

/-- The command that one packet arriving on a link presents. A length above 4096, a CRC that does
not agree (R168), and bytes that do not make one whole frame (DEDUCED, log entry 4) are
CRC failures; then the channel is judged (R172 step 1), then kind and length (other channels DEDUCED,
log entry 26). -/
def receive (link : LinkId) (bytes : List Byte) : Instr :=
  match bytes with
  | kind :: channel :: seq :: l0 :: l1 :: rest =>
    let len := leNat [l0, l1]
    if len > 4096 ∨ rest.length ≠ len + 2 then .inboundCrcFailure link
    else if field 16 (rest.drop len) ≠
        crc16 (kind :: channel :: seq :: l0 :: l1 :: rest.take len) then .inboundCrcFailure link
    else if channel ≠ 0#8 then .foreignPacket link
    else match link with
      | .head => readHead kind seq (rest.take len)
      | .body => readBody kind seq (rest.take len)
  | _ => .inboundCrcFailure link

/-- The command that a completion arriving on a slot port presents (R206): kind, request number,
result, and for a MOUNT completed OK the free blocks. Bytes of no completion present none. -/
def receiveCompletion (slot : SlotId) (bytes : List Byte) : Option Instr :=
  match bytes with
  | [kind, number, result] =>
    match kind.toNat, result.toNat with
    | 0, 1 => some (.mountCompletion slot number false 0#32)
    | 1, 0 => some (.partOpenCompletion slot number true)
    | 1, 1 => some (.partOpenCompletion slot number false)
    | 2, 0 => some (.unitWriteCompletion slot number true)
    | 2, 1 => some (.unitWriteCompletion slot number false)
    | 3, 0 => some (.partCloseCompletion slot number true)
    | 3, 1 => some (.partCloseCompletion slot number false)
    | _, _ => none
  | [kind, number, result, f0, f1, f2, f3] =>
    if kind = 0#8 ∧ result = 0#8 then
      some (.mountCompletion slot number true (field 32 [f0, f1, f2, f3]))
    else none
  | _ => none

/-- The payload of a COMMAND (R203). -/
def commandPayload (src : Source) (tag code : Byte) (args : List Byte) : List Byte :=
  src.toByte :: tag :: code :: args

/-- The packet that presents a command row on its link, on channel 0 (R200, R201, R203). Rows that
are no good packet of one kind have none. -/
def packetOf : Instr → Option (LinkId × List Byte)
  | .motion seq yaw pitch => some (.head, frameBytes kindMotion 0#8 seq
      (leBytes 2 yaw.toNat ++ leBytes 2 pitch.toNat))
  | .lensReport seq z y p status => some (.head, frameBytes kindLensReport 0#8 seq
      (leBytes 2 z.toNat ++ leBytes 2 y.toNat ++ leBytes 2 p.toNat ++ [status]))
  | .panel seq rocker buttons => some (.head, frameBytes kindPanel 0#8 seq [rocker, buttons])
  | .audioIn seq samples => some (.head, frameBytes kindAudioIn 0#8 seq (samples.flatMap sampleBytes))
  | .frameMark seq frame tc rate => some (.body, frameBytes kindFrameMark 0#8 seq
      (leBytes 4 frame.toNat ++ [tc.hh, tc.mm, tc.ss, tc.ff, rate.toByte]))
  | .essence seq frame stream last offset bytes => some (.body, frameBytes kindEssence 0#8 seq
      (leBytes 4 frame.toNat ++ [stream.toByte, if last then 1#8 else 0#8] ++ leBytes 4 offset.toNat
        ++ bytes))
  | .vfLine seq line pixels => some (.body, frameBytes kindVfLine 0#8 seq
      (leBytes 2 line.toNat ++ pixels.flatMap (fun p => leBytes 4 p.toNat)))
  | .linkReset link epoch => some (link, frameBytes kindLinkReset 0#8 0#8 [epoch])
  | .get seq src tag item => command seq (commandPayload src tag 1#8 [item])
  | .set seq src tag item value =>
    command seq (commandPayload src tag 2#8 (item :: leBytes 4 value.toNat))
  | .select seq src tag table index =>
    command seq (commandPayload src tag 3#8 (table :: leBytes 2 index.toNat))
  | .write seq src tag n data =>
    command seq (commandPayload src tag 4#8 (leBytes 2 n.toNat ++ data))
  | .read seq src tag n => command seq (commandPayload src tag 5#8 (leBytes 2 n.toNat))
  | .recStart seq src tag => action seq src tag 1#8 []
  | .recStop seq src tag => action seq src tag 2#8 []
  | .mark seq src tag => action seq src tag 3#8 []
  | .zoomPreset seq src tag n => action seq src tag 4#8 [n]
  | .zoomStop seq src tag => action seq src tag 5#8 []
  | .stabOn seq src tag => action seq src tag 6#8 []
  | .stabOff seq src tag => action seq src tag 7#8 []
  | .baselineReset seq src tag => action seq src tag 8#8 []
  | .enterSetup seq src tag => action seq src tag 9#8 []
  | .enterRun seq src tag => action seq src tag 10#8 []
  | .lensTableClear seq src tag => action seq src tag 11#8 []
  | .clearHold seq src tag slot => action seq src tag 12#8 [slot]
  | .clearFault seq src tag scope group detail => action seq src tag 13#8 [scope, group, detail]
  | .storeScene seq src tag area => action seq src tag 14#8 [area]
  | .recallScene seq src tag area => action seq src tag 15#8 [area]
  | .recallFactory seq src tag => action seq src tag 16#8 []
  | .storeFixed seq src tag => action seq src tag 17#8 []
  | _ => none
where
  command (seq : Byte) (payload : List Byte) : Option (LinkId × List Byte) :=
    some (.body, frameBytes kindCommand 0#8 seq payload)
  action (seq : Byte) (src : Source) (tag code : Byte) (args : List Byte) :
      Option (LinkId × List Byte) :=
    command seq (commandPayload src tag 6#8 (code :: args))

/-- The command a word spells by the table's bits. The table gives no row any bits (log entry 33). -/
def decodeTableWord (_nbits _w : Nat) : Option Instr := none

end Sys2Proof
end

