-- ==== Sys2Proof/Machine/Arith.lean ====
section
/-! DEFINITION. The integer arithmetic of R1: truncation, rounding, saturation, and the counters that
stop at 65535. -/

namespace Sys2Proof.Machine

/-- A count held in 0..65535. -/
def sat16 (n : Nat) : Nat := min n 65535

/-- Saturated: clamped to `lo..hi` (R1). -/
def clampInt (lo hi x : Int) : Int := if x < lo then lo else if hi < x then hi else x

/-- Saturated: clamped to `lo..hi` (R1). -/
def clampNat (lo hi x : Nat) : Nat := if x < lo then lo else if hi < x then hi else x

/-- Quotient truncated toward zero (R1). -/
def truncDiv (a b : Int) : Int := Int.tdiv a b

/-- Quotient rounded to the nearest integer, halves away from zero (R1); `b` is positive. -/
def roundDiv (a : Int) (b : Nat) : Int :=
  if a < 0 then -(((2 * a.natAbs + b) / (2 * b) : Nat) : Int)
  else (((2 * a.natAbs + b) / (2 * b) : Nat) : Int)

/-- The range of a signed 24-bit sample. -/
def clampSample (x : Int) : Int := clampInt (-8388608) 8388607 x

/-- The entries `c..c+n-1` of a table replaced by `es`. -/
def replaceAt {α : Type} (xs : List α) (c : Nat) (es : List α) : List α :=
  xs.take c ++ es ++ xs.drop (c + es.length)

/-- The last `n` of a list, oldest first. -/
def keepLast {α : Type} (n : Nat) (xs : List α) : List α := xs.drop (xs.length - n)

end Sys2Proof.Machine
end

