-- ==== Sys2Proof/Machine/Types.lean ====
section
/-! DEFINITION. What each block of the part holds, as plain data: the state tables of chapters 1 to
10, one structure a block, and the packets and requests that leave the part. -/

namespace Sys2Proof.Machine

/-- A timer of the part. Elapsed time is the environment's (an expiry is a command); the part holds
whether the timer runs, and the period it was started with, in ms (DEDUCED, log entry 11). -/
inductive Timer where
  | stopped
  | running (ms : Nat)
  | expired
  deriving DecidableEq, Repr

/-- A timer whose expiry can occur. -/
def Timer.isRunning : Timer → Bool
  | .running _ => true
  | _ => false

/-- A kept button level (R10, R33, R90). -/
inductive Level where
  | unknown | released | pressed
  deriving DecidableEq, Repr

/-! ### Fault groups (R151) -/

/-- The twelve groups, in number order. -/
inductive Group where
  | gyroLost | shiftMismatch | lensSilent | lensFault | audioGap | audioClip | slotSlow
  | storePressure | essenceGap | vfLineLoss | linkCrc | mediaError
  deriving DecidableEq, Repr

/-- NOTIFY of a group (R153). -/
inductive Notify where
  | none | line | notice | both
  deriving DecidableEq, Repr

/-- The set of a group's ACTIONS (R153). -/
structure Actions where
  stabOff : Bool
  zoomStop : Bool
  markClip : Bool
  vfWarn : Bool
  stopRec : Bool
  deriving DecidableEq, Repr

/-- An entry of the fault table, table 8 (R153). -/
structure FaultEntry where
  nr : Nat
  countBypass : Bool
  checkDiv : Nat
  notify : Notify
  actions : Actions
  deriving DecidableEq, Repr

/-- What supervision keeps of one group: per detail the consecutive counter and the sticky detail
flag, and the summary flag (7.1). -/
structure GroupState where
  counters : List Nat
  flags : List Bool
  summary : Bool
  deriving DecidableEq, Repr

/-- Fault supervision (7.1). -/
structure Supervision where
  /-- table 8, 12 entries -/
  table : List FaultEntry
  /-- the twelve groups, in number order -/
  groups : List GroupState
  timer : Timer
  /-- check-cycle count, 0..839 -/
  cycle : Nat
  /-- the attention line: asserted or released -/
  attention : Bool
  /-- FAULT_RISINGS -/
  risings : Nat
  deriving DecidableEq, Repr

/-! ### Zoom drive (1.1) -/

inductive OpticsMode where
  | setup | run
  deriving DecidableEq, Repr

/-- An entry of the lens table, table 1 (R4). -/
structure LensEntry where
  z : Nat
  focal : Nat
  gain : Nat
  travel : Nat
  deriving DecidableEq, Repr

/-- An entry of the preset table, table 3 (R11). -/
structure Preset where
  target : Nat
  speed : Nat
  deriving DecidableEq, Repr

/-- The last lens report (R22). -/
structure LensReport where
  z : Nat
  shift : YawPitch Int
  wide : Bool
  tele : Bool
  fault : Bool
  deriving DecidableEq, Repr

/-- The preset record of the active move (R13), with the speed last computed for it (R14). -/
structure Move where
  preset : Nat
  target : Nat
  speed : Nat
  current : Int
  timeout : Timer
  deriving DecidableEq, Repr

/-- The claimant that sets the zoom speed (R18). -/
inductive Grant where
  | none | stop | rocker | preset
  deriving DecidableEq, Repr

structure Zoom where
  /-- table 1: the entries held -/
  lens : List LensEntry
  /-- table 2: nine entries, `none` while unset -/
  curve : List (Option Nat)
  /-- table 3: four entries -/
  presets : List Preset
  mode : OpticsMode
  report : LensReport
  lensSilence : Timer
  lensSilentPresent : Bool
  /-- the rocker claim, with its signed speed -/
  rocker : Option Int
  rockerLapse : Timer
  p1 : Level
  p2 : Level
  /-- the supervision cause of the stop claim: stop-claiming groups, in number order (R19) -/
  stopGroups : List Group
  /-- no PANEL has been taken since the stop claim arose (R19) -/
  stopFresh : Bool
  move : Option Move
  /-- the pending-preset slot -/
  pendingPreset : Option Nat
  sentSpeed : Int
  refresh : Timer
  /-- ZOOM_IGNORED -/
  ignored : Nat
  deriving DecidableEq, Repr

/-! ### Image stabiliser (2.1) -/

inductive StabState where
  | off | settling | running
  deriving DecidableEq, Repr

/-- The stabiliser's stop reason (R31). -/
inductive StabReason where
  | none | operator | fault | setup
  deriving DecidableEq, Repr

/-- What the stabiliser keeps of one axis. -/
structure Axis where
  /-- in PAN, while running -/
  pan : Bool
  settleSum : Int
  /-- averaging window, oldest first -/
  window : List Int
  /-- baseline B -/
  base : Int
  /-- bucket Q -/
  bucket : Int
  /-- integrator A -/
  integ : Int
  debounce : Nat
  clampCount : Nat
  holdOff : Nat
  lastRaw : Int
  /-- SHIFT_MISMATCH present of this axis -/
  mismatch : Bool
  deriving DecidableEq, Repr

structure Stabiliser where
  state : StabState
  /-- gyro hold -/
  hold : Bool
  reason : StabReason
  settleCount : Nat
  yaw : Axis
  pitch : Axis
  dropWindow : Nat
  /-- shift history ring, oldest first -/
  ring : List (YawPitch Int)
  gyroSilence : Timer
  longGap : Timer
  button : Level
  /-- GYRO_LOST present -/
  gyroLost : Bool
  deriving DecidableEq, Repr

/-- The STAB_STATE live value (R50). -/
inductive StabLive where
  | off
  | settling
  | running (yawPan pitchPan : Bool)
  deriving DecidableEq, Repr

/-! ### Audio unit (3.1) -/

structure Audio where
  /-- table 4: M_0..M_160 -/
  gainTable : List Nat
  /-- current gain index per input -/
  gainNow : Quad Nat
  /-- limiter gain Lg per track -/
  limGain : Quad Nat
  /-- clip flag per track, of the packet last processed -/
  clip : Quad Bool
  /-- meter accumulator per track -/
  peakAcc : Quad Nat
  /-- meter period count, 0..9 packets -/
  period : Nat
  /-- meter level m per track -/
  meter : Quad (Option Nat)
  /-- peak hold H per track -/
  peak : Quad (Option Nat)
  holdCount : Quad Nat
  riseCount : Quad Nat
  /-- track FIFOs, oldest first -/
  fifo : Quad (List Int)
  /-- FIFO overflow counts -/
  overflow : Quad Nat
  silence : Timer
  meterLapse : Timer
  /-- audio gap count -/
  gapCount : Nat
  /-- AUDIO_GAP present of IN1..IN4: the four are set and cleared together (R57) -/
  gapPresent : Bool
  /-- AUDIO_CLIP present per track -/
  clipPresent : Quad Bool
  deriving DecidableEq, Repr

/-! ### Record assembler (4.1) -/

/-- One essence stream of a unit (R80): the bytes held, the byte count, whether the stream's last
flag has been taken. -/
structure UnitStream where
  bytes : List Byte
  count : Nat
  last : Bool
  deriving DecidableEq, Repr

/-- A record unit (R80). `id` is the model's name for the unit (its place in the DRAM is left out, log
entry 28). -/
structure RecordUnit where
  id : Nat
  frame : Nat
  tc : Timecode
  rate : RateCode
  main : UnitStream
  proxy : UnitStream
  audio : Quad (List Int)
  z : Nat
  focal : Option Nat
  stab : StabLive
  /-- summary fault set -/
  faults : List Group
  incomplete : Bool
  audioShort : Bool
  oversize : Bool
  dropped : Bool
  /-- an ESSENCE packet was taken for it by R82 step 7 (R96) -/
  tookEssence : Bool
  /-- the blocks held, head block first -/
  blocks : List Nat
  /-- reference count (R77) -/
  refs : Nat
  deriving DecidableEq, Repr

/-- The unit store (R76). The free list is the blocks returned so far, in the order of their return,
and every block from `fresh` up, none of which was ever handed out. -/
structure UnitStore where
  returned : List Nat
  fresh : Nat
  units : List RecordUnit
  nextId : Nat
  deriving DecidableEq, Repr

inductive RecState where
  | idle | standby | starting | recording | stopping
  deriving DecidableEq, Repr

/-- The reasons of RECORD notices, in the order of 9.7; stop reasons are among them. -/
inductive RecReason where
  | preRec | start | opened | noMedia | openFailed | mediaLost | operator | fault | essenceLost
  | frameDiscontinuity | mediaFull | relayExhausted
  deriving DecidableEq, Repr

inductive Lamp where
  | off | on | blink
  deriving DecidableEq, Repr

/-- The kinds of mark with their optional fields (R99). -/
inductive MarkKind where
  | shot
  | fault (group : Group)
  | gap (count : Nat)
  | relay (slot : SlotId)
  | writeSkip (count : Nat) (slot : SlotId)
  deriving DecidableEq, Repr

structure ClipMark where
  kind : MarkKind
  frame : Nat
  deriving DecidableEq, Repr

inductive Phase where
  | opened | closing | ended
  deriving DecidableEq, Repr

/-- A clip part as the assembler holds it (R98). -/
structure ClipPart where
  clip : Nat
  number : Nat
  slot : SlotId
  phase : Phase
  offered : Nat
  marks : List ClipMark
  marksLost : Nat
  deriving DecidableEq, Repr

/-- The open frame (R81). -/
structure OpenFrame where
  frame : Nat
  tc : Timecode
  rate : RateCode
  deriving DecidableEq, Repr

structure Recorder where
  store : UnitStore
  /-- the unit under assembly -/
  assembly : Option Nat
  openFrame : Option OpenFrame
  /-- the last FRAME_MARK taken -/
  lastMark : Option OpenFrame
  markSilence : Timer
  /-- the pre-record ring, oldest first -/
  ring : List Nat
  state : RecState
  pendingStop : Option RecReason
  stopReason : Option RecReason
  clipCounter : Nat
  /-- the parts of the current clip, newest first -/
  parts : List ClipPart
  /-- essence loss count -/
  lossCount : Nat
  recButton : Level
  markButton : Level
  lamp : Lamp
  ringEvicted : Nat
  droppedUnits : Nat
  essenceDiscarded : Nat
  triggerIgnored : Nat
  /-- ESSENCE_GAP present -/
  essenceGap : Bool
  deriving DecidableEq, Repr

/-! ### Slot controllers (5.1) -/

inductive SlotState where
  | empty | mounting | ready | full | opening | writing | closing
  deriving DecidableEq, Repr

inductive CloseReason where
  | stop | full | relay | abort
  deriving DecidableEq, Repr

/-- The reasons of SLOT notices, in the order of 9.7. -/
inductive SlotReason where
  | inserted | remount | mounted | mountFailed | removed | partOpen | opened | openFailed | stop
  | full | relay | abort | closed | closeFailed | aborted
  deriving DecidableEq, Repr

/-- The kinds of request (R206). -/
inductive RequestKind where
  | mount | partOpen | unitWrite | partClose
  deriving DecidableEq, Repr

/-- What the slot controller keeps of its slot part (5.1; its counts have no stated saturation, log
entry 35). -/
structure SlotPart where
  clip : Nat
  number : Nat
  written : Nat
  skipped : Nat
  lost : Nat
  spaceRefused : Bool
  damaged : Bool
  closeReason : CloseReason
  firstFrame : Option Nat
  lastFrame : Option Nat
  deriving DecidableEq, Repr

/-- The outstanding request: its kind and request number. -/
structure Request where
  kind : RequestKind
  number : Byte
  deriving DecidableEq, Repr

structure Slot where
  state : SlotState
  /-- the level of the presence line at the pin -/
  line : Bool
  cardPresent : Bool
  hold : Bool
  /-- free blocks F -/
  free : Nat
  part : Option SlotPart
  /-- write queue, oldest first -/
  queue : List Nat
  reserved : Nat
  /-- write in flight -/
  inFlight : Option Nat
  request : Option Request
  requestNumber : Byte
  slowTimer : Timer
  requestTimer : Timer
  mountTimer : Timer
  /-- recent unit sizes, oldest first -/
  recent : List Nat
  /-- STALE_COMPLETIONS -/
  stale : Nat
  /-- SLOT_SLOW present -/
  slowPresent : Bool
  /-- MEDIA_ERROR present -/
  mediaError : Bool
  deriving DecidableEq, Repr

/-! ### Viewfinder compositor (6.1) -/

structure Pixel where
  y : Nat
  cb : Nat
  cr : Nat
  deriving DecidableEq, Repr

/-- A palette entry, table 6 (R139). -/
structure PaletteEntry where
  y : Nat
  cb : Nat
  cr : Nat
  opacity : Nat
  deriving DecidableEq, Repr

/-- A glyph: 16 rows, bit k of a row the pixel of column k (R143, R205). -/
structure Glyph where
  rows : List (BitVec 12)
  deriving DecidableEq, Repr

inductive Condition where
  | always | onRec | notRec | warning | pan | limit
  deriving DecidableEq, Repr

inductive ValueSource where
  | timecode | remainA | remainB | focal | zoomPct | clip
  deriving DecidableEq, Repr

/-- The fields every kind but NONE uses (R137). -/
structure DisplayBase where
  x : Nat
  y : Nat
  w : Nat
  h : Nat
  colour : Nat
  condition : Condition
  blink : Bool
  deriving DecidableEq, Repr

/-- The kinds but NONE, each with the further fields it uses (R137). -/
inductive DisplayKind where
  | box
  | frame (lineWidth : Nat)
  | text (alternate : Nat) (codes : List Nat)
  | meter (alternate : Nat) (track : Four)
  | zoomBar (alternate : Nat)
  | tallyBorder
  | value (alternate : Nat) (source : ValueSource)
  deriving DecidableEq, Repr

/-- A display entry, table 5 (R137): kind NONE uses no field. -/
inductive DisplayEntry where
  | none
  | item (base : DisplayBase) (kind : DisplayKind)
  deriving DecidableEq, Repr

/-- The live values of one slot (R125). -/
structure SlotLive where
  state : SlotState
  hold : Bool
  busy : Bool
  remaining : Option Nat
  deriving DecidableEq, Repr

/-- The snapshot of a viewfinder frame (R134) with the zebra items latched (R148). -/
structure Snapshot where
  focal : Option Nat
  zoomPct : Option Nat
  stab : StabLive
  travelLimit : YawPitch Bool
  meter : Quad (Option Nat)
  peak : Quad (Option Nat)
  limiting : Quad Bool
  recState : RecState
  clip : Option Nat
  timecode : Option Timecode
  slotA : SlotLive
  slotB : SlotLive
  warning : Bool
  zebraOn : Bool
  zebra1Base : Nat
  zebra1Limit : Nat
  zebra2Base : Nat
  zebra2Limit : Nat
  deriving DecidableEq, Repr

structure Viewfinder where
  /-- table 5: 48 entries, as written by management -/
  editList : List DisplayEntry
  editChanged : Bool
  liveList : List DisplayEntry
  /-- table 6: 16 entries -/
  palette : List PaletteEntry
  /-- table 7: 96 glyphs, codes 32..127 -/
  glyphs : List Glyph
  snapshot : Option Snapshot
  /-- warning groups, in number order (R135) -/
  warnGroups : List Group
  /-- stripe phase, 0..7 -/
  stripe : Nat
  /-- blink counter, 0..31 -/
  blink : Nat
  /-- expected line, 0..539 -/
  expected : Nat
  lastGood : Option (List Pixel)
  lineSilence : Timer
  /-- VF_LINES_REPEATED -/
  repeated : Nat
  /-- VF_LINES_DROPPED -/
  dropped : Nat
  /-- VF_LINE_LOSS present -/
  lossPresent : Bool
  deriving DecidableEq, Repr

/-! ### Management unit (9.1) -/

/-- The nine tables (9.4). -/
inductive TableId where
  | lens | speedCurve | presets | gain | display | palette | glyph | fault | map
  deriving DecidableEq, Repr

structure Cursor where
  table : TableId
  index : Nat
  deriving DecidableEq, Repr

/-- The management unit (9.1). -/
structure Management where
  cursor0 : Option Cursor
  cursor1 : Option Cursor
  /-- table 9: 17 entries, whatever the entry count (R188) -/
  map : List (BitVec 16)
  /-- table 9: the entry count, 0..17 -/
  mapCount : Nat
  /-- DENIED_COUNT -/
  denied : Nat
  deriving DecidableEq, Repr

/-- The statuses of R182, in table order. -/
inductive Status where
  | ok | clamped | denied | readOnly | badItem | badTable | noCursor | badLength | wrongMode
  | tableInvalid | refusedState | busy | badCommand
  deriving DecidableEq, Repr

/-- The statuses a preset move ends with (R15), in the order of 9.7. -/
inductive MoveEnd where
  | arrived | timedOut | preempted | stopped | cancelled
  deriving DecidableEq, Repr

/-- The reasons of MODE notices, in the order of 9.7. -/
inductive ModeReason where
  | run | setup | operator | baseline | gyroGap | settled | fault
  deriving DecidableEq, Repr

/-- An area that a STORE notice names (R204): scenes 0..3, then the fixed area. -/
inductive AreaId where
  | scene (n : Four)
  | fixed
  deriving DecidableEq, Repr

/-- The notices (R191). -/
inductive Notice where
  | fault (group : Group) (detail : Nat)
  | slot (slot : SlotId) (state : SlotState) (reason : SlotReason)
  | record (state : RecState) (clip : Nat) (reason : RecReason)
  | preset (status : MoveEnd)
  | store (area : AreaId) (ok : Bool)
  | mode (optics : OpticsMode) (stab : StabState) (reason : ModeReason)
  deriving DecidableEq, Repr

/-! ### Items (9.8): the settable ones, grouped by owner -/

structure ZoomItems where
  deadband : Nat
  scale : Nat
  approach : Nat
  arriveWindow : Nat
  presetTimeout : Nat
  deriving DecidableEq, Repr

structure StabItems where
  enable : Bool
  avgCount : Nat
  noiseTh : Nat
  bucketTh : Nat
  panTh : Nat
  panHyst : Nat
  panDebounce : Nat
  leakSteady : Nat
  leakPan : Nat
  clampPanCount : Nat
  dropWindow : Nat
  mismatchTol : Nat
  deriving DecidableEq, Repr

structure AudioItems where
  /-- for each track the input it carries -/
  assign : Quad Nat
  /-- target gain index per input -/
  inGain : Quad Nat
  limitOn : Quad Bool
  limitTh : Nat
  limitRel : Nat
  link12 : Bool
  link34 : Bool
  monL : Quad Nat
  monR : Quad Nat
  deriving DecidableEq, Repr

inductive RecMode where
  | single | dual | relay
  deriving DecidableEq, Repr

structure RecItems where
  mode : RecMode
  activeSlot : SlotId
  preRecSeconds : Nat
  essenceLossFrames : Nat
  estBlocks : Nat
  deriving DecidableEq, Repr

inductive ErrorPolicy where
  | skip | abort
  deriving DecidableEq, Repr

structure SlotItems where
  policyA : ErrorPolicy
  policyB : ErrorPolicy
  deriving DecidableEq, Repr

structure VfItems where
  zebraOn : Bool
  zebra1Base : Nat
  zebra1Limit : Nat
  zebra2Base : Nat
  zebra2Limit : Nat
  deriving DecidableEq, Repr

structure Items where
  zoom : ZoomItems
  stab : StabItems
  audio : AudioItems
  record : RecItems
  slots : SlotItems
  vf : VfItems
  /-- SUP_PERIOD, ms -/
  supPeriod : Nat
  deriving DecidableEq, Repr

/-! ### Scene memory (10.1) -/

/-- The contents of the fixed area. -/
structure FixedArea where
  lens : List LensEntry
  curve : List (Option Nat)
  gainTable : List Nat
  glyphs : List Glyph
  fault : List FaultEntry
  palette : List PaletteEntry
  deriving DecidableEq, Repr

/-- The contents of a scene area. -/
structure SceneArea where
  items : Items
  presets : List Preset
  display : List DisplayEntry
  deriving DecidableEq, Repr

/-- The operation in flight (R195). A store holds the copy it writes (R196); a recall holds the
contents it reads and whether a record start has been taken since its taking (R197). -/
inductive SceneOp where
  | idle
  | storeScene (n : Four) (copy : SceneArea)
  | storeFixed (copy : FixedArea)
  | recallScene (n : Four) (contents : SceneArea) (startTaken : Bool)
  deriving DecidableEq, Repr

/-- Scene memory. An area is `none` while it is invalid: the part never loads from it (10.1). -/
structure SceneMemory where
  fixed : Option FixedArea
  scenes : Quad (Option SceneArea)
  /-- the clip counter cell -/
  cell : Option Nat
  op : SceneOp
  /-- the number a cell write in progress writes -/
  cellWrite : Option Nat
  /-- the pending clip number (R198) -/
  cellPending : Option Nat
  deriving DecidableEq, Repr

/-! ### Links (8.1) -/

inductive LinkState where
  | aligned | resync
  deriving DecidableEq, Repr

/-- The inbound kinds that carry a checked sequence (R172, R173). -/
inductive InKind where
  | motion | lensReport | panel | audioIn | frameMark | essence | vfLine | command
  deriving DecidableEq, Repr

/-- The link an inbound kind arrives on (R172). -/
def InKind.link : InKind → LinkId
  | .motion | .lensReport | .panel | .audioIn => .head
  | .frameMark | .essence | .vfLine | .command => .body

/-- Where a link keeps the expectation of a kind. -/
def InKind.place : InKind → Four
  | .motion | .frameMark => .i1
  | .lensReport | .essence => .i2
  | .panel | .vfLine => .i3
  | .audioIn | .command => .i4

/-- What an outbound packet carries (R178, R201, R203, R204). -/
inductive OutMsg where
  | zoomCmd (speed : Int)
  | shiftCmd (shift : YawPitch Int)
  | tally (lamp : Lamp)
  | reply (tag : Byte) (status : Status) (data : List Byte)
  | notice (n : Notice)
  | monitor (pairs : List (Int × Int))
  deriving DecidableEq, Repr

/-- The link an outbound packet is handed to (R178). -/
def OutMsg.link : OutMsg → LinkId
  | .zoomCmd _ | .shiftCmd _ | .tally _ => .head
  | .reply _ _ _ | .notice _ | .monitor _ => .body

/-- Where a link keeps the outbound sequence of a kind; the fourth place is LINK_RESET's. -/
def OutMsg.place : OutMsg → Four
  | .zoomCmd _ | .reply _ _ _ => .i1
  | .shiftCmd _ | .notice _ => .i2
  | .tally _ | .monitor _ => .i3

/-- A packet of a transmit queue: its sequence and what it carries. -/
structure OutPacket where
  seq : Byte
  msg : OutMsg
  deriving DecidableEq, Repr

/-- A link controller (8.1). -/
structure LinkCtl where
  state : LinkState
  /-- expected sequence per inbound kind -/
  expect : Quad (Option Byte)
  /-- consecutive CRC failures -/
  crcFails : Nat
  goodRun : Nat
  ownEpoch : Byte
  partnerEpoch : Option Byte
  resend : Timer
  /-- outbound sequence per outbound kind, LINK_RESET fourth -/
  outSeq : Quad Byte
  /-- transmit queue, oldest first -/
  txQueue : List OutPacket
  crcErrors : Nat
  missed : Nat
  repeats : Nat
  rejected : Nat
  foreign : Nat
  linkResets : Nat
  outDropped : Nat
  outDiscarded : Nat
  /-- LINK_CRC present of this link -/
  crcPresent : Bool
  deriving DecidableEq, Repr

/-! ### What leaves the part -/

/-- The part close record (R120). -/
structure CloseRecord where
  clip : Nat
  number : Nat
  slot : SlotId
  damaged : Bool
  closeReason : CloseReason
  firstFrame : Option Nat
  lastFrame : Option Nat
  written : Nat
  skipped : Nat
  lost : Nat
  offered : Nat
  marksLost : Nat
  marks : List ClipMark
  deriving DecidableEq, Repr

/-- What a slot request carries (R206). -/
inductive RequestBody where
  | mount
  | partOpen (clip number : Nat)
  | unitWrite (frame size : Nat)
  | partClose (record : CloseRecord)
  deriving DecidableEq, Repr

/-- What the part puts on its ports: a packet of a transmit queue sent to the line (R176), a
LINK_RESET sent ahead of it (R171), a composed line (R178), a slot request (R105). -/
inductive Emission where
  | packet (link : LinkId) (p : OutPacket)
  | linkReset (link : LinkId) (seq epoch : Byte)
  | viewfinderLine (seq : Byte) (line : Nat) (pixels : List Pixel)
  | slotRequest (slot : SlotId) (number : Byte) (body : RequestBody)
  deriving DecidableEq, Repr

end Sys2Proof.Machine
end

