-- ==== Sys2Proof/Machine/Factory.lean ====
section
/-! DEFINITION. The contents built into the part: the factory tables, the default items, the meter
thresholds and the cadence. -/

namespace Sys2Proof.Machine

/-! ### Gain table (R58): M_0 = 0, M_k = 65536 × 10^((k − 40) / 40), rounded -/

def gainRow0 : List Nat :=
  [0, 6942, 7353, 7789, 8250, 8739, 9257, 9806, 10387, 11002, 11654, 12345, 13076, 13851,
   14672, 15541, 16462, 17437, 18471, 19565, 20724, 21952, 23253, 24631, 26090, 27636, 29274,
   31008, 32846, 34792, 36854, 39037, 41350, 43801, 46396, 49145, 52057, 55142, 58409, 61870,
   65536]

def gainRow1 : List Nat :=
  [69419, 73533, 77890, 82505, 87394, 92572, 98057, 103868, 110022, 116541, 123447, 130762,
   138510, 146717, 155410, 164619, 174373, 184706, 195650, 207243, 219523, 232531, 246309,
   260904, 276363, 292739, 310084, 328458, 347920, 368536, 390373, 413504, 438006, 463959,
   491451, 520571, 551417, 584090, 618700, 655360, 694193]

def gainRow2 : List Nat :=
  [735326, 778897, 825049, 873937, 925721, 980573, 1038676, 1100221, 1165413, 1234468, 1307615,
   1385096, 1467168, 1554103, 1646190, 1743733, 1847055, 1956500, 2072430, 2195230, 2325305,
   2463088, 2609035, 2763630, 2927386, 3100844, 3284581, 3479204, 3685360, 3903731, 4135042,
   4380059, 4639593, 4914507, 5205710, 5514167, 5840902, 6186997, 6553600, 6941925, 7353260]

def gainRow3 : List Nat :=
  [7788968, 8250494, 8739366, 9257206, 9805730, 10386756, 11002210, 11654132, 12344683,
   13076151, 13850962, 14671683, 15541035, 16461899, 17437328, 18470554, 19565004, 20724303,
   21952295, 23253050, 24630880, 26090352, 27636302, 29273856, 31008441, 32845807, 34792043,
   36853601, 39037314, 41350421, 43800587, 46395935, 49145067, 52057095, 55141672, 58409021,
   61869974, 65536000]

/-- The 161 factory entries of table 4. `Laws/Factory.lean` checks each against the formula of R58. -/
def factoryGain : List Nat := gainRow0 ++ gainRow1 ++ gainRow2 ++ gainRow3

/-! ### Meter thresholds (R65): 8,388,607 × 10^(−n/20), rounded down, for n from 1 to 60 -/

def meterRow0 : List Nat :=
  [7476353, 6663307, 5938678, 5292853, 4717260, 4204262, 3747053, 3339564, 2976390, 2652710,
   2364230, 2107122, 1877975, 1673747, 1491728, 1329504, 1184922, 1056063, 941217, 838860,
   747635, 666330, 593867, 529285, 471726, 420426, 374705, 333956, 297639, 265271, 236423,
   210712, 187797, 167374, 149172, 132950, 118492, 105606, 94121, 83886, 74763, 66633, 59386,
   52928, 47172, 42042, 37470, 33395, 29763, 26527, 23642, 21071, 18779, 16737, 14917, 13295,
   11849, 10560, 9412, 8388]

/-- The 60 thresholds, that of n at position n − 1. `Laws/Factory.lean` checks each against R65. -/
def meterThresholds : List Nat := meterRow0

/-! ### Frame rates (R3, R69) -/

/-- The nominal rate of a rate code: its frame rate rounded up (R3). -/
def nominalRate : RateCode → Nat
  | .r23976 => 24
  | .r24 => 24
  | .r25 => 25
  | .r2997 => 30
  | .r30 => 30
  | .r50 => 50
  | .r5994 => 60
  | .r60 => 60

/-- The cadence: samples per track of one frame, by rate code and frame number mod 5 (R69). -/
def cadence (rate : RateCode) (frame : Nat) : Nat :=
  match rate with
  | .r23976 => 2002
  | .r24 => 2000
  | .r25 => 1920
  | .r2997 => if frame % 5 = 1 ∨ frame % 5 = 3 then 1601 else 1602
  | .r30 => 1600
  | .r50 => 960
  | .r5994 => if frame % 5 = 4 then 800 else 801
  | .r60 => 800

/-! ### Presets (R11) -/

def factoryPresets : List Preset := [⟨0, 512⟩, ⟨65535, 512⟩, ⟨16384, 256⟩, ⟨32768, 256⟩]

/-! ### Palette (R139) -/

def factoryPalette : List PaletteEntry :=
  [⟨64, 512, 512, 0⟩, ⟨64, 512, 512, 16⟩, ⟨940, 512, 512, 16⟩, ⟨502, 512, 512, 16⟩,
   ⟨250, 409, 960, 16⟩, ⟨691, 167, 105, 16⟩, ⟨877, 64, 553, 16⟩, ⟨127, 960, 471, 16⟩,
   ⟨64, 512, 512, 8⟩, ⟨940, 512, 512, 8⟩, ⟨250, 409, 960, 8⟩, ⟨877, 64, 553, 8⟩,
   ⟨64, 512, 512, 12⟩, ⟨691, 167, 105, 8⟩, ⟨64, 512, 512, 10⟩, ⟨940, 512, 512, 10⟩]

/-! ### Glyphs (R143) -/

/-- One row of a factory glyph. Codes 32 and 45 are as R143 states them; the other bitmaps are built
into the part and given in no rule: FREE VALUES (log entry 2). -/
def factoryGlyphRow (code row : Nat) : BitVec 12 :=
  if code = 32 then 0#12
  else if code = 45 then (if row = 7 ∨ row = 8 then 0x3FC#12 else 0#12)
  else Config.factoryGlyphRow code row

def factoryGlyph (code : Nat) : Glyph :=
  ⟨(List.range 16).map (factoryGlyphRow code)⟩

def factoryGlyphs : List Glyph := (List.range 96).map (fun i => factoryGlyph (i + 32))

/-! ### Fault table (R154) -/

def noActions : Actions := ⟨false, false, false, false, false⟩

def plainFault : FaultEntry := ⟨2, false, 0, .notice, noActions⟩

def factoryFault : List FaultEntry :=
  [⟨2, false, 0, .both, { noActions with stabOff := true }⟩, plainFault, plainFault,
   ⟨0, false, 0, .both, { noActions with zoomStop := true, stabOff := true }⟩,
   plainFault, plainFault, plainFault, plainFault, plainFault, plainFault, plainFault,
   ⟨0, false, 0, .notice, { noActions with markClip := true }⟩]

/-! ### Items: the defaults of R26, R49, R72, R101, R126, R148 and R164 -/

def defaultItems : Items where
  zoom := ⟨6, 0x0100, 2048, 32, 10⟩
  stab := ⟨true, 4, 24, 4000, 1280, 256, 30, 11, 6, 100, 40, 64⟩
  audio :=
    { assign := ⟨1, 2, 3, 4⟩
      inGain := .fill 40
      limitOn := .fill false
      limitTh := 7476345
      limitRel := 64
      link12 := false
      link34 := false
      monL := ⟨65536, 0, 0, 0⟩
      monR := ⟨0, 65536, 0, 0⟩ }
  record := ⟨.single, .a, 0, 25, 4⟩
  slots := ⟨.skip, .skip⟩
  vf := ⟨false, 760, 700, 940, 1023⟩
  supPeriod := 10

/-! ### Fault groups (R151) -/

namespace Group

def all : List Group :=
  [.gyroLost, .shiftMismatch, .lensSilent, .lensFault, .audioGap, .audioClip, .slotSlow,
   .storePressure, .essenceGap, .vfLineLoss, .linkCrc, .mediaError]

/-- The group number. -/
def number : Group → Nat
  | .gyroLost => 0
  | .shiftMismatch => 1
  | .lensSilent => 2
  | .lensFault => 3
  | .audioGap => 4
  | .audioClip => 5
  | .slotSlow => 6
  | .storePressure => 7
  | .essenceGap => 8
  | .vfLineLoss => 9
  | .linkCrc => 10
  | .mediaError => 11

/-- How many details the group has. -/
def details : Group → Nat
  | .gyroLost | .lensSilent | .lensFault | .storePressure | .essenceGap | .vfLineLoss => 1
  | .shiftMismatch | .slotSlow | .linkCrc | .mediaError => 2
  | .audioGap | .audioClip => 4

def ofNumber (n : Nat) : Option Group := all.find? (fun g => g.number == n)

end Group

/-- A group as supervision holds it at power-on (R165). -/
def clearGroup (g : Group) : GroupState :=
  ⟨List.replicate g.details 0, List.replicate g.details false, false⟩

end Sys2Proof.Machine
end

