-- ==== Sys2Proof/Machine/State.lean ====
section
/-! DEFINITION. The state of the part: one field a block, each block owning its own (chapters 1 to
10), the power-on reset in progress, the port output of the command in hand, and the queue of
commands waiting. -/

namespace Sys2Proof.Machine

/-- The machine's faults: none. No rule of the spec describes a condition that stops the part; every
condition the part detects is a present indicator, a counter or a status, and the part goes on. -/
inductive Fault where
  deriving DecidableEq, Repr

/-- The refusals. -/
inductive Refusal where
  /-- Raised by `exec` alone, for a command that has no meaning yet; every command has one, so nothing
  raises it. Safe: the machine stops where the part goes on. -/
  | notModelled (mnemonic : String)
  deriving DecidableEq, Repr

/-- Its own fields: log entry 1. -/
structure State where
  head : LinkCtl
  body : LinkCtl
  zoom : Zoom
  stab : Stabiliser
  audio : Audio
  recorder : Recorder
  slotA : Slot
  slotB : Slot
  vf : Viewfinder
  sup : Supervision
  mgmt : Management
  scene : SceneMemory
  /-- the settable items of every block (9.8) -/
  items : Items
  /-- viewfinder port sequence (R178) -/
  portSeq : Byte
  /-- power-on reset has begun and has not ended (R199, step 7) -/
  inReset : Bool
  /-- the MODEL's own field: what the command last executed put on the ports, oldest first -/
  out : List Emission
  /-- commands waiting, first in first out -/
  pending : List Instr
  deriving DecidableEq, Repr

/-! ### Power-on values of each block -/

/-- R180. -/
def LinkCtl.powerOn : LinkCtl where
  state := .resync
  expect := .fill none
  crcFails := 0
  goodRun := 0
  ownEpoch := 0#8
  partnerEpoch := none
  resend := .stopped
  outSeq := .fill 0#8
  txQueue := []
  crcErrors := 0
  missed := 0
  repeats := 0
  rejected := 0
  foreign := 0
  linkResets := 0
  outDropped := 0
  outDiscarded := 0
  crcPresent := false

/-- R27, with the fixed area and scene 0 not valid. -/
def Zoom.powerOn : Zoom where
  lens := []
  curve := List.replicate 9 none
  presets := factoryPresets
  mode := .setup
  report := ⟨0, .both 0, false, false, false⟩
  lensSilence := .stopped
  lensSilentPresent := false
  rocker := none
  rockerLapse := .stopped
  p1 := .unknown
  p2 := .unknown
  stopGroups := []
  stopFresh := false
  move := none
  pendingPreset := none
  sentSpeed := 0
  refresh := .stopped
  ignored := 0

/-- R51, for one axis. -/
def Axis.powerOn : Axis where
  pan := false
  settleSum := 0
  window := []
  base := 0
  bucket := 0
  integ := 0
  debounce := 0
  clampCount := 0
  holdOff := 0
  lastRaw := 0
  mismatch := false

/-- R51. -/
def Stabiliser.powerOn : Stabiliser where
  state := .off
  hold := false
  reason := .none
  settleCount := 0
  yaw := .powerOn
  pitch := .powerOn
  dropWindow := 0
  ring := []
  gyroSilence := .stopped
  longGap := .stopped
  button := .unknown
  gyroLost := false

/-- R74, with the fixed area and scene 0 not valid. -/
def Audio.powerOn : Audio where
  gainTable := factoryGain
  gainNow := .fill 40
  limGain := .fill 65536
  clip := .fill false
  peakAcc := .fill 0
  period := 0
  meter := .fill none
  peak := .fill none
  holdCount := .fill 0
  riseCount := .fill 5
  fifo := .fill []
  overflow := .fill 0
  silence := .stopped
  meterLapse := .stopped
  gapCount := 0
  gapPresent := false
  clipPresent := .fill false

/-- R103, with scene 0 and the clip counter cell not valid. -/
def Recorder.powerOn : Recorder where
  store := ⟨[], 0, [], 0⟩
  assembly := none
  openFrame := none
  lastMark := none
  markSilence := .stopped
  ring := []
  state := .idle
  pendingStop := none
  stopReason := none
  clipCounter := 0
  parts := []
  lossCount := 0
  recButton := .unknown
  markButton := .unknown
  lamp := .off
  ringEvicted := 0
  droppedUnits := 0
  essenceDiscarded := 0
  triggerIgnored := 0
  essenceGap := false

/-- R127, with the presence line at the level given. -/
def Slot.powerOn (line : Bool) : Slot where
  state := .empty
  line := line
  cardPresent := false
  hold := false
  free := 0
  part := none
  queue := []
  reserved := 0
  inFlight := none
  request := none
  requestNumber := 0#8
  slowTimer := .stopped
  requestTimer := .stopped
  mountTimer := .stopped
  recent := []
  stale := 0
  slowPresent := false
  mediaError := false

/-- R149, with the fixed area and scene 0 not valid. -/
def Viewfinder.powerOn : Viewfinder where
  editList := List.replicate 48 .none
  editChanged := false
  liveList := List.replicate 48 .none
  palette := factoryPalette
  glyphs := factoryGlyphs
  snapshot := none
  warnGroups := []
  stripe := 0
  blink := 31
  expected := 0
  lastGood := none
  lineSilence := .stopped
  repeated := 0
  dropped := 0
  lossPresent := false

/-- R165, with the fixed area not valid. -/
def Supervision.powerOn : Supervision where
  table := factoryFault
  groups := Group.all.map clearGroup
  timer := .stopped
  cycle := 0
  attention := false
  risings := 0

/-- R192. -/
def Management.powerOn : Management where
  cursor0 := none
  cursor1 := none
  map := List.replicate 17 0#16
  mapCount := 0
  denied := 0

/-- Scene memory with no valid area: a DESIGN CHOICE for the contents of the nonvolatile store of a
part that has never stored (log entry 5). -/
def SceneMemory.blank : SceneMemory where
  fixed := none
  scenes := .fill none
  cell := none
  op := .idle
  cellWrite := none
  cellPending := none

/-- The machine right after power-on reset has made steps 1 to 6 of R199 on a blank scene memory, with
no card in either slot; POWER_ON_RESET_END is the next thing that happens (log entries 5 and 6). -/
def State.reset : State where
  head := .powerOn
  body := .powerOn
  zoom := .powerOn
  stab := .powerOn
  audio := .powerOn
  recorder := .powerOn
  slotA := .powerOn false
  slotB := .powerOn false
  vf := .powerOn
  sup := .powerOn
  mgmt := .powerOn
  scene := .blank
  items := defaultItems
  portSeq := 0#8
  inReset := true
  out := []
  pending := []

/-! ### Fields by name -/

def State.link (s : State) : LinkId → LinkCtl
  | .head => s.head
  | .body => s.body

def State.setLink (s : State) (l : LinkId) (c : LinkCtl) : State :=
  match l with
  | .head => { s with head := c }
  | .body => { s with body := c }

def State.slot (s : State) : SlotId → Slot
  | .a => s.slotA
  | .b => s.slotB

def State.setSlot (s : State) (x : SlotId) (c : Slot) : State :=
  match x with
  | .a => { s with slotA := c }
  | .b => { s with slotB := c }

end Sys2Proof.Machine
end

