-- ==== Sys2Proof/Machine/Formats.lean ====
section
/-! DEFINITION. The byte layouts of chapter 11 for what leaves the part: outbound packets, composed
lines, slot requests, the part close record; and the codes of the enumerated values (R202). -/

namespace Sys2Proof.Machine

/-! ### Codes: position in the list of values of the owner's rule or of 9.7, from 0 (R202) -/

def OpticsMode.code : OpticsMode → Nat
  | .setup => 0
  | .run => 1

def Grant.code : Grant → Nat
  | .none => 0
  | .stop => 1
  | .rocker => 2
  | .preset => 3

/-- The stabiliser state of a MODE notice (R204). -/
def StabState.code : StabState → Nat
  | .off => 0
  | .settling => 1
  | .running => 2

/-- STAB_REASON by its own list: DEDUCED, log entry 21. -/
def StabReason.code : StabReason → Nat
  | .none => 0
  | .operator => 1
  | .fault => 2
  | .setup => 3

def RecState.code : RecState → Nat
  | .idle => 0
  | .standby => 1
  | .starting => 2
  | .recording => 3
  | .stopping => 4

def RecReason.code : RecReason → Nat
  | .preRec => 0
  | .start => 1
  | .opened => 2
  | .noMedia => 3
  | .openFailed => 4
  | .mediaLost => 5
  | .operator => 6
  | .fault => 7
  | .essenceLost => 8
  | .frameDiscontinuity => 9
  | .mediaFull => 10
  | .relayExhausted => 11

/-- STOP_PENDING and STOP_REASON carry NONE as 255 (R202). -/
def stopReasonCode : Option RecReason → Nat
  | none => 255
  | some r => r.code

def Lamp.code : Lamp → Nat
  | .off => 0
  | .on => 1
  | .blink => 2

def SlotState.code : SlotState → Nat
  | .empty => 0
  | .mounting => 1
  | .ready => 2
  | .full => 3
  | .opening => 4
  | .writing => 5
  | .closing => 6

def SlotReason.code : SlotReason → Nat
  | .inserted => 0
  | .remount => 1
  | .mounted => 2
  | .mountFailed => 3
  | .removed => 4
  | .partOpen => 5
  | .opened => 6
  | .openFailed => 7
  | .stop => 8
  | .full => 9
  | .relay => 10
  | .abort => 11
  | .closed => 12
  | .closeFailed => 13
  | .aborted => 14

/-- Close reasons of the part close record (R206). -/
def CloseReason.code : CloseReason → Nat
  | .stop => 0
  | .full => 1
  | .relay => 2
  | .abort => 3

def RequestKind.code : RequestKind → Nat
  | .mount => 0
  | .partOpen => 1
  | .unitWrite => 2
  | .partClose => 3

def Status.code : Status → Nat
  | .ok => 0
  | .clamped => 1
  | .denied => 2
  | .readOnly => 3
  | .badItem => 4
  | .badTable => 5
  | .noCursor => 6
  | .badLength => 7
  | .wrongMode => 8
  | .tableInvalid => 9
  | .refusedState => 10
  | .busy => 11
  | .badCommand => 12

def MoveEnd.code : MoveEnd → Nat
  | .arrived => 0
  | .timedOut => 1
  | .preempted => 2
  | .stopped => 3
  | .cancelled => 4

def ModeReason.code : ModeReason → Nat
  | .run => 0
  | .setup => 1
  | .operator => 2
  | .baseline => 3
  | .gyroGap => 4
  | .settled => 5
  | .fault => 6

def AreaId.code : AreaId → Nat
  | .scene n => n.idx
  | .fixed => 4

def LinkState.code : LinkState → Nat
  | .aligned => 0
  | .resync => 1

def RecMode.code : RecMode → Nat
  | .single => 0
  | .dual => 1
  | .relay => 2

def ErrorPolicy.code : ErrorPolicy → Nat
  | .skip => 0
  | .abort => 1

/-- off is 0 and on is 1 (R202). -/
def onCode (b : Bool) : Nat := if b then 1 else 0

/-- A flag whose values are listed as "set, clear", "true, false" or "asserted, released": the first
listed is 0 (R202; log entry 7). -/
def flagCode (b : Bool) : Nat := if b then 0 else 1

def Notify.code : Notify → Nat
  | .none => 0
  | .line => 1
  | .notice => 2
  | .both => 3

/-- The display kinds (R137). -/
def DisplayEntry.kindCode : DisplayEntry → Nat
  | .none => 0
  | .item _ .box => 1
  | .item _ (.frame _) => 2
  | .item _ (.text _ _) => 3
  | .item _ (.meter _ _) => 4
  | .item _ (.zoomBar _) => 5
  | .item _ .tallyBorder => 6
  | .item _ (.value _ _) => 7

def Condition.code : Condition → Nat
  | .always => 0
  | .onRec => 1
  | .notRec => 2
  | .warning => 3
  | .pan => 4
  | .limit => 5

def ValueSource.code : ValueSource → Nat
  | .timecode => 0
  | .remainA => 1
  | .remainB => 2
  | .focal => 3
  | .zoomPct => 4
  | .clip => 5

/-- The id of a table (9.4). -/
def TableId.code : TableId → Nat
  | .lens => 1
  | .speedCurve => 2
  | .presets => 3
  | .gain => 4
  | .display => 5
  | .palette => 6
  | .glyph => 7
  | .fault => 8
  | .map => 9

/-- ACTIONS as its byte (R205). -/
def Actions.code (a : Actions) : Nat :=
  onCode a.stabOff + 2 * onCode a.zoomStop + 4 * onCode a.markClip + 8 * onCode a.vfWarn
    + 16 * onCode a.stopRec

/-! ### Notices (R204) -/

def Notice.bytes : Notice → List Byte
  | .fault g d => leBytes 1 0 ++ leBytes 1 g.number ++ leBytes 1 d
  | .slot x st r => leBytes 1 1 ++ leBytes 1 x.code ++ leBytes 1 st.code ++ leBytes 1 r.code
  | .record st clip r => leBytes 1 2 ++ leBytes 1 st.code ++ leBytes 2 clip ++ leBytes 1 r.code
  | .preset e => leBytes 1 3 ++ leBytes 1 e.code
  | .store a ok => leBytes 1 4 ++ leBytes 1 a.code ++ leBytes 1 (if ok then 0 else 1)
  | .mode o st r => leBytes 1 5 ++ leBytes 1 o.code ++ leBytes 1 st.code ++ leBytes 1 r.code

/-! ### Outbound packets (R200, R201, R203) -/

def OutMsg.kind : OutMsg → Byte
  | .zoomCmd _ => kindZoomCmd
  | .shiftCmd _ => kindShiftCmd
  | .tally _ => kindTally
  | .reply _ _ _ => kindReply
  | .notice _ => kindNotice
  | .monitor _ => kindMonitor

def OutMsg.payload : OutMsg → List Byte
  | .zoomCmd speed => intBytes 2 speed
  | .shiftCmd c => intBytes 2 c.yaw ++ intBytes 2 c.pitch
  | .tally lamp => leBytes 1 lamp.code
  | .reply tag status data => tag :: leBytes 1 status.code ++ data
  | .notice n => n.bytes
  | .monitor pairs => pairs.flatMap (fun p => intBytes 3 p.1 ++ intBytes 3 p.2)

/-- A pixel word: Y bits 0..9, Cb bits 10..19, Cr bits 20..29, bits 30 and 31 zero (R201). -/
def Pixel.word (p : Pixel) : BitVec 32 :=
  (BitVec.ofNat 2 0 ++ BitVec.ofNat 10 p.cr ++ BitVec.ofNat 10 p.cb ++ BitVec.ofNat 10 p.y : BitVec 32)

/-- A received pixel word; bits 30 and 31 are ignored (R201). -/
def Pixel.ofWord (w : BitVec 32) : Pixel :=
  ⟨(w.extractLsb' 0 10).toNat, (w.extractLsb' 10 10).toNat, (w.extractLsb' 20 10).toNat⟩

/-! ### The part close record (R206) -/

/-- A count of more than 65535 has no stated form in its two bytes: FREE VALUE (log entry 3). -/
def markCountBytes (count : Nat) : List Byte :=
  if count ≤ 65535 then leBytes 2 count else leBytes 2 (Config.wideGapCount count).toNat

/-- A count of a part as four bytes carry it: past 4,294,967,295 a FREE VALUE (log entry 35). -/
def partCountValue (count : Nat) : Nat :=
  if count ≤ 4294967295 then count else (Config.widePartCount count).toNat

def ClipMark.bytes (m : ClipMark) : List Byte :=
  match m.kind with
  | .shot => leBytes 1 0 ++ leBytes 1 0 ++ leBytes 4 m.frame ++ leBytes 4 0
  | .fault g => leBytes 1 1 ++ leBytes 1 1 ++ leBytes 4 m.frame ++ leBytes 1 g.number ++ leBytes 3 0
  | .gap count => leBytes 1 2 ++ leBytes 1 2 ++ leBytes 4 m.frame ++ leBytes 2 0 ++ markCountBytes count
  | .relay x =>
    leBytes 1 3 ++ leBytes 1 4 ++ leBytes 4 m.frame ++ leBytes 1 0 ++ leBytes 1 x.code ++ leBytes 2 0
  | .writeSkip count x =>
    leBytes 1 4 ++ leBytes 1 6 ++ leBytes 4 m.frame ++ leBytes 1 0 ++ leBytes 1 x.code
      ++ markCountBytes count

def CloseRecord.bytes (r : CloseRecord) : List Byte :=
  leBytes 2 r.clip ++ leBytes 1 r.number ++ leBytes 1 r.slot.code
    ++ leBytes 1 (onCode r.damaged + 2 * onCode (r.firstFrame.isSome && r.lastFrame.isSome))
    ++ leBytes 1 r.closeReason.code
    ++ leBytes 4 (r.firstFrame.getD 0) ++ leBytes 4 (r.lastFrame.getD 0)
    ++ leBytes 4 (partCountValue r.written) ++ leBytes 4 (partCountValue r.skipped)
    ++ leBytes 4 (partCountValue r.lost) ++ leBytes 4 (partCountValue r.offered)
    ++ leBytes 2 r.marksLost ++ leBytes 1 r.marks.length ++ r.marks.flatMap ClipMark.bytes

def RequestBody.kind : RequestBody → RequestKind
  | .mount => .mount
  | .partOpen _ _ => .partOpen
  | .unitWrite _ _ => .unitWrite
  | .partClose _ => .partClose

def RequestBody.bytes : RequestBody → List Byte
  | .mount => []
  | .partOpen clip number => leBytes 2 clip ++ leBytes 1 number
  | .unitWrite frame size => leBytes 4 frame ++ leBytes 2 size
  | .partClose record => record.bytes

/-- The bytes of what leaves the part at a port (R200, R178, R206). -/
def Emission.bytes : Emission → List Byte
  | .packet _ p => frameBytes p.msg.kind 0#8 p.seq p.msg.payload
  | .linkReset _ seq epoch => frameBytes kindLinkReset 0#8 seq [epoch]
  | .viewfinderLine seq line pixels =>
    frameBytes kindVfLine 0#8 seq
      (leBytes 2 line ++ pixels.flatMap (fun p => leBytes 4 p.word.toNat))
  | .slotRequest _ number body => leBytes 1 body.kind.code ++ number :: body.bytes

end Sys2Proof.Machine
end

