-- ==== Sys2Proof/Machine/Ops.lean ====
section
/-! DEFINITION. The operations every block uses: handing a packet to a link controller, handing a
notice, putting something on a port, taking a packet through a link controller's checks. -/

namespace Sys2Proof.Machine

/-- A command begins: nothing of it is on the ports yet. -/
def State.begin (s : State) : State := { s with out := [] }

/-- Something leaves the part at a port. -/
def State.emit (s : State) (e : Emission) : State := { s with out := s.out ++ [e] }

/-! ### Sending (R176, R177) -/

/-- The most packets a transmit queue holds. -/
def txCapacity : Nat := 32

/-- A packet handed to the controller. RESYNC discards it (R177). ALIGNED gives it the next value of
its kind's outbound sequence; a queue of 32 discards it all the same (R176). -/
def LinkCtl.hand (c : LinkCtl) (m : OutMsg) : LinkCtl :=
  match c.state with
  | .resync => { c with outDiscarded := sat16 (c.outDiscarded + 1) }
  | .aligned =>
    let seq := c.outSeq.get m.place
    let c := { c with outSeq := c.outSeq.set m.place (seq + 1) }
    if c.txQueue.length < txCapacity then { c with txQueue := c.txQueue ++ [⟨seq, m⟩] }
    else { c with outDropped := sat16 (c.outDropped + 1) }

/-- A block hands a packet to the controller of the packet's link. -/
def State.hand (s : State) (m : OutMsg) : State := s.setLink m.link ((s.link m.link).hand m)

/-- A notice handed to the management unit goes to the body link at once (R191). -/
def State.notify (s : State) (n : Notice) : State := s.hand (.notice n)

/-- A MODE notice carries the modes as they stand (R29). -/
def State.notifyMode (s : State) (r : ModeReason) : State :=
  s.notify (.mode s.zoom.mode s.stab.state r)

/-- A LINK_RESET carrying the own epoch goes to the line ahead of the transmit queue (R171), under the
next value of its kind's outbound sequence (R167; a count of its own: DEDUCED, log entry 25). -/
def State.sendLinkReset (s : State) (l : LinkId) : State :=
  let c := s.link l
  let seq := c.outSeq.q4
  (s.setLink l { c with outSeq := c.outSeq.set .i4 (seq + 1) }).emit (.linkReset l seq c.ownEpoch)

/-- The resend timer starts: 2 ms (R170). -/
def LinkCtl.startResend (c : LinkCtl) : LinkCtl := { c with resend := .running 2 }

/-! ### Receiving (R168, R173) -/

/-- A packet that passed its CRC sets the consecutive CRC failure count to 0 (R168). -/
def LinkCtl.goodCrc (c : LinkCtl) : LinkCtl := { c with crcFails := 0 }

/-- A packet taken with `n` missed: MISSED and the expectation of its kind (R173). -/
def LinkCtl.takeSequence (c : LinkCtl) (p : Four) (seq : Byte) (n : Nat) : LinkCtl :=
  { c with expect := c.expect.set p (some (seq + 1)), missed := sat16 (c.missed + n) }

/-- The sequence check of R173. The second answer is the number of packets missed where the packet is
taken, and `none` where it is discarded as a repeat. -/
def LinkCtl.checkSequence (c : LinkCtl) (p : Four) (seq : Byte) : LinkCtl × Option Nat :=
  match c.expect.get p with
  | none => (c.takeSequence p seq 0, some 0)
  | some e =>
    let n := (seq - e).toNat
    if n = 255 then ({ c with repeats := sat16 (c.repeats + 1) }, none)
    else (c.takeSequence p seq n, some n)

/-- Changes 1 to 6 of R169. -/
def LinkCtl.resetChanges (c : LinkCtl) : LinkCtl :=
  { c with
    ownEpoch := c.ownEpoch + 1
    expect := .fill none
    outDiscarded := sat16 (c.outDiscarded + c.txQueue.length)
    txQueue := []
    outSeq := .fill 0#8
    crcFails := 0
    goodRun := 0
    linkResets := sat16 (c.linkResets + 1) }

end Sys2Proof.Machine
end

