-- ==== Sys2Proof/Machine/Lens.lean ====
section
/-! DEFINITION. The lens table, the speed curve and the interpolation service (R4 to R9, R24): pure
functions of the tables. -/

namespace Sys2Proof.Machine

/-- What the interpolation service answers (R6). -/
structure LensValues where
  gain : Nat
  focal : Nat
  travel : Nat
  deriving DecidableEq, Repr

def LensEntry.values (e : LensEntry) : LensValues := ⟨e.gain, e.focal, e.travel⟩

/-- A value between two entries: the first plus an increment truncated toward zero (R6). -/
def interpolate (va vb za zb z : Nat) : Nat :=
  ((va : Int) + truncDiv (((vb : Int) - va) * ((z : Int) - za)) ((zb : Int) - za)).toNat

/-- The lens values at a zoom position (R6). A table with no entry cannot be taken into RUN (R24), so
what the first case answers is never read (log entry 27). -/
def lensValues : List LensEntry → Nat → LensValues
  | [], _ => ⟨0, 0, 0⟩
  | [e], _ => e.values
  | e :: f :: rest, z =>
    if z ≤ e.z then e.values
    else if z < f.z then
      ⟨interpolate e.gain f.gain e.z f.z z, interpolate e.focal f.focal e.z f.z z,
        min e.travel f.travel⟩
    else lensValues (f :: rest) z

/-- The zoom percent of a zoom position between the first and last entries (R7). -/
def zoomPercent (lens : List LensEntry) (z : Nat) : Nat :=
  let z0 := (lens.head?.map LensEntry.z).getD 0
  let zl := (lens.getLast?.map LensEntry.z).getD 0
  (clampInt 0 100 (truncDiv (((z : Int) - z0) * 100) ((zl : Int) - z0))).toNat

/-- The Z_i strictly increase with index (R24). -/
def strictlyIncreasing : List LensEntry → Bool
  | e :: f :: rest => decide (e.z < f.z) && strictlyIncreasing (f :: rest)
  | _ => true

/-- The lens table test of R24. -/
def lensTableValid (lens : List LensEntry) : Bool :=
  decide (2 ≤ lens.length) && strictlyIncreasing lens

/-- No entry is smaller than the one before it, and all are set (R24). -/
def curveAscending : List (Option Nat) → Bool
  | some a :: some b :: rest => decide (a ≤ b) && curveAscending (some b :: rest)
  | [some _] => true
  | _ => false

/-- The speed curve test of R24: nine entries set, none smaller than the one before it. -/
def curveValid (curve : List (Option Nat)) : Bool :=
  decide (curve.length = 9) && curveAscending curve

/-- Both tables pass the test of R24. -/
def Zoom.tablesValid (z : Zoom) : Bool := lensTableValid z.lens && curveValid z.curve

/-- The service answers in RUN only (R6). -/
def Zoom.service (z : Zoom) (pos : Nat) : Option LensValues :=
  match z.mode with
  | .run => some (lensValues z.lens pos)
  | .setup => none

/-- The focal length live value (R7). -/
def Zoom.focalNow (z : Zoom) : Option Nat := (z.service z.report.z).map LensValues.focal

/-- The zoom percent live value (R7). -/
def Zoom.percentNow (z : Zoom) : Option Nat :=
  match z.mode with
  | .run => some (zoomPercent z.lens z.report.z)
  | .setup => none

/-- A curve entry as the arithmetic of R9 takes it: an unset one is 0 (R8). -/
def curveAt (curve : List (Option Nat)) (k : Nat) : Int := ((curve.getD k none).getD 0 : Nat)

/-- The number of set entries, CURVE_SET (R8). -/
def curveSet (curve : List (Option Nat)) : Nat := (curve.filter Option.isSome).length

/-- The rocker demand of a deflection: `none` inside the dead band, else the signed speed (R9). -/
def rockerDemand (curve : List (Option Nat)) (it : ZoomItems) (deflection : Int) : Option Int :=
  let d := if deflection = -128 then -127 else deflection
  let m := d.natAbs
  if m ≤ it.deadband then none
  else
    let k := m / 16
    let base := curveAt curve k
      + truncDiv ((curveAt curve (k + 1) - curveAt curve k) * ((m : Int) - 16 * k)) 16
    let speed := min (truncDiv (base * it.scale) 256) 1023
    some (if d < 0 then -speed else speed)

end Sys2Proof.Machine
end

