-- ==== Sys2Proof/Machine/Stabiliser.lean ====
section
/-! DEFINITION. The image stabiliser (chapter 2): entries to its states, the stages of a sample, gyro
gaps, the cross-check, its actions. -/

namespace Sys2Proof.Machine

/-! ### Entries to states (R30, R31) -/

/-- What entry to SETTLING makes of an axis (R30; STEADY outside running: DEDUCED, log entry 23). -/
def Axis.enterSettling (a : Axis) : Axis :=
  { a with settleSum := 0, integ := 0, clampCount := 0, window := [], pan := false, mismatch := false }

/-- Entry to SETTLING, without its MODE notice (R30). -/
def State.enterSettling (s : State) : State :=
  { s with
    stab :=
      { s.stab with
        state := .settling
        settleCount := 0
        ring := []
        yaw := s.stab.yaw.enterSettling
        pitch := s.stab.pitch.enterSettling } }.hand (.shiftCmd (.both 0))

/-- What entry to OFF makes of an axis (R31). -/
def Axis.enterOff (a : Axis) : Axis :=
  { a with
    integ := 0, bucket := 0, debounce := 0, clampCount := 0, holdOff := 0, window := [], pan := false
    mismatch := false }

/-- Entry to OFF from SETTLING or running, without its MODE notice (R31). -/
def State.enterOff (s : State) (r : StabReason) : State :=
  { s with
    stab :=
      { s.stab with
        state := .off
        reason := r
        hold := false
        ring := []
        yaw := s.stab.yaw.enterOff
        pitch := s.stab.pitch.enterOff } }.hand (.shiftCmd (.both 0))

/-! ### The stages of a running sample (R36 to R43), on one axis -/

/-- The sample joins the averaging window (R37). -/
def Axis.join (a : Axis) (r : Int) : Axis := { a with window := keepLast 8 (a.window ++ [r]) }

/-- The average of the last `count` samples of the window, or of all it holds (R37). -/
def Axis.average (a : Axis) (count : Nat) : Int :=
  let k := min count a.window.length
  truncDiv (keepLast k a.window).sum k

/-- The bucket tracks the baseline (R38). -/
def Axis.track (it : StabItems) (avgDiff : Int) (a : Axis) : Axis :=
  if avgDiff.natAbs ≤ it.noiseTh then
    let q := a.bucket + avgDiff
    if (it.bucketTh : Int) ≤ q then { a with base := min 1536 (a.base + 1), bucket := 0 }
    else if q ≤ -(it.bucketTh : Int) then { a with base := max (-1536) (a.base - 1), bucket := 0 }
    else { a with bucket := q }
  else a

/-- Pan detection (R40). The second answer: the axis left PAN for STEADY. -/
def Axis.detectPan (it : StabItems) (avgDiff : Int) (a : Axis) : Axis × Bool :=
  if a.pan then
    if (avgDiff.natAbs : Int) < (it.panTh : Int) - it.panHyst then ({ a with pan := false }, true)
    else (a, false)
  else if it.panTh + it.panHyst < avgDiff.natAbs then
    if it.panDebounce ≤ a.debounce + 1 then ({ a with pan := true, debounce := 0 }, false)
    else ({ a with debounce := a.debounce + 1 }, false)
  else ({ a with debounce := 0 }, false)

/-- The integrator's bound, 2^28 (R41). -/
def integMax : Int := 268435456

/-- Integration with the leak of the pan state (R41). -/
def Axis.integrate (it : StabItems) (diff : Int) (a : Axis) : Axis :=
  let l := if a.pan then it.leakPan else it.leakSteady
  { a with integ := clampInt (-integMax) integMax (a.integ + diff - truncDiv a.integ (2 ^ l)) }

/-- Stages 1 to 4. The differences use the baseline held when the sample arrives (R38); the drop is
judged at its arrival (R39). -/
def Axis.advance (it : StabItems) (dropCount : Nat) (r : Int) (a : Axis) : Axis × Bool :=
  let diff := r - a.base
  let joined := a.join r
  let avgDiff := joined.average it.avgCount - a.base
  let tracked := if a.pan || dropCount != 0 || a.holdOff != 0 then joined else joined.track it avgDiff
  let (panned, left) := tracked.detectPan it avgDiff
  (panned.integrate it diff, left)

/-- The unclamped correction: A × G / 32,768,000, rounded, negated (R43). -/
def correction (integ : Int) (gain : Nat) : Int := -(roundDiv (integ * gain) 32768000)

/-- Correction, clamp and forced pan (R43). The second answer is C. -/
def Axis.correct (it : StabItems) (gain travel : Nat) (a : Axis) : Axis × Int :=
  let c := correction a.integ gain
  if travel < c.natAbs then
    let c := if c < 0 then -(travel : Int) else (travel : Int)
    if it.clampPanCount ≤ a.clampCount + 1 then
      ({ a with pan := true, clampCount := 0, debounce := 0 }, c)
    else ({ a with clampCount := a.clampCount + 1 }, c)
  else ({ a with clampCount := 0 }, c)

/-- The hold-off's count-down, and its load after the count-down of the sample that left PAN (R39). -/
def Axis.countDown (left : Bool) (a : Axis) : Axis :=
  { a with holdOff := if left then 20 else a.holdOff - 1 }

/-- A filled sample on one axis: stages 1 to 4 and the count-down (R36, R46). -/
def Axis.fill (it : StabItems) (dropCount : Nat) (r : Int) (a : Axis) : Axis :=
  let (b, left) := a.advance it dropCount r
  b.countDown left

/-- A packet's own sample on one axis: every stage and the count-down (R36). -/
def Axis.take (it : StabItems) (dropCount : Nat) (v : LensValues) (r : Int) (a : Axis) : Axis × Int :=
  let (b, left) := a.advance it dropCount r
  let (c, shift) := b.correct it v.gain v.travel
  (c.countDown left, shift)

/-! ### Settle (R35) -/

/-- An axis at settle completion. -/
def Axis.settled (a : Axis) : Axis :=
  { a with
    base := clampInt (-1536) 1536 (truncDiv a.settleSum 64)
    bucket := 0, integ := 0, debounce := 0, clampCount := 0, holdOff := 0, window := [], pan := false }

/-- One settle sample (R35). -/
def State.settleSample (s : State) (r : YawPitch Int) : State :=
  let yaw := { s.stab.yaw with settleSum := s.stab.yaw.settleSum + r.yaw }
  let pitch := { s.stab.pitch with settleSum := s.stab.pitch.settleSum + r.pitch }
  let count := s.stab.settleCount + 1
  if count < 64 then
    { s with stab := { s.stab with yaw := yaw, pitch := pitch, settleCount := count } }
  else
    { s with
      stab :=
        { s.stab with
          yaw := yaw.settled, pitch := pitch.settled, settleCount := count, state := .running } }.notifyMode
      .settled

/-! ### Samples (R29, R36, R46) -/

/-- The drop-window count's count-down, once a sample (R39). -/
def State.countDownDrop (s : State) : State :=
  { s with stab := { s.stab with dropWindow := s.stab.dropWindow - 1 } }

/-- The lens values a running sample uses; the optics mode is RUN whenever the stabiliser runs (R42). -/
def State.lensNow (s : State) : LensValues := lensValues s.zoom.lens s.zoom.report.z

/-- A sample filled for a missed packet: the last raw sample again (R46). In SETTLING it counts down the drop
window alone (R39; DEDUCED, log entry 38). -/
def State.fillSample (s : State) : State :=
  let st := s.stab
  match st.state with
  | .off => s.countDownDrop
  | .settling => (s.settleSample ⟨st.yaw.lastRaw, st.pitch.lastRaw⟩).countDownDrop
  | .running =>
    { s with
      stab :=
        { st with
          yaw := st.yaw.fill s.items.stab st.dropWindow st.yaw.lastRaw
          pitch := st.pitch.fill s.items.stab st.dropWindow st.pitch.lastRaw } }.countDownDrop

/-- `n` filled samples, one after another, each taken in the state that the one before has left: after the
fill that completes the settle the rest are running samples (R35, R46; DEDUCED, log entry 37). -/
def State.fillSamples (s : State) : Nat → State
  | 0 => s
  | n + 1 => s.fillSample.fillSamples n

/-- A packet's own sample; while running it gives one SHIFT_CMD, which enters the ring (R44). -/
def State.takeSample (s : State) (r : YawPitch Int) : State :=
  let st := s.stab
  let raw (s : State) : State :=
    { s with
      stab :=
        { s.stab with
          yaw := { s.stab.yaw with lastRaw := r.yaw }, pitch := { s.stab.pitch with lastRaw := r.pitch } } }
  match st.state with
  | .off => (raw s).countDownDrop
  | .settling => (raw (s.settleSample r)).countDownDrop
  | .running =>
    let (yaw, cy) := st.yaw.take s.items.stab st.dropWindow s.lensNow r.yaw
    let (pitch, cp) := st.pitch.take s.items.stab st.dropWindow s.lensNow r.pitch
    let shift : YawPitch Int := ⟨cy, cp⟩
    (raw { s with
      stab := { st with yaw := yaw, pitch := pitch, ring := keepLast 4 (st.ring ++ [shift]) } }).countDownDrop.hand
      (.shiftCmd shift)

/-- Fewest missed packets that make a gap and not a fill (R47). -/
def gapMissed : Nat := 5

/-- The gyro timers restart at each MOTION taken. -/
def Stabiliser.restartTimers (st : Stabiliser) : Stabiliser :=
  { st with gyroSilence := .running 5, longGap := .running 100 }

/-- A MOTION taken with `n` missed (R36, R46, R47, R48). -/
def State.takeMotion (s : State) (n : Nat) (r : YawPitch Int) : State :=
  let gapEnds := s.stab.hold || decide (gapMissed ≤ n)
  let long := decide (s.stab.longGap = .expired)
  let s := { s with
    stab := { s.stab with hold := false, gyroLost := decide (gapMissed ≤ n) }.restartTimers }
  if gapEnds then
    if long && s.stab.state != .off then
      (s.enterSettling.notifyMode .gyroGap).takeSample r
    else s.takeSample r
  else (s.fillSamples n).takeSample r

/-! ### Cross-check (R45) -/

/-- The measured shift of a LENS_REPORT against the oldest command of a full ring. -/
def Stabiliser.crossCheck (st : Stabiliser) (it : StabItems) (measured : YawPitch Int) : Stabiliser :=
  if st.state = .running ∧ st.hold = false ∧ st.ring.length = 4 then
    match st.ring with
    | oldest :: _ =>
      { st with
        yaw := { st.yaw with mismatch := decide (it.mismatchTol < (measured.yaw - oldest.yaw).natAbs) }
        pitch :=
          { st.pitch with mismatch := decide (it.mismatchTol < (measured.pitch - oldest.pitch).natAbs) } }
    | [] => st
  else st

/-! ### Actions and the button (R32, R33, R34) -/

/-- STAB_ON in the order of R32. -/
def State.stabOn (s : State) : State × Status :=
  match s.zoom.mode, s.stab.state with
  | .setup, _ => (s, .wrongMode)
  | .run, .off => (s.enterSettling.notifyMode .operator, .ok)
  | .run, _ => (s, .ok)

/-- STAB_OFF in the order of R32. -/
def State.stabOff (s : State) : State × Status :=
  match s.zoom.mode, s.stab.state with
  | .setup, _ => (s, .ok)
  | .run, .off => (s, .ok)
  | .run, _ => ((s.enterOff .operator).notifyMode .operator, .ok)

/-- BASELINE_RESET in the order of R32. -/
def State.baselineReset (s : State) : State × Status :=
  match s.zoom.mode, s.stab.state with
  | .setup, _ => (s, .wrongMode)
  | .run, .off => (s, .refusedState)
  | .run, _ => (s.enterSettling.notifyMode .baseline, .ok)

/-- The fault action STAB_OFF (R34). -/
def State.faultStabOff (s : State) : State :=
  match s.stab.state with
  | .off => s
  | _ => (s.enterOff .fault).notifyMode .fault

/-- What ENTER_SETUP does to the stabiliser, without the action's MODE notice (R25, R31). -/
def State.setupStabOff (s : State) : State :=
  match s.stab.state with
  | .off => { s with stab := { s.stab with reason := .setup } }
  | _ => s.enterOff .setup

/-- A button level as a PANEL shows it. -/
def levelOf (pressed : Bool) : Level := if pressed then .pressed else .released

/-- A rising edge: pressed now, released as kept (R10, R33, R90). -/
def risingEdge (kept : Level) (pressed : Bool) : Bool := decide (kept = .released) && pressed

/-- The STAB button of a PANEL taken (R33). -/
def State.panelStab (s : State) (pressed : Bool) : State :=
  let edge := risingEdge s.stab.button pressed
  let s := { s with stab := { s.stab with button := levelOf pressed } }
  if edge then
    match s.stab.state, s.zoom.mode with
    | .off, .run => s.enterSettling.notifyMode .operator
    | .off, .setup => s
    | _, _ => (s.enterOff .operator).notifyMode .operator
  else s

/-- The STAB_STATE live value (R50). -/
def Stabiliser.live (st : Stabiliser) : StabLive :=
  match st.state with
  | .off => .off
  | .settling => .settling
  | .running => .running st.yaw.pan st.pitch.pan

/-- The TRAVEL_LIMIT live value (R50). -/
def Stabiliser.travelLimit (st : Stabiliser) : YawPitch Bool :=
  ⟨decide (st.yaw.clampCount ≠ 0), decide (st.pitch.clampCount ≠ 0)⟩

/-- A BUCKET_TH taken or loaded: buckets not below it in magnitude become 0 (R38). -/
def Stabiliser.clearBuckets (st : Stabiliser) (th : Nat) : Stabiliser :=
  let clear (a : Axis) : Axis := if th ≤ a.bucket.natAbs then { a with bucket := 0 } else a
  { st with yaw := clear st.yaw, pitch := clear st.pitch }

end Sys2Proof.Machine
end

