-- ==== Sys2Proof/Machine/Zoom.lean ====
section
/-! DEFINITION. The zoom drive (chapter 1): claims, the arbiter, presets, lens reports, the optics
mode. -/

namespace Sys2Proof.Machine

/-! ### The arbiter (R18 to R21) -/

/-- The stop claim is present while either cause stands (R19). -/
def Zoom.stopClaim (z : Zoom) : Bool := z.report.fault || !z.stopGroups.isEmpty

/-- The grant: the highest class whose claim is present (R18). -/
def Zoom.grant (z : Zoom) : Grant :=
  if z.stopClaim then .stop
  else if z.rocker.isSome then .rocker
  else if z.move.isSome then .preset
  else .none

/-- The class speed (R18). -/
def Zoom.classSpeed (z : Zoom) : Int :=
  match z.grant with
  | .rocker => z.rocker.getD 0
  | .preset => (z.move.map Move.current).getD 0
  | .stop | .none => 0

/-- The end-stop mask (R20). -/
def Zoom.maskSpeed (z : Zoom) (v : Int) : Int :=
  if (decide (0 < v) && z.report.tele) || (decide (v < 0) && z.report.wide) then 0 else v

/-- A ZOOM_CMD of the current sent speed is handed, and the refresh timer restarts: 20 ms (R21). -/
def State.sendZoom (s : State) : State :=
  { s with zoom := { s.zoom with refresh := .running 20 } }.hand (.zoomCmd s.zoom.sentSpeed)

/-- The drop window is loaded at the signal that the sent speed has changed (R39). -/
def State.loadDrop (s : State) : State :=
  { s with stab := { s.stab with dropWindow := s.items.stab.dropWindow } }

/-- The arbiter recomputed: a changed masked speed becomes the sent speed, gives one ZOOM_CMD and the
signal to the stabiliser; the same value gives neither (R21; once an event: DEDUCED, log entry 24). -/
def State.arbitrate (s : State) : State :=
  let v := s.zoom.maskSpeed s.zoom.classSpeed
  if v = s.zoom.sentSpeed then s
  else { s with zoom := { s.zoom with sentSpeed := v } }.sendZoom.loadDrop

/-! ### Presets (R12 to R17) -/

/-- The active move ends with a status (R15); with none active nothing happens. -/
def State.endMove (s : State) (e : MoveEnd) : State :=
  match s.zoom.move with
  | none => s
  | some _ => { s with zoom := { s.zoom with move := none } }.notify (.preset e)

/-- The pending preset ends with a status (R16); with none pending nothing happens. -/
def State.endPending (s : State) (e : MoveEnd) : State :=
  match s.zoom.pendingPreset with
  | none => s
  | some _ => { s with zoom := { s.zoom with pendingPreset := none } }.notify (.preset e)

/-- The preset speed for a distance (R14). -/
def presetSpeed (it : ZoomItems) (speed : Nat) (distance : Int) : Int :=
  let mag : Int :=
    if (it.approach : Int) ≤ distance.natAbs then speed
    else max 16 (truncDiv ((speed : Int) * distance.natAbs) it.approach)
  if distance < 0 then -mag else mag

/-- The arrival test and the speed of the active move from the Z now held (R14, R15). -/
def State.stepMove (s : State) : State :=
  match s.zoom.move with
  | none => s
  | some m =>
    let distance := (m.target : Int) - s.zoom.report.z
    if distance.natAbs ≤ s.items.zoom.arriveWindow then s.endMove .arrived
    else
      { s with
        zoom :=
          { s.zoom with move := some { m with current := presetSpeed s.items.zoom m.speed distance } } }

/-- A preset move starts: the record is filled from the table and its timer started, and it ends
ARRIVED at once inside the window (R13). -/
def State.startPreset (s : State) (n : Nat) : State :=
  let p := s.zoom.presets.getD (n - 1) ⟨0, 0⟩
  { s with
    zoom :=
      { s.zoom with
        move := some ⟨n, p.target, p.speed, 0, .running (s.items.zoom.presetTimeout * 1000)⟩ } }.stepMove

/-- ZOOM_IGNORED increases (R12, R19). -/
def State.ignoreZoom (s : State) : State :=
  { s with zoom := { s.zoom with ignored := sat16 (s.zoom.ignored + 1) } }

/-- A preset request for preset `n`, judged by steps 2 to 5 of R12; the arbiter is left to the
caller. -/
def State.requestPreset (s : State) (button : Bool) (n : Nat) : State × Status :=
  match s.zoom.mode with
  | .setup => (s, .wrongMode)
  | .run =>
    match s.zoom.grant with
    | .stop => (if button then s.ignoreZoom else s, .refusedState)
    | .rocker =>
      let s := s.endPending .cancelled
      ({ s with zoom := { s.zoom with pendingPreset := some n } }, .ok)
    | .preset | .none => ((s.endMove .cancelled).startPreset n, .ok)

/-- ACTION ZOOM_PRESET n (R12). -/
def State.zoomPreset (s : State) (n : Nat) : State × Status :=
  if n < 1 ∨ 4 < n then (s, .badCommand)
  else
    let (t, status) := s.requestPreset false n
    (t.arbitrate, status)

/-- ACTION ZOOM_STOP (R17). -/
def State.zoomStop (s : State) : State × Status :=
  (((s.endMove .cancelled).endPending .cancelled).arbitrate, .ok)

/-! ### The stop claim (R19) -/

/-- What the arising of the stop claim does, when it was absent before and is present now. -/
def State.stopArises (s : State) (before : Bool) : State :=
  if !before && s.zoom.stopClaim then
    let s := (s.endMove .stopped).endPending .stopped
    { s with zoom := { s.zoom with stopFresh := true } }
  else s

/-- A group added to a set of groups, kept in number order without repeats. -/
def joinGroup (g : Group) (set : List Group) : List Group :=
  Group.all.filter (fun h => h == g || set.contains h)

/-- A group taken out of a set. -/
def leaveGroup (g : Group) (set : List Group) : List Group := set.filter (fun h => h != g)

/-- The fault action ZOOM_STOP (R19, R159). -/
def State.faultZoomStop (s : State) (g : Group) : State :=
  let before := s.zoom.stopClaim
  ({ s with zoom := { s.zoom with stopGroups := joinGroup g s.zoom.stopGroups } }.stopArises before).arbitrate

/-- A group's summary has fallen: it leaves the stop-claiming set (R19, R158). -/
def State.releaseStop (s : State) (g : Group) : State :=
  { s with zoom := { s.zoom with stopGroups := leaveGroup g s.zoom.stopGroups } }.arbitrate

/-! ### PANEL (R9, R10, R16) -/

/-- The rocker demand of a PANEL taken (R10, R15, R16, R19). -/
def State.panelRocker (s : State) (deflection : Int) : State :=
  match rockerDemand s.zoom.curve s.items.zoom deflection with
  | some v =>
    let counts := s.zoom.stopClaim && (s.zoom.rocker.isNone || s.zoom.stopFresh)
    let s := if counts then s.ignoreZoom else s
    let s := s.endMove .preempted
    { s with zoom := { s.zoom with rocker := some v, stopFresh := false } }
  | none =>
    let s := { s with zoom := { s.zoom with rocker := none, stopFresh := false } }
    match s.zoom.pendingPreset with
    | some n =>
      if s.zoom.stopClaim then s
      else { s with zoom := { s.zoom with pendingPreset := none } }.startPreset n
    | none => s

/-- A preset button of a PANEL taken (R10, R12). -/
def State.presetEdge (s : State) (edge : Bool) (n : Nat) : State :=
  if edge then (s.requestPreset true n).1 else s

/-- What the zoom drive does with a PANEL taken: the demand, then P1, then P2 (log entry 8), then the
arbiter (R10, R12, R18). -/
def State.panelZoom (s : State) (deflection : Int) (p1 p2 : Bool) : State :=
  let edge1 := risingEdge s.zoom.p1 p1
  let edge2 := risingEdge s.zoom.p2 p2
  let s :=
    { s with
      zoom := { s.zoom with rockerLapse := .running 12, p1 := levelOf p1, p2 := levelOf p2 } }
  (((s.panelRocker deflection).presetEdge edge1 1).presetEdge edge2 2).arbitrate

/-- The rocker lapse timer expires (R10, R16). -/
def State.rockerLapse (s : State) : State :=
  let s := { s with zoom := { s.zoom with rocker := none, rockerLapse := .expired } }
  (s.endPending .cancelled).arbitrate

/-! ### LENS_REPORT (R22) -/

/-- A LENS_REPORT taken: the report and the silence timer, the active move, the direct stop cause, the
mask and the arbiter (R22, R23; in that order: DEDUCED, log entry 19). -/
def State.takeLensReport (s : State) (r : LensReport) : State :=
  let before := s.zoom.stopClaim
  let s :=
    { s with
      zoom := { s.zoom with report := r, lensSilence := .running 20, lensSilentPresent := false } }
  (s.stepMove.stopArises before).arbitrate

/-! ### Optics mode (R24, R25) -/

/-- ACTION ENTER_RUN (R24). -/
def State.enterRun (s : State) : State × Status :=
  match s.zoom.mode with
  | .run => (s, .ok)
  | .setup =>
    if s.zoom.tablesValid then
      ({ s with zoom := { s.zoom with mode := .run } }.notifyMode .run, .ok)
    else (s, .tableInvalid)

/-- A recording is starting, running or stopping. -/
def RecState.recording? : RecState → Bool
  | .starting | .recording | .stopping => true
  | .idle | .standby => false

/-- ACTION ENTER_SETUP (R25). -/
def State.enterSetup (s : State) : State × Status :=
  match s.zoom.mode with
  | .setup => (s, .ok)
  | .run =>
    if s.recorder.state.recording? || s.zoom.move.isSome then (s, .refusedState)
    else
      let s := (s.endPending .cancelled).setupStabOff
      ({ s with zoom := { s.zoom with mode := .setup } }.notifyMode .setup, .ok)

/-- ACTION LENS_TABLE_CLEAR (R5). -/
def State.lensTableClear (s : State) : State × Status :=
  match s.zoom.mode with
  | .run => (s, .wrongMode)
  | .setup => ({ s with zoom := { s.zoom with lens := [] } }, .ok)

end Sys2Proof.Machine
end

