-- ==== Sys2Proof/Machine/Audio.lean ====
section
/-! DEFINITION. The audio unit (chapter 3): gain, limiter, meters, track FIFOs, monitor, takes. -/

namespace Sys2Proof.Machine

/-- The input a track carries (R53); ASSIGN values are 1..4. -/
def AudioItems.inputOf (it : AudioItems) (t : Four) : Four := Four.ofIdx (it.assign.get t - 1)

/-! ### Gain (R59) -/

/-- The gain stage of a sample: the output, and whether it saturated. -/
def gainStage (m : Nat) (x : Int) : Int × Bool :=
  let y := roundDiv (x * m) 65536
  (clampSample y, decide (clampSample y ≠ y))

/-! ### Limiter (R62, R64) -/

/-- Unity of a limiter gain. -/
def unity : Nat := 65536

/-- Step 1 of R62. -/
def limitBy (g : Nat) (y : Int) : Int := truncDiv (y * g) 65536

/-- The gain that holds a sample under the threshold (R62 step 2). -/
def limitGain (th : Nat) (y : Int) : Nat := th * 65536 / y.natAbs

/-- One track limited alone: the new limiter gain and the output (R62). -/
def limitOne (on : Bool) (th : Nat) (g : Nat) (y : Int) : Nat × Int :=
  if on then
    if th < (limitBy g y).natAbs then (limitGain th y, limitBy (limitGain th y) y)
    else (g, limitBy g y)
  else (g, y)

/-- The candidate gain of a track of a linked pair; a track under the threshold asks for none (R64). -/
def candidate (th g : Nat) (y : Int) : Option Nat :=
  if th < (limitBy g y).natAbs then some (limitGain th y) else none

/-- The gain of a linked pair for one sample index (R64 steps 1 and 3). -/
def linkedGain (th ga gb : Nat) (ya yb : Int) : Nat :=
  let g := min ga gb
  match candidate th g ya, candidate th g yb with
  | none, none => g
  | some c, none => c
  | none, some d => d
  | some c, some d => min c d

/-- A pair of tracks at one sample index: both gains, then both outputs (R62, R64). -/
def limitPair (link onA onB : Bool) (th ga gb : Nat) (ya yb : Int) : (Nat × Nat) × (Int × Int) :=
  if link && onA && onB then
    let g := linkedGain th ga gb ya yb
    ((g, g), (limitBy g ya, limitBy g yb))
  else
    let a := limitOne onA th ga ya
    let b := limitOne onB th gb yb
    ((a.1, b.1), (a.2, b.2))

/-- All four tracks at one sample index. -/
def limitAll (it : AudioItems) (lg : Quad Nat) (y : Quad Int) : Quad Nat × Quad Int :=
  let ab := limitPair it.link12 it.limitOn.q1 it.limitOn.q2 it.limitTh lg.q1 lg.q2 y.q1 y.q2
  let cd := limitPair it.link34 it.limitOn.q3 it.limitOn.q4 it.limitTh lg.q3 lg.q4 y.q3 y.q4
  (⟨ab.1.1, ab.1.2, cd.1.1, cd.1.2⟩, ⟨ab.2.1, ab.2.2, cd.2.1, cd.2.2⟩)

/-! ### FIFOs (R68) and monitor (R71) -/

/-- The most samples a track FIFO holds. -/
def fifoCapacity : Nat := 4096

/-- One sample appended: the FIFO, and whether its oldest sample was removed for it (R68). -/
def fifoAppend (fifo : List Int) (z : Int) : List Int × Bool :=
  if fifo.length < fifoCapacity then (fifo ++ [z], false) else (fifo.drop 1 ++ [z], true)

/-- One side of a monitor pair (R71). -/
def monitorMix (gain : Quad Nat) (z : Quad Int) : Int :=
  clampSample (roundDiv
    (z.q1 * gain.q1 + z.q2 * gain.q2 + z.q3 * gain.q3 + z.q4 * gain.q4) 65536)

/-! ### One packet (R55) -/

/-- One sample index through step 1 of R55: the unit after it, and its monitor pair. -/
def Audio.sampleStep (it : AudioItems) (a : Audio) (x : Quad Int) : Audio × (Int × Int) :=
  let staged : Quad (Int × Bool) :=
    (⟨.i1, .i2, .i3, .i4⟩ : Quad Four).map fun t =>
      gainStage (a.gainTable.getD (a.gainNow.get (it.inputOf t)) 0) (x.get (it.inputOf t))
  let limited := limitAll it a.limGain (staged.map Prod.fst)
  let z := limited.2
  let appended := a.fifo.zipWith fifoAppend z
  ({ a with
      clip := a.clip.zipWith (fun c s => c || s.2) staged
      limGain := limited.1
      fifo := appended.map Prod.fst
      overflow := a.overflow.zipWith (fun n r => if r.2 then sat16 (n + 1) else n) appended
      peakAcc := a.peakAcc.zipWith (fun p v => max p v.natAbs) z },
    (monitorMix it.monL z, monitorMix it.monR z))

/-- All sample indices in time order; the pairs gathered, oldest first (R55 step 1). -/
def Audio.sampleSteps (it : AudioItems) : Audio → List (Quad Int) → Audio × List (Int × Int)
  | a, [] => (a, [])
  | a, x :: rest =>
    let (a, pair) := a.sampleStep it x
    let (a, pairs) := Audio.sampleSteps it a rest
    (a, pair :: pairs)

/-- One index toward the target (R61). -/
def rampStep (now target : Nat) : Nat :=
  if now < target then now + 1 else if target < now then now - 1 else now

/-- The release of one track (R63). -/
def releaseGain (rel : Nat) (on : Bool) (g : Nat) : Nat := if on then min unity (g + rel) else g

/-- The meter level of a peak: how many thresholds it lies below (R65). -/
def meterLevel (peak : Nat) : Nat := (meterThresholds.filter (fun th => decide (peak < th))).length

/-- Peak hold, hold count and rise count of one track after a level (R67). -/
def peakUpdate (m : Nat) (peak : Option Nat) (hold rise : Nat) : Option Nat × Nat × Nat :=
  match peak with
  | none => (some m, 100, 5)
  | some h =>
    if m < h then (some m, 100, 5)
    else if hold ≠ 0 then (some h, hold - 1, rise)
    else if rise - 1 = 0 then (some (min (h + 1) m), hold, 5)
    else (some h, hold, rise - 1)

/-- The end of a meter period for every track (R65, R67). -/
def Audio.endPeriod (a : Audio) : Audio :=
  let level := a.peakAcc.map meterLevel
  let upd (t : Four) := peakUpdate (level.get t) (a.peak.get t) (a.holdCount.get t) (a.riseCount.get t)
  let res : Quad (Option Nat × Nat × Nat) := ⟨upd .i1, upd .i2, upd .i3, upd .i4⟩
  { a with
    period := 0
    peakAcc := .fill 0
    meter := level.map some
    peak := res.map (fun r => r.1)
    holdCount := res.map (fun r => r.2.1)
    riseCount := res.map (fun r => r.2.2) }

/-- Step 4 of R55: the period count advances, and the tenth packet ends the period. -/
def Audio.advancePeriod (a : Audio) : Audio :=
  if a.period + 1 < 10 then { a with period := a.period + 1 } else a.endPeriod

/-- Steps 1 to 4 of R55 on one packet, with the pairs of step 5. The clip flags are cleared at its
start (R59). -/
def Audio.process (it : AudioItems) (a : Audio) (samples : List (Quad Int)) : Audio × List (Int × Int) :=
  let (a, pairs) := { a with clip := .fill false }.sampleSteps it samples
  let a :=
    { a with
      gainNow := a.gainNow.zipWith rampStep it.inGain
      limGain := it.limitOn.zipWith (releaseGain it.limitRel) a.limGain }
  (a.advancePeriod, pairs)

/-- One packet processed, its MONITOR packet handed (R55 steps 1 to 5, R71). -/
def State.processAudio (s : State) (samples : List (Quad Int)) : State :=
  let (a, pairs) := s.audio.process s.items.audio samples
  { s with audio := a }.hand (.monitor pairs)

/-- A filled packet: 48 zero samples of each input (R56). -/
def zeroPacket : List (Quad Int) := List.replicate 48 (.fill 0)

/-- `n` filled packets, one after another (R56). -/
def State.fillAudio (s : State) : Nat → State
  | 0 => s
  | n + 1 => (s.processAudio zeroPacket).fillAudio n

/-- An AUDIO_IN taken with `n` missed (R56, R57, R60). -/
def State.takeAudio (s : State) (n : Nat) (samples : List (Quad Int)) : State :=
  let fills := if s.audio.silence.isRunning then n else 0
  let s := (s.fillAudio fills).processAudio samples
  { s with
    audio :=
      { s.audio with
        clipPresent := s.audio.clip
        silence := .running 5
        meterLapse := .running 100
        gapCount := sat16 (s.audio.gapCount + n)
        gapPresent := decide (n ≠ 0) } }

/-- The meter lapse timer expires (R66). -/
def Audio.lapse (a : Audio) : Audio :=
  { a with
    meterLapse := .expired
    meter := .fill none
    peak := .fill none
    peakAcc := .fill 0
    period := 0 }

/-- The LIMITING live value (R63, R73). -/
def Audio.limiting (a : Audio) : Quad Bool := a.limGain.map (fun g => decide (g < unity))

/-- A take at frame close: per track the samples handed and the number short (R70). -/
def Audio.takeFrame (a : Audio) (count : Nat) : Audio × Quad (List Int) × Quad Nat :=
  ({ a with fifo := a.fifo.map (List.drop count) }, a.fifo.map (List.take count),
    a.fifo.map (fun f => count - f.length))

/-- A SET of ASSIGN_Tt to input `i`: the swap of R53. -/
def swapAssign (assign : Quad Nat) (t : Four) (i : Nat) : Quad Nat :=
  let j := assign.get t
  if j = i then assign
  else (assign.map (fun v => if v = i then j else v)).set t i

/-- The default assignment (R54). -/
def defaultAssign : Quad Nat := ⟨1, 2, 3, 4⟩

/-- The four values form a permutation of 1..4. -/
def isPermutation (q : Quad Nat) : Bool := [1, 2, 3, 4].all (fun i => q.toList.contains i)

/-- The assignment formed from four loaded values (R54). -/
def formAssign (q : Quad Nat) : Quad Nat :=
  let q := q.map (clampNat 1 4)
  if isPermutation q then q else defaultAssign

/-- The limiter gain of a track whose limiter is off is unity (R62, R72). -/
def Audio.limitersOff (a : Audio) (on : Quad Bool) : Audio :=
  { a with limGain := on.zipWith (fun o g => if o then g else unity) a.limGain }

end Sys2Proof.Machine
end

