-- ==== Sys2Proof/Machine/Store.lean ====
section
/-! DEFINITION. The unit store, record units and the pre-record ring (R76 to R79, R82, R88), as
functions of the record assembler's own state; the marks of a clip part (R99, R113). -/

namespace Sys2Proof.Machine

/-- Blocks of the buffer DRAM (R76). -/
def storeBlocks : Nat := 16384

/-- Bytes of a block: 64 KiB. -/
def blockBytes : Nat := 65536

/-- The most blocks a unit holds: its head block and 255 more (R80). -/
def unitBlocks : Nat := 256

/-- The free-block count (R76). -/
def UnitStore.freeCount (st : UnitStore) : Nat := st.returned.length + (storeBlocks - st.fresh)

/-- A block taken from the free list. Which one is handed out affects nothing the manual states (R76):
one never handed out goes first (DESIGN CHOICE, log entry 22). -/
def UnitStore.takeBlock (st : UnitStore) : Option (Nat × UnitStore) :=
  if st.fresh < storeBlocks then some (st.fresh, { st with fresh := st.fresh + 1 })
  else
    match st.returned with
    | [] => none
    | b :: rest => some (b, { st with returned := rest })

def UnitStore.find (st : UnitStore) (id : Nat) : Option RecordUnit :=
  st.units.find? (fun u => u.id == id)

def UnitStore.modify (st : UnitStore) (id : Nat) (f : RecordUnit → RecordUnit) : UnitStore :=
  { st with units := st.units.map (fun u => if u.id = id then f u else u) }

/-- A holder joins (R77). -/
def UnitStore.addRef (st : UnitStore) (id : Nat) : UnitStore :=
  st.modify id (fun u => { u with refs := u.refs + 1 })

/-- A holder leaves; at count 0 every block returns to the free list and the unit ceases to exist
(R77). -/
def UnitStore.release (st : UnitStore) (id : Nat) : UnitStore :=
  match st.find id with
  | none => st
  | some u =>
    if u.refs ≤ 1 then
      { st with
        returned := st.returned ++ u.blocks
        units := st.units.filter (fun v => v.id != id) }
    else st.modify id (fun v => { v with refs := v.refs - 1 })

def UnitStore.releaseAll (st : UnitStore) (ids : List Nat) : UnitStore :=
  ids.foldl UnitStore.release st

/-- The size b of a unit: the blocks it holds (R80). -/
def UnitStore.sizeOf (st : UnitStore) (id : Nat) : Nat :=
  ((st.find id).map (fun u => u.blocks.length)).getD 0

def UnitStore.frameOf (st : UnitStore) (id : Nat) : Nat := ((st.find id).map RecordUnit.frame).getD 0

/-! ### Recorder: blocks, ring, units -/

def Recorder.modifyUnit (r : Recorder) (id : Nat) (f : RecordUnit → RecordUnit) : Recorder :=
  { r with store := r.store.modify id f }

/-- A unit becomes DROPPED: its blocks return to the free list and its contents are gone (R78). -/
def Recorder.dropUnit (r : Recorder) (id : Nat) : Recorder :=
  let blocks := ((r.store.find id).map RecordUnit.blocks).getD []
  { r with
    store :=
      { r.store with returned := r.store.returned ++ blocks }.modify id (fun u =>
        { u with
          dropped := true, blocks := [], main := { u.main with bytes := [] }
          proxy := { u.proxy with bytes := [] } })
    droppedUnits := sat16 (r.droppedUnits + 1) }

/-- A block for a unit: from the free list, else after evicting the oldest ring unit, else the unit is
dropped (R78). The second answer: the block was had. -/
def Recorder.allocBlock (r : Recorder) (id : Nat) : Recorder × Bool :=
  let give (r : Recorder) (b : Nat) (st : UnitStore) : Recorder :=
    { r with store := st.modify id (fun u => { u with blocks := u.blocks ++ [b] }) }
  match r.store.takeBlock with
  | some (b, st) => (give r b st, true)
  | none =>
    match r.ring with
    | [] => (r.dropUnit id, false)
    | old :: rest =>
      let r :=
        { r with
          ring := rest, store := r.store.release old, ringEvicted := sat16 (r.ringEvicted + 1) }
      match r.store.takeBlock with
      | some (b, st) => (give r b st, true)
      | none => (r.dropUnit id, false)

/-- STORE_PRESSURE present (R79). -/
def Recorder.storePressure (r : Recorder) : Bool := decide (r.store.freeCount < 1638)

def emptyStream : UnitStream := ⟨[], 0, false⟩

/-- A unit as it opens (R81). -/
def newUnit (id : Nat) (f : OpenFrame) : RecordUnit where
  id := id
  frame := f.frame
  tc := f.tc
  rate := f.rate
  main := emptyStream
  proxy := emptyStream
  audio := .fill []
  z := 0
  focal := none
  stab := .off
  faults := []
  incomplete := false
  audioShort := false
  oversize := false
  dropped := false
  tookEssence := false
  blocks := []
  refs := 1

/-- A unit is opened under assembly with one head block; it opens DROPPED where none can be had
(R81). -/
def Recorder.openUnit (r : Recorder) (f : OpenFrame) : Recorder :=
  let id := r.store.nextId
  let r :=
    { r with
      store := { r.store with units := r.store.units ++ [newUnit id f], nextId := id + 1 }
      assembly := some id }
  (r.allocBlock id).1

/-- The assembly reference is released (R85). -/
def Recorder.releaseAssembly (r : Recorder) : Recorder :=
  match r.assembly with
  | none => r
  | some id => { r with assembly := none, store := r.store.release id }

/-- The ring shrinks to at most `n` units, the oldest evicted (R88, R89). -/
def Recorder.trimRing (r : Recorder) (n : Nat) : Recorder :=
  { r with
    ring := keepLast n r.ring
    store := r.store.releaseAll (r.ring.take (r.ring.length - n)) }

/-- The ring's capacity (R88). With no mark taken no unit has closed, and the ring is empty. -/
def Recorder.ringCapacity (r : Recorder) (preRec : Nat) : Nat :=
  match r.lastMark with
  | some m => preRec * nominalRate m.rate
  | none => 0

/-- A closed unit joins the ring, the oldest evicted at capacity (R88). -/
def Recorder.ringAppend (r : Recorder) (preRec id : Nat) : Recorder :=
  let r := r.trimRing (r.ringCapacity preRec - 1)
  { r with ring := r.ring ++ [id], store := r.store.addRef id }

/-! ### Essence (R82) -/

def RecordUnit.stream (u : RecordUnit) : Stream → UnitStream
  | .main => u.main
  | .proxy => u.proxy

def RecordUnit.setStream (u : RecordUnit) (st : Stream) (v : UnitStream) : RecordUnit :=
  match st with
  | .main => { u with main := v }
  | .proxy => { u with proxy := v }

/-- Space left in the essence blocks the unit holds. -/
def RecordUnit.space (u : RecordUnit) : Nat :=
  (u.blocks.length - 1) * blockBytes - (u.main.bytes.length + u.proxy.bytes.length)

/-- How the storing of a packet's bytes ended. -/
inductive Stored where
  | all
  | cut (stored : Nat)
  | dropped
  deriving DecidableEq, Repr

/-- Bytes stored after those already stored, a new block allocated whenever the last is used up
(R82 step 7). `done` counts the packet's bytes stored before these; `fuel` bounds the blocks tried. -/
def Recorder.storeBytes (id : Nat) (st : Stream) : Nat → Recorder → Nat → List Byte → Recorder × Stored
  | 0, r, done, _ => (r, .cut done)
  | fuel + 1, r, done, bytes =>
    match r.store.find id with
    | none => (r, .dropped)
    | some u =>
      let put (bs : List Byte) : Recorder := r.modifyUnit id (fun u =>
        u.setStream st { u.stream st with bytes := (u.stream st).bytes ++ bs })
      if bytes.length ≤ u.space then (put bytes, .all)
      else
        let r := put (bytes.take u.space)
        let done := done + u.space
        if unitBlocks ≤ u.blocks.length then (r, .cut done)
        else
          match r.allocBlock id with
          | (r, true) => Recorder.storeBytes id st fuel r done (bytes.drop u.space)
          | (r, false) => (r, .dropped)

def Recorder.discardEssence (r : Recorder) : Recorder :=
  { r with essenceDiscarded := sat16 (r.essenceDiscarded + 1) }

/-- Steps 6 and 7 of R82: the packet is taken into the unit. -/
def Recorder.takeEssence (r : Recorder) (id : Nat) (st : Stream) (last : Bool) (offset : Nat)
    (bytes : List Byte) : Recorder :=
  let r := r.modifyUnit id (fun u =>
    if (u.stream st).count < offset then { u with incomplete := true } else u)
  match Recorder.storeBytes id st (bytes.length + 1) r 0 bytes with
  | (r, .all) => r.modifyUnit id (fun u =>
      { u.setStream st
          { u.stream st with
            count := offset + bytes.length, last := (u.stream st).last || last } with
        tookEssence := true })
  | (r, .cut stored) => r.modifyUnit id (fun u =>
      { u.setStream st { u.stream st with count := offset + stored } with
        oversize := true, tookEssence := true })
  | (r, .dropped) => r

/-- An ESSENCE taken, after the report of missed ones (R82; DEDUCED, log entry 16). -/
def Recorder.essence (r : Recorder) (frame : Nat) (st : Stream) (last : Bool) (offset : Nat)
    (bytes : List Byte) : Recorder :=
  match r.state with
  | .idle => r
  | _ =>
    match r.assembly.bind r.store.find with
    | none => r.discardEssence
    | some u =>
      if frame ≠ u.frame then r.discardEssence
      else if u.dropped || u.oversize then r
      else if (u.stream st).last then r.discardEssence
      else if offset < (u.stream st).count then r.discardEssence
      else r.takeEssence u.id st last offset bytes

/-- A report of missed ESSENCE packets flags the open unit INCOMPLETE unless it is DROPPED (R82). -/
def Recorder.essenceMissed (r : Recorder) (n : Nat) : Recorder :=
  match r.assembly with
  | none => r
  | some id =>
    if n = 0 then r
    else r.modifyUnit id (fun u => if u.dropped then u else { u with incomplete := true })

/-! ### Marks (R99) -/

/-- The most marks a list holds. -/
def marksCapacity : Nat := 64

/-- A SHOT at the same frame, or a FAULT of the same group at the same frame, is not added again. -/
def markRefused (marks : List ClipMark) (m : ClipMark) : Bool :=
  match m.kind with
  | .shot | .fault _ => marks.contains m
  | .gap _ | .relay _ | .writeSkip _ _ => false

/-- A new mark's place: after every mark whose frame number is not greater. -/
def placeMark (marks : List ClipMark) (m : ClipMark) : List ClipMark :=
  marks.takeWhile (fun k => decide (k.frame ≤ m.frame)) ++
    m :: marks.dropWhile (fun k => decide (k.frame ≤ m.frame))

/-- A mark added to a part's list, refused as a duplicate, or dropped and counted at 64. -/
def ClipPart.addMark (p : ClipPart) (m : ClipMark) : ClipPart :=
  if markRefused p.marks m then p
  else if marksCapacity ≤ p.marks.length then { p with marksLost := sat16 (p.marksLost + 1) }
  else { p with marks := placeMark p.marks m }

/-- `f` on the first of a list that `p` holds of. -/
def modifyFirst {α : Type} (p : α → Bool) (f : α → α) : List α → List α
  | [] => []
  | a :: rest => if p a then f a :: rest else a :: modifyFirst p f rest

/-- A WRITE_SKIP mark of this slot whose run frame `f` continues (R113). -/
def continuesSkip (x : SlotId) (f : Nat) (m : ClipMark) : Bool :=
  match m.kind with
  | .writeSkip count y => decide (y = x ∧ m.frame + count = f)
  | _ => false

def lengthenSkip (m : ClipMark) : ClipMark :=
  match m.kind with
  | .writeSkip count y => { m with kind := .writeSkip (sat16 (count + 1)) y }
  | _ => m

/-- A WRITE_SKIP recorded for a frame (R113). -/
def ClipPart.recordSkip (p : ClipPart) (x : SlotId) (f : Nat) : ClipPart :=
  if p.marks.any (continuesSkip x f) then
    { p with marks := modifyFirst (continuesSkip x f) lengthenSkip p.marks }
  else p.addMark ⟨.writeSkip 1 x, f⟩

/-- A mark added to every open part (R99). -/
def Recorder.markOpen (r : Recorder) (m : ClipMark) : Recorder :=
  { r with parts := r.parts.map (fun p => if p.phase = .opened then p.addMark m else p) }

end Sys2Proof.Machine
end

