-- ==== Sys2Proof/Machine/Slots.lean ====
section
/-! DEFINITION. Record states and card slots (chapters 4 and 5): the record state's changes, requests
to the card bridges, admission, writing, closing, relay handover, completions, timeouts, removal. The
two chapters act on each other, so their operations stand together. -/

namespace Sys2Proof.Machine

/-! ### Record state (R89, R92, R94) -/

/-- The tally lamp of a record state (4.6). -/
def lampOf : RecState → Lamp
  | .idle | .standby => .off
  | .starting | .stopping => .blink
  | .recording => .on

/-- A change of record state: one RECORD notice, the lamp, and a TALLY where the lamp changed (R89). -/
def State.setRecState (s : State) (st : RecState) (reason : RecReason) : State :=
  let old := s.recorder.lamp
  let s := { s with recorder := { s.recorder with state := st, lamp := lampOf st } }
  let s := s.notify (.record st s.recorder.clipCounter reason)
  if lampOf st = old then s else s.hand (.tally (lampOf st))

/-- The rest state that PRE_REC_SECONDS sets (4.6). -/
def RecItems.restState (it : RecItems) : RecState := if it.preRecSeconds = 0 then .idle else .standby

/-- The recording ends in its rest state; a unit open at entry to IDLE is not kept (R85, R92, R94). -/
def State.endRecording (s : State) (reason : RecReason) : State :=
  let s :=
    { s with recorder := { s.recorder with pendingStop := none, stopReason := some reason } }.setRecState
      s.items.record.restState reason
  match s.items.record.restState with
  | .idle => { s with recorder := s.recorder.releaseAssembly }
  | _ => s

/-- Every part of the clip has ended. -/
def Recorder.allEnded (r : Recorder) : Bool := r.parts.all (fun p => p.phase == .ended)

/-- Whether the recording ends now that a part has ended, or STOPPING was entered (R92, R94). -/
def State.afterPartEnd (s : State) : State :=
  if s.recorder.allEnded then
    match s.recorder.state with
    | .starting => s.endRecording (s.recorder.pendingStop.getD .openFailed)
    | .recording => s.endRecording (s.recorder.pendingStop.getD .mediaLost)
    | .stopping => s.endRecording (s.recorder.stopReason.getD .operator)
    | .idle | .standby => s
  else s

/-! ### Parts by slot -/

/-- The part most recently created on a slot. -/
def Recorder.partOn (r : Recorder) (x : SlotId) : Option ClipPart := r.parts.find? (fun p => p.slot == x)

def Recorder.modifyPart (r : Recorder) (x : SlotId) (f : ClipPart → ClipPart) : Recorder :=
  { r with parts := modifyFirst (fun p => p.slot == x) f r.parts }

/-- The slot's part is open (R98). -/
def State.partOpened (s : State) (x : SlotId) : Bool :=
  match s.recorder.partOn x with
  | some p => p.phase == .opened
  | none => false

/-- The slots with an open part, A first. -/
def State.openSlots (s : State) : List SlotId := [SlotId.a, .b].filter s.partOpened

def State.modifyPart (s : State) (x : SlotId) (f : ClipPart → ClipPart) : State :=
  { s with recorder := s.recorder.modifyPart x f }

def State.modifySlot (s : State) (x : SlotId) (f : Slot → Slot) : State := s.setSlot x (f (s.slot x))

/-- The counts and flags of the slot part. -/
def State.modifyCounts (s : State) (x : SlotId) (f : SlotPart → SlotPart) : State :=
  s.modifySlot x (fun c => { c with part := c.part.map f })

def State.releaseUnit (s : State) (id : Nat) : State :=
  { s with recorder := { s.recorder with store := s.recorder.store.release id } }

/-! ### Requests (R105, R106) -/

/-- A request issued: the next number, its timers, the request on the slot port. -/
def State.issue (s : State) (x : SlotId) (body : RequestBody) : State :=
  let c := s.slot x
  let number := c.requestNumber + 1
  let c := { c with requestNumber := number, request := some ⟨body.kind, number⟩ }
  let c :=
    match body with
    | .mount => { c with mountTimer := .running 5000 }
    | _ => { c with slowTimer := .running 500, requestTimer := .running 2000 }
  (s.setSlot x c).emit (.slotRequest x number body)

/-- A request ends: its timers stop and SLOT_SLOW present is cleared (R106). -/
def Slot.endRequest (c : Slot) : Slot :=
  { c with
    request := none, slowTimer := .stopped, requestTimer := .stopped, mountTimer := .stopped
    slowPresent := false }

/-- A completion of this kind and number answers the outstanding request (R105). -/
def Slot.matchesRequest (c : Slot) (kind : RequestKind) (number : Byte) : Bool :=
  c.request == some ⟨kind, number⟩

/-- A completion that does not match is discarded and counted (R105). -/
def State.staleCompletion (s : State) (x : SlotId) : State :=
  s.modifySlot x (fun c => { c with stale := sat16 (c.stale + 1) })

/-- A change of slot state, with its SLOT notice (R107). -/
def State.slotTo (s : State) (x : SlotId) (st : SlotState) (reason : SlotReason) : State :=
  (s.modifySlot x (fun c => { c with state := st })).notify (.slot x st reason)

/-- A slot is ready (R108). -/
def Slot.isReady (c : Slot) : Bool := c.state == .ready && !c.hold

/-- Blocks a READY card has at least (5.4). -/
def readyBlocks : Nat := 288

/-- Blocks kept back for the close of a part (5.4). -/
def closeReserve : Nat := 32

/-- READY or FULL by F (R110, R120). -/
def Slot.restState (c : Slot) : SlotState := if readyBlocks ≤ c.free then .ready else .full

/-! ### Mount (R109, R110) -/

/-- MOUNT issued, MOUNTING entered. -/
def State.startMount (s : State) (x : SlotId) (reason : SlotReason) : State :=
  (s.issue x .mount).slotTo x .mounting reason

/-- An insertion taken (R109). -/
def State.takeInsertion (s : State) (x : SlotId) : State :=
  match (s.slot x).state with
  | .empty => (s.modifySlot x (fun c => { c with cardPresent := true })).startMount x .inserted
  | _ => s

/-- MOUNT completed OK (R110). -/
def State.mountOk (s : State) (x : SlotId) (free : Nat) : State :=
  let s := s.modifySlot x (fun c => { c.endRequest with free := free })
  s.slotTo x (s.slot x).restState .mounted

/-- MOUNT ended with ERROR (R108, R110, R124). -/
def State.mountError (s : State) (x : SlotId) : State :=
  (s.modifySlot x (fun c => { c.endRequest with free := 0, hold := true, mediaError := true })).slotTo x
    .empty .mountFailed

/-- ACTION CLEAR_HOLD (R108). -/
def State.clearHold (s : State) (slot : Nat) : State × Status :=
  let go (x : SlotId) : State :=
    let s := s.modifySlot x (fun c => { c with hold := false })
    if (s.slot x).state = .empty ∧ (s.slot x).cardPresent then s.startMount x .remount else s
  match slot with
  | 0 => (go .a, .ok)
  | 1 => (go .b, .ok)
  | _ => (s, .badCommand)

/-! ### Writing and closing (R115, R119, R120) -/

/-- The oldest queued unit is issued as UNIT_WRITE, where R115 has it issued. -/
def State.issueWrite (s : State) (x : SlotId) : State :=
  let c := s.slot x
  match c.state, c.request, c.queue with
  | .writing, none, id :: rest | .closing, none, id :: rest =>
    (s.setSlot x { c with queue := rest, inFlight := some id }).issue x
      (.unitWrite (s.recorder.store.frameOf id) (s.recorder.store.sizeOf id))
  | _, _, _ => s

/-- The part close record as it stands (R120). -/
def State.closeRecord (s : State) (x : SlotId) (p : SlotPart) : CloseRecord :=
  let q := s.recorder.partOn x
  { clip := p.clip
    number := p.number
    slot := x
    damaged := p.damaged
    closeReason := p.closeReason
    firstFrame := p.firstFrame
    lastFrame := p.lastFrame
    written := p.written
    skipped := p.skipped
    lost := p.lost
    offered := (q.map ClipPart.offered).getD 0
    marksLost := (q.map ClipPart.marksLost).getD 0
    marks := (q.map ClipPart.marks).getD [] }

/-- PART_CLOSE is issued in CLOSING with the queue drained and nothing outstanding (R120). -/
def State.issueClose (s : State) (x : SlotId) : State :=
  let c := s.slot x
  match c.state, c.request, c.queue, c.inFlight, c.part with
  | .closing, none, [], none, some p => s.issue x (.partClose (s.closeRecord x p))
  | _, _, _, _, _ => s

/-- What a slot with no request outstanding does next. -/
def State.continueSlot (s : State) (x : SlotId) : State := (s.issueWrite x).issueClose x

def CloseReason.slotReason : CloseReason → SlotReason
  | .stop => .stop
  | .full => .full
  | .relay => .relay
  | .abort => .abort

/-- A part begins to close (R119). Of a part already CLOSING only the reason changes, and only for
ABORT. -/
def State.beginClose (s : State) (x : SlotId) (reason : CloseReason) : State :=
  match (s.recorder.partOn x).map ClipPart.phase with
  | some .opened =>
    let s := s.modifyPart x (fun p => { p with phase := .closing })
    let s := s.modifyCounts x (fun p => { p with closeReason := reason })
    match (s.slot x).state with
    | .writing => (s.slotTo x .closing reason.slotReason).continueSlot x
    | _ => s
  | some .closing =>
    match reason with
    | .abort => s.modifyCounts x (fun p => { p with closeReason := .abort })
    | _ => s
  | _ => s

/-! ### Stops (R93) -/

/-- The reason a part closes with at entry to STOPPING (R119). -/
def State.stopCloseReason (s : State) (x : SlotId) : CloseReason :=
  match (s.slot x).part with
  | some p => if p.spaceRefused then .full else .stop
  | none => .stop

/-- Entry to STOPPING: every part still open begins to close (R93). -/
def State.enterStopping (s : State) (reason : RecReason) : State :=
  let s :=
    { s with recorder := { s.recorder with pendingStop := none, stopReason := some reason } }.setRecState
      .stopping reason
  (s.openSlots.foldl (fun s x => s.beginClose x (s.stopCloseReason x)) s).afterPartEnd

/-- STARTING or RECORDING with no stop pending: a stop can be taken (R93). -/
def Recorder.canStop (r : Recorder) : Bool :=
  (r.state == .starting || r.state == .recording) && r.pendingStop.isNone

/-- A stop taken (R93). With a frame open, or being closed, it waits for the end of that frame's
close; with none open STOPPING is entered at once. Any further cause leaves the reason as it stands (a
frame without a unit waits too: DEDUCED, log entry 14). -/
def State.requestStop (s : State) (reason : RecReason) : State :=
  if s.recorder.canStop then
    let s := { s with recorder := { s.recorder with pendingStop := some reason } }
    match s.recorder.openFrame with
    | some _ => s
    | none => s.enterStopping reason
  else s

/-! ### Parts created (R111) -/

/-- A clip part created on a slot, whose PART_OPEN is issued. -/
def State.createPart (s : State) (x : SlotId) (clip number : Nat) : State :=
  let part : ClipPart := ⟨clip, number, x, .opened, 0, [], 0⟩
  let s := { s with recorder := { s.recorder with parts := part :: s.recorder.parts } }
  let s := s.modifySlot x (fun c =>
    { c with part := some ⟨clip, number, 0, 0, 0, false, false, .stop, none, none⟩ })
  (s.issue x (.partOpen clip number)).slotTo x .opening .partOpen

/-! ### Admission (R113, R114, R122, R123) -/

/-- The most units a write queue holds. -/
def queueCapacity : Nat := 1024

/-- The admission test (R113). -/
def Slot.hasRoom (c : Slot) (size : Nat) : Bool := decide (c.reserved + size + closeReserve ≤ c.free)

/-- A unit judged at a slot, by the steps of R113. The second answer: it was refused for space by the
test of step 2. -/
def State.judgeUnit (s : State) (x : SlotId) (id : Nat) : State × Bool :=
  let c := s.slot x
  let size := s.recorder.store.sizeOf id
  match c.part with
  | none => (s, false)
  | some p =>
    if p.spaceRefused then (s.modifyCounts x (fun p => { p with lost := p.lost + 1 }), false)
    else if !c.hasRoom size then
      (s.modifyCounts x (fun p => { p with lost := p.lost + 1, spaceRefused := true }), true)
    else if queueCapacity ≤ c.queue.length then
      ((s.modifyCounts x (fun p => { p with skipped := p.skipped + 1 })).modifyPart x
        (fun p => p.recordSkip x (s.recorder.store.frameOf id)), false)
    else
      let s :=
        { s with recorder := { s.recorder with store := s.recorder.store.addRef id } }.modifySlot x
          (fun c => { c with queue := c.queue ++ [id], reserved := c.reserved + size })
      (s.issueWrite x, false)

/-- A unit offered to the part on a slot: its offered count, then the slot's judgement (R98, R113). -/
def State.offerOnce (s : State) (x : SlotId) (id : Nat) : State × Bool :=
  (s.modifyPart x (fun p => { p with offered := p.offered + 1 })).judgeUnit x id

/-- The outcome of a refusal for space in SINGLE (R114). -/
def State.refuseSingle (s : State) (x : SlotId) : State :=
  (s.modifyCounts x (fun p => { p with closeReason := .full })).requestStop .mediaFull

/-- The outcome in DUAL (R114). -/
def State.refuseDual (s : State) (x : SlotId) : State :=
  let s := s.beginClose x .full
  if s.openSlots.isEmpty then s.requestStop .mediaFull else s

/-- Relay handover (R122), or the second relay failure where there is no continuation (R123). The
continuation admits the unit, so the second refusal is none (R122 step 3). -/
def State.relayHandover (s : State) (x : SlotId) (id : Nat) : State :=
  let number := ((s.recorder.partOn x).map ClipPart.number).getD 0
  let clip := ((s.recorder.partOn x).map ClipPart.clip).getD 0
  let y := x.other
  let s := s.beginClose x .relay
  if (s.slot y).isReady && decide (number < 255) then
    let s := s.createPart y clip (number + 1)
    let s := (s.offerOnce y id).1
    s.modifyPart y (fun p => p.addMark ⟨.relay x, s.recorder.store.frameOf id⟩)
  else s.requestStop .relayExhausted

/-- The outcome of a refusal for space, by REC_MODE as it stands (R114). -/
def State.refusedForSpace (s : State) (x : SlotId) (id : Nat) : State :=
  match s.items.record.mode with
  | .single => s.refuseSingle x
  | .dual => s.refuseDual x
  | .relay => if s.recorder.pendingStop.isSome then s.refuseSingle x else s.relayHandover x id

/-- A unit offered to the part on a slot, with the outcome of a refusal. -/
def State.offer (s : State) (id : Nat) (x : SlotId) : State :=
  if s.partOpened x then
    let (s, refused) := s.offerOnce x id
    if refused then s.refusedForSpace x id else s
  else s

/-- A unit offered to every part open as the offer begins (R98). -/
def State.offerAll (s : State) (id : Nat) : State := s.openSlots.foldl (fun s x => s.offer id x) s

/-! ### Part ends (R98, R112, R121) -/

/-- The part on a slot is ENDED, and the assembler judges the recording (R92, R94). -/
def State.endPart (s : State) (x : SlotId) : State :=
  (s.modifyPart x (fun p => { p with phase := .ended })).afterPartEnd

/-- Every unit of the write queue is released and counts as lost; reserved becomes 0 (R112, R118,
R121). -/
def State.releaseQueue (s : State) (x : SlotId) : State :=
  let ids := (s.slot x).queue
  let s := { s with recorder := { s.recorder with store := s.recorder.store.releaseAll ids } }
  (s.modifyCounts x (fun p => { p with lost := p.lost + ids.length })).modifySlot x
    (fun c => { c with queue := [], reserved := 0 })

/-- The unit in flight, if any, is released and counts as lost (R118, R121). -/
def State.loseInFlight (s : State) (x : SlotId) : State :=
  match (s.slot x).inFlight with
  | none => s
  | some id =>
    ((s.releaseUnit id).modifyCounts x (fun p => { p with lost := p.lost + 1 })).modifySlot x
      (fun c => { c with inFlight := none })

def State.damagePart (s : State) (x : SlotId) : State :=
  s.modifyCounts x (fun p => { p with damaged := true })

/-- The slot part is a continuation (R122): its number is above 1. -/
def Slot.onContinuation (c : Slot) : Bool :=
  match c.part with
  | some p => decide (1 < p.number)
  | none => false

/-- The first open completed OK in STARTING moves the state to RECORDING (R92). -/
def State.reportOpened (s : State) : State :=
  match s.recorder.state with
  | .starting =>
    { s with recorder := { s.recorder with lossCount := 0 } }.setRecState .recording .opened
  | _ => s

/-- PART_OPEN completed OK (R112). -/
def State.partOpenOk (s : State) (x : SlotId) : State :=
  let s := (s.modifySlot x (fun c => { c.endRequest with free := c.free - 1 })).reportOpened
  let st := if s.partOpened x then SlotState.writing else .closing
  (s.slotTo x st .opened).continueSlot x

/-- PART_OPEN ended with ERROR (R112, R123, R124). -/
def State.partOpenError (s : State) (x : SlotId) : State :=
  let s := if (s.slot x).onContinuation then s.requestStop .relayExhausted else s
  let s := s.modifySlot x (fun c => { c.endRequest with mediaError := true })
  (((s.damagePart x).releaseQueue x).slotTo x .ready .openFailed).endPart x

/-- UNIT_WRITE completed OK (R116). -/
def State.unitWriteOk (s : State) (x : SlotId) : State :=
  let s := s.modifySlot x Slot.endRequest
  match (s.slot x).inFlight with
  | none => s.continueSlot x
  | some id =>
    let size := s.recorder.store.sizeOf id
    let frame := s.recorder.store.frameOf id
    let s := s.modifyCounts x (fun p =>
      { p with
        written := p.written + 1, firstFrame := some (p.firstFrame.getD frame), lastFrame := some frame })
    let s := s.modifySlot x (fun c =>
      { c with
        free := c.free - size, reserved := c.reserved - size, inFlight := none
        recent := keepLast 64 (c.recent ++ [size]) })
    (s.releaseUnit id).continueSlot x

/-- A write error under SKIP (R117). -/
def State.writeSkip (s : State) (x : SlotId) : State :=
  match (s.slot x).inFlight with
  | none => s.continueSlot x
  | some id =>
    let size := s.recorder.store.sizeOf id
    let frame := s.recorder.store.frameOf id
    let s := s.modifyCounts x (fun p => { p with skipped := p.skipped + 1 })
    let s := s.modifyPart x (fun p => p.recordSkip x frame)
    let s := s.modifySlot x (fun c => { c with reserved := c.reserved - size, inFlight := none })
    (s.releaseUnit id).continueSlot x

/-- A write error under ABORT (R118). -/
def State.writeAbort (s : State) (x : SlotId) : State :=
  let s := ((s.loseInFlight x).damagePart x).releaseQueue x
  let s := s.modifyCounts x (fun p => { p with closeReason := .abort })
  (s.beginClose x .abort).continueSlot x

def SlotItems.policy (it : SlotItems) : SlotId → ErrorPolicy
  | .a => it.policyA
  | .b => it.policyB

/-- UNIT_WRITE ended with ERROR, by the policy in force (R117, R118, R124). -/
def State.unitWriteError (s : State) (x : SlotId) : State :=
  let s := s.modifySlot x (fun c => { c.endRequest with mediaError := true })
  match s.items.slots.policy x with
  | .skip => s.writeSkip x
  | .abort => s.writeAbort x

/-- The reason of CLOSING to READY or FULL (R107). -/
def closeEndReason (abort ok : Bool) : SlotReason :=
  if abort then .aborted else if ok then .closed else .closeFailed

/-- PART_CLOSE ended (R108, R120, R124). -/
def State.partCloseEnd (s : State) (x : SlotId) (ok : Bool) : State :=
  let abort := ((s.slot x).part.map SlotPart.closeReason) == some .abort
  let s := s.modifySlot x (fun c =>
    { c.endRequest with
      free := if ok then c.free - 1 else c.free
      mediaError := c.mediaError || !ok
      hold := c.hold || abort })
  let s := if ok then s else s.damagePart x
  (s.slotTo x (s.slot x).restState (closeEndReason abort ok)).endPart x

/-- The outstanding request ended by a timeout, as if completed ERROR (R106). -/
def State.requestError (s : State) (x : SlotId) : State :=
  match (s.slot x).request.map Request.kind with
  | some .partOpen => s.partOpenError x
  | some .unitWrite => s.unitWriteError x
  | some .partClose => s.partCloseEnd x false
  | some .mount => s.mountError x
  | none => s

/-! ### Removal (R121) -/

/-- A removal's common effects: the card is gone and an outstanding request abandoned. -/
def Slot.removed (c : Slot) : Slot := { c.endRequest with cardPresent := false, free := 0 }

/-- A removal while the part on the slot is active (R121). -/
def State.removeActive (s : State) (x : SlotId) : State :=
  let s := s.modifySlot x (fun c => { c.removed with hold := true })
  let s := ((s.loseInFlight x).damagePart x).releaseQueue x
  (s.slotTo x .empty .removed).endPart x

/-- A removal taken, by the state in which it is taken (R121, R123). -/
def State.takeRemoval (s : State) (x : SlotId) : State :=
  match (s.slot x).state with
  | .empty => s.modifySlot x Slot.removed
  | .mounting | .ready | .full => (s.modifySlot x Slot.removed).slotTo x .empty .removed
  | .opening =>
    (if (s.slot x).onContinuation then s.requestStop .relayExhausted else s).removeActive x
  | .writing | .closing => s.removeActive x

/-! ### Remaining time (R125) -/

/-- avg of step 2. -/
def Slot.averageSize (c : Slot) (it : RecItems) : Nat :=
  if 8 ≤ c.recent.length then c.recent.sum / c.recent.length else it.estBlocks

/-- The REMAINING live value (R125). -/
def State.remaining (s : State) (x : SlotId) : Option Nat :=
  let c := s.slot x
  match c.state, s.recorder.lastMark with
  | .empty, _ | .mounting, _ | _, none => none
  | _, some m =>
    some ((c.free - c.reserved - closeReserve) / c.averageSize s.items.record / (60 * nominalRate m.rate))

/-- The live values of a slot (R125). -/
def State.slotLive (s : State) (x : SlotId) : SlotLive :=
  ⟨(s.slot x).state, (s.slot x).hold, (s.slot x).inFlight.isSome, s.remaining x⟩

end Sys2Proof.Machine
end

