-- ==== Sys2Proof/Machine/Flags.lean ====
section
/-! DEFINITION. The flags of the part as a whole: the present indicators of the owners (R151), the
summary and detail flags of supervision, the attention line's rule (R161), and flag sets as bits
(R202). -/

namespace Sys2Proof.Machine

/-- A list of flags as the bits of a number, the first flag bit 0 (R202). -/
def bitsNat : List Bool → Nat
  | [] => 0
  | b :: rest => (if b then 1 else 0) + 2 * bitsNat rest

/-! ### What supervision keeps of a group -/

def Supervision.group (v : Supervision) (g : Group) : GroupState := v.groups.getD g.number (clearGroup g)

def Supervision.setGroup (v : Supervision) (g : Group) (x : GroupState) : Supervision :=
  { v with groups := v.groups.set g.number x }

/-- The group's entry of table 8 (R153). -/
def Supervision.entry (v : Supervision) (g : Group) : FaultEntry := v.table.getD g.number plainFault

/-- The summary fault set (R158). -/
def Supervision.summarySet (v : Supervision) : List Group :=
  Group.all.filter (fun g => (v.group g).summary)

/-- FAULT_SUMMARY: bit g is the summary flag of group g (R202). -/
def Supervision.summaryBits (v : Supervision) : Nat :=
  bitsNat (Group.all.map (fun g => (v.group g).summary))

/-- FAULT_DETAILS: the detail flags group by group, detail by detail (R202). -/
def Supervision.detailBits (v : Supervision) : Nat :=
  bitsNat (Group.all.flatMap (fun g => (v.group g).flags))

/-- NOTIFY includes LINE (R161). -/
def Notify.hasLine : Notify → Bool
  | .line | .both => true
  | .none | .notice => false

/-- NOTIFY is NOTICE or BOTH (R160). -/
def Notify.hasNotice : Notify → Bool
  | .notice | .both => true
  | .none | .line => false

/-- The attention line judged again (R161). -/
def Supervision.judgeAttention (v : Supervision) : Supervision :=
  { v with attention := Group.all.any (fun g => (v.group g).summary && (v.entry g).notify.hasLine) }

/-! ### Present indicators (R151) -/

/-- The present indicators of a group's details, in detail order, as their owners hold them. -/
def State.present (s : State) : Group → List Bool
  | .gyroLost => [s.stab.gyroLost]
  | .shiftMismatch => [s.stab.yaw.mismatch, s.stab.pitch.mismatch]
  | .lensSilent => [s.zoom.lensSilentPresent]
  | .lensFault => [s.zoom.report.fault]
  | .audioGap => List.replicate 4 s.audio.gapPresent
  | .audioClip => s.audio.clipPresent.toList
  | .slotSlow => [s.slotA.slowPresent, s.slotB.slowPresent]
  | .storePressure => [s.recorder.storePressure]
  | .essenceGap => [s.recorder.essenceGap]
  | .vfLineLoss => [s.vf.lossPresent]
  | .linkCrc => [s.head.crcPresent, s.body.crcPresent]
  | .mediaError => [s.slotA.mediaError, s.slotB.mediaError]

end Sys2Proof.Machine
end

