-- ==== Sys2Proof/Machine/Record.lean ====
section
/-! DEFINITION. The record assembler's own events (chapter 4): closing a frame, frame marks, starts and
stops, the record triggers, marks, the pre-record seconds. -/

namespace Sys2Proof.Machine

/-! ### Closing a frame (R83, R85, R96) -/

/-- A track's samples padded with zeros up to the cadence count (R83 step 1). -/
def padTrack (count : Nat) (xs : List Int) : List Int := xs ++ List.replicate (count - xs.length) 0

/-- Step 1 of R83: the samples join the unit, padded and flagged; a DROPPED unit discards them. -/
def RecordUnit.takeAudio (u : RecordUnit) (count : Nat) (tracks : Quad (List Int)) (short : Quad Nat) :
    RecordUnit :=
  if u.dropped then u
  else
    { u with
      audio := tracks.map (padTrack count)
      audioShort := u.audioShort || short.toList.any (fun n => decide (n ≠ 0)) }

/-- Step 2 of R83. -/
def RecordUnit.judgeComplete (u : RecordUnit) : RecordUnit :=
  if !u.main.last || (decide (u.proxy.bytes ≠ []) && !u.proxy.last) then { u with incomplete := true }
  else u

/-- Step 3 of R83: the metadata as it stands. -/
def State.describeUnit (s : State) (u : RecordUnit) : RecordUnit :=
  { u with
    z := s.zoom.report.z, focal := s.zoom.focalNow, stab := s.stab.live, faults := s.sup.summarySet }

/-- Disposal by the record state in force (R85). -/
def State.dispose (s : State) (u : RecordUnit) : State :=
  match s.recorder.state with
  | .standby =>
    if u.dropped then s
    else { s with recorder := s.recorder.ringAppend s.items.record.preRecSeconds u.id }
  | .starting | .recording =>
    if u.dropped then { s with recorder := s.recorder.markOpen ⟨.gap 1, u.frame⟩ }
    else s.offerAll u.id
  | .stopping | .idle => s

/-- The essence loss count at the close of a unit in RECORDING, and the stop it may take (R96). -/
def State.judgeLoss (s : State) (u : RecordUnit) : State :=
  match s.recorder.state with
  | .recording =>
    if u.tookEssence then { s with recorder := { s.recorder with lossCount := 0 } }
    else
      let n := s.recorder.lossCount + 1
      let s := { s with recorder := { s.recorder with lossCount := n } }
      if s.items.record.essenceLossFrames ≤ n then s.requestStop .essenceLost else s
  | _ => s

/-- The unit under assembly closed: its flags and metadata, its disposal, its loss count, its assembly
reference released (R83, R85, R96). -/
def State.closeUnit (s : State) (count : Nat) (tracks : Quad (List Int)) (short : Quad Nat) : State :=
  match s.recorder.assembly.bind s.recorder.store.find with
  | none => s
  | some u =>
    let u := s.describeUnit (u.takeAudio count tracks short).judgeComplete
    let s := { s with recorder := s.recorder.modifyUnit u.id (fun _ => u) }
    let s := (s.dispose u).judgeLoss u
    { s with recorder := s.recorder.releaseAssembly }

/-- The work of a close, while the frame still counts as being closed: the take, then the unit, if the
frame has one (R83). With no frame open nothing happens. -/
def State.closeFrame (s : State) : State :=
  match s.recorder.openFrame with
  | none => s
  | some f =>
    let count := cadence f.rate f.frame
    let (a, tracks, short) := s.audio.takeFrame count
    { s with audio := a }.closeUnit count tracks short

/-- The close is complete: no frame is open, and a pending stop enters STOPPING (R93). -/
def State.endClose (s : State) : State :=
  match s.recorder.openFrame with
  | none => s
  | some _ =>
    let s := { s with recorder := { s.recorder with openFrame := none } }
    match s.recorder.state, s.recorder.pendingStop with
    | .starting, some reason | .recording, some reason => s.enterStopping reason
    | _, _ => s

/-- The pre-record ring is emptied: each unit is released (R87, R89). -/
def State.emptyRing (s : State) : State := { s with recorder := s.recorder.trimRing 0 }

/-! ### FRAME_MARK (R81, R86, R87) -/

/-- A discontinuity against the last mark (R87). -/
def discontinuous (last : Option OpenFrame) (m : OpenFrame) : Bool :=
  match last with
  | none => false
  | some l => decide (m.rate ≠ l.rate ∨ m.frame ≤ l.frame)

/-- The count of a gap against the last mark; 0 where there is none (R86). -/
def gapCountOf (last : Option OpenFrame) (m : OpenFrame) : Nat :=
  match last with
  | none => 0
  | some l => if m.rate = l.rate then m.frame - l.frame - 1 else 0

/-- A gap is marked in every open part and sets ESSENCE_GAP present (R86). -/
def State.markGap (s : State) (m : OpenFrame) : State :=
  let n := gapCountOf s.recorder.lastMark m
  if n = 0 then s
  else { s with recorder := { s.recorder.markOpen ⟨.gap n, m.frame⟩ with essenceGap := true } }

/-- A new frame is opened, with a unit outside IDLE (R81). -/
def State.openNew (s : State) (m : OpenFrame) : State :=
  let s := { s with recorder := { s.recorder with openFrame := some m } }
  match s.recorder.state with
  | .idle => s
  | _ => { s with recorder := s.recorder.openUnit m }

/-- A FRAME_MARK taken: the checks against the last mark, the close, the discontinuity's effects, the
new frame (R81, R86, R87; their order DEDUCED, log entry 13). -/
def State.takeFrameMark (s : State) (m : OpenFrame) : State :=
  let broken := discontinuous s.recorder.lastMark m
  let s := s.markGap m
  let s := { s with recorder := { s.recorder with lastMark := some m, markSilence := .running 200 } }
  let s := s.closeFrame
  let s := if broken then s.requestStop .frameDiscontinuity else s
  let s := s.endClose
  let s := if broken then s.emptyRing else s
  s.openNew m

/-- The mark silence timer expires (R84). -/
def State.markSilenceExpires (s : State) : State :=
  ({ s with recorder := { s.recorder with markSilence := .expired } }.closeFrame).endClose

/-! ### Record start (R90, R91, R97, R198) -/

/-- The participating slots of a start requested now, none where REC_MODE's condition fails (R90). -/
def State.startSlots (s : State) : List SlotId :=
  match s.items.record.mode with
  | .single | .relay => [s.items.record.activeSlot].filter (fun x => (s.slot x).isReady)
  | .dual => [SlotId.a, .b].filter (fun x => (s.slot x).isReady)

/-- The clip counter after a start (R97). -/
def nextClip (n : Nat) : Nat := if n = 9999 then 1 else n + 1

/-- A clip number handed to scene memory: a cell write starts, or the number is pending (R198). -/
def SceneMemory.handClip (m : SceneMemory) (n : Nat) : SceneMemory :=
  match m.cellWrite with
  | none => { m with cell := none, cellWrite := some n }
  | some _ => { m with cellPending := some n }

/-- A recall in flight learns that a record start has been taken (R197). -/
def SceneOp.noteStart : SceneOp → SceneOp
  | .recallScene n contents _ => .recallScene n contents true
  | op => op

/-- Step 1 of R91: the counter advances and its number is handed to scene memory (R97, R198). -/
def State.advanceClip (s : State) : State :=
  let n := nextClip s.recorder.clipCounter
  let m := s.scene.handClip n
  { s with
    recorder := { s.recorder with clipCounter := n }
    scene := { m with op := m.op.noteStart } }

/-- The parts of the previous clip are discarded (R91 step 2; on both slots: DEDUCED, log entry 31). -/
def State.discardParts (s : State) : State :=
  { s with
    recorder := { s.recorder with parts := [] }
    slotA := { s.slotA with part := none }
    slotB := { s.slotB with part := none } }

/-- One unit of the ring at a start: offered, then released (R91 step 4). -/
def State.passRingUnit (s : State) (id : Nat) : State := (s.offerAll id).releaseUnit id

/-- Step 4 of R91. The ring's references pass one by one to assembly and are then released (also after a
stop: DEDUCED, log entry 15). -/
def State.passRing (s : State) : State :=
  s.recorder.ring.foldl State.passRingUnit { s with recorder := { s.recorder with ring := [] } }

/-- A start taken (R91). -/
def State.takeStart (s : State) (slots : List SlotId) : State :=
  let s := s.advanceClip.discardParts
  let s := slots.foldl (fun s x => s.createPart x s.recorder.clipCounter 1) s
  (s.setRecState .starting .start).passRing

/-! ### Record triggers (R90, R93, R95) -/

/-- A trigger ignored and counted (R95). -/
def State.ignoreTrigger (s : State) : State :=
  { s with recorder := { s.recorder with triggerIgnored := sat16 (s.recorder.triggerIgnored + 1) } }

/-- ACTION REC_START (R90, R95). -/
def State.recStart (s : State) : State × Status :=
  match s.recorder.state with
  | .idle | .standby =>
    match s.startSlots with
    | [] => (s, .refusedState)
    | x :: rest => (s.takeStart (x :: rest), .ok)
  | .recording =>
    if s.recorder.pendingStop.isSome then (s.ignoreTrigger, .refusedState) else (s, .refusedState)
  | .starting | .stopping => (s.ignoreTrigger, .refusedState)

/-- ACTION REC_STOP (R93, R95). -/
def State.recStop (s : State) : State × Status :=
  match s.recorder.state with
  | .idle | .standby => (s, .refusedState)
  | .recording =>
    if s.recorder.pendingStop.isSome then (s.ignoreTrigger, .refusedState)
    else (s.requestStop .operator, .ok)
  | .starting | .stopping => (s.ignoreTrigger, .refusedState)

/-- A rising edge of the REC button (R90, R93, R95). -/
def State.recEdge (s : State) : State :=
  match s.recorder.state with
  | .idle | .standby =>
    match s.startSlots with
    | [] => s.notify (.record s.recorder.state s.recorder.clipCounter .noMedia)
    | x :: rest => s.takeStart (x :: rest)
  | .recording =>
    if s.recorder.pendingStop.isSome then s.ignoreTrigger else s.requestStop .operator
  | .starting | .stopping => s.ignoreTrigger

/-! ### Marks (R100) -/

/-- Some part of the clip is open. -/
def Recorder.anyOpen (r : Recorder) : Bool := r.parts.any (fun p => p.phase == .opened)

/-- A mark requested at the last mark's frame, in every open part. With no open part, or no mark taken,
none is placed; the second answer says whether it could be placed (R100). -/
def State.placeMark (s : State) (k : MarkKind) : State × Bool :=
  match s.recorder.lastMark with
  | none => (s, false)
  | some m =>
    if s.recorder.anyOpen then
      ({ s with recorder := s.recorder.markOpen ⟨k, m.frame⟩ }, true)
    else (s, false)

/-- ACTION MARK (R100). -/
def State.actionMark (s : State) : State × Status :=
  let (s, placed) := s.placeMark .shot
  (s, if placed then .ok else .refusedState)

/-- What the record assembler does with a PANEL taken: REC, then MARK (R90, R100; log entry 8). -/
def State.panelRecord (s : State) (record mark : Bool) : State :=
  let recordEdge := risingEdge s.recorder.recButton record
  let markEdge := risingEdge s.recorder.markButton mark
  let s :=
    { s with recorder := { s.recorder with recButton := levelOf record, markButton := levelOf mark } }
  let s := if recordEdge then s.recEdge else s
  if markEdge then (s.placeMark .shot).1 else s

/-- The fault action STOP_REC (R93, R159). -/
def State.faultStopRec (s : State) : State := s.requestStop .fault

/-- The fault action MARK_CLIP (R100, R159). -/
def State.faultMarkClip (s : State) (g : Group) : State := (s.placeMark (.fault g)).1

/-! ### PRE_REC_SECONDS (R89) -/

/-- The record state and the ring follow a PRE_REC_SECONDS set or loaded (R89). -/
def State.applyPreRec (s : State) : State :=
  let seconds := s.items.record.preRecSeconds
  match s.recorder.state with
  | .idle => if seconds = 0 then s else s.setRecState .standby .preRec
  | .standby =>
    if seconds = 0 then
      let s := s.emptyRing
      { s with recorder := s.recorder.releaseAssembly }.setRecState .idle .preRec
    else { s with recorder := s.recorder.trimRing (s.recorder.ringCapacity seconds) }
  | .starting | .recording | .stopping => s

end Sys2Proof.Machine
end

