-- ==== Sys2Proof/Machine/Viewfinder.lean ====
section
/-! DEFINITION. The viewfinder compositor (chapter 6): zebra, the display entries, the composed line, the
frame start, line intake and replacement. -/

namespace Sys2Proof.Machine

/-- Lines of a viewfinder frame. -/
def frameLines : Nat := 540

/-! ### Drawing with a palette entry (R139) -/

def blend (a base ink : Nat) : Nat := (base * (16 - a) + ink * a) / 16

/-- A pixel drawn with a palette entry. -/
def Pixel.drawn (p : Pixel) (c : PaletteEntry) : Pixel :=
  ⟨blend c.opacity p.y c.y, blend c.opacity p.cb c.cb, blend c.opacity p.cr c.cr⟩

/-- The palette entry of an index. -/
def paletteAt (palette : List PaletteEntry) (k : Nat) : PaletteEntry := palette.getD k ⟨0, 0, 0, 0⟩

/-! ### Zebra (R140) -/

/-- A luma inside a window; a window whose limit is below its base contains none. -/
def inWindow (base limit y : Nat) : Bool := decide (base ≤ y ∧ y ≤ limit)

/-- The palette index zebra draws with at pixel `x` of line `y`, none where it does not draw. -/
def zebraInk (sn : Snapshot) (stripe x y luma : Nat) : Option Nat :=
  if !sn.zebraOn then none
  else if inWindow sn.zebra1Base sn.zebra1Limit luma then
    if (x + y + stripe) / 4 % 2 = 0 then some 15 else none
  else if inWindow sn.zebra2Base sn.zebra2Limit luma then
    if (x + 1000 - y + stripe) / 4 % 2 = 0 then some 14 else none
  else none

/-! ### Glyph rows (R143, R144) -/

/-- A pixel of a glyph. -/
def Glyph.pixel (g : Glyph) (row col : Nat) : Bool := (g.rows.getD row 0#12).getLsbD col

def glyphOf (glyphs : List Glyph) (code : Nat) : Glyph := glyphs.getD (code - 32) ⟨[]⟩

/-- The ink of a row of glyph codes at column `u` and row `v` from the entry's corner. -/
def textInk (glyphs : List Glyph) (colour alternate : Nat) (codes : List Nat) (u v : Nat) : Option Nat :=
  if v < 16 then
    match codes[u / 12]? with
    | some code => some (if (glyphOf glyphs code).pixel v (u % 12) then colour else alternate)
    | none => none
  else none

/-- A number's figures in `w` positions, with leading zeros. -/
def zeroFigures : Nat → Nat → List Nat
  | 0, _ => []
  | w + 1, n => zeroFigures w (n / 10) ++ [48 + n % 10]

/-- A number's figures in `w` positions, right-aligned with leading spaces. -/
def spaceFigures : Nat → Nat → List Nat
  | 0, _ => []
  | w + 1, n => (if n < 10 then List.replicate w 32 else spaceFigures w (n / 10)) ++ [48 + n % 10]

def dashes (n : Nat) : List Nat := List.replicate n 45

/-- The row of VALUE TIMECODE. -/
def timecodeRow : Option Timecode → List Nat
  | some tc =>
    let two (b : Byte) : List Nat := zeroFigures 2 (b.toNat % 100)
    two tc.hh ++ 58 :: two tc.mm ++ 58 :: two tc.ss ++ 58 :: two tc.ff
  | none => dashes 2 ++ 58 :: dashes 2 ++ 58 :: dashes 2 ++ 58 :: dashes 2

/-- The row of VALUE FOCAL, of a length in 0.1 mm. -/
def focalRow : Option Nat → List Nat
  | some f => spaceFigures 4 (f / 10) ++ [46, 48 + f % 10]
  | none => dashes 4 ++ [46, 45]

def percentRow : Option Nat → List Nat
  | some pc => spaceFigures 3 pc
  | none => dashes 3

def clipRow : Option Nat → List Nat
  | some n => zeroFigures 4 n
  | none => dashes 4

/-- The four positions of REMAIN_A or REMAIN_B, in the order of precedence of R144. -/
def remainFigures (x : SlotLive) : List Nat :=
  if x.hold then [72, 79, 76, 68]
  else if x.state = .full then [70, 85, 76, 76]
  else
    match x.remaining with
    | none => dashes 4
    | some n => spaceFigures 4 (min n 9999)

/-- The row of VALUE REMAIN_A or REMAIN_B, with its busy mark. -/
def remainRow (x : SlotLive) : List Nat := remainFigures x ++ [if x.busy then 42 else 32]

/-- The row of a VALUE entry (R144). -/
def valueRow (sn : Snapshot) : ValueSource → List Nat
  | .timecode => timecodeRow sn.timecode
  | .remainA => remainRow sn.slotA
  | .remainB => remainRow sn.slotB
  | .focal => focalRow sn.focal
  | .zoomPct => percentRow sn.zoomPct
  | .clip => clipRow sn.clip

/-! ### Display entries (R142, R145 to R147) -/

/-- Column `u` of line `v` lies in the entry's rectangle (R137). -/
def DisplayBase.holds (b : DisplayBase) (u v : Nat) : Bool :=
  decide (b.x ≤ u ∧ u < b.x + b.w ∧ b.y ≤ v ∧ v < b.y + b.h)

/-- A pixel of the rectangle within `lw` of an edge (R142). -/
def DisplayBase.nearEdge (b : DisplayBase) (lw u v : Nat) : Bool :=
  decide (u < b.x + lw ∨ b.x + b.w ≤ u + lw ∨ v < b.y + lw ∨ b.y + b.h ≤ v + lw)

/-- The fill of a level in a meter of height `h` (R145). -/
def meterFill (h level : Nat) : Nat := h * (60 - level) / 60

/-- The ink of a meter's row at height `b` from the bottom (R145). -/
def meterInk (colour alternate h : Nat) (m peak : Option Nat) (b : Nat) : Option Nat :=
  match m with
  | none => none
  | some m =>
    if b < meterFill h m then some (if m ≤ 6 then alternate else colour)
    else
      match peak with
      | none => none
      | some p =>
        if 1 ≤ meterFill h p ∧ b = meterFill h p - 1 then some (if p ≤ 6 then alternate else colour)
        else none

/-- The ink of a zoom bar `u` columns from its left edge (R146). -/
def zoomBarInk (colour alternate w : Nat) (pc : Option Nat) (u : Nat) : Option Nat :=
  match pc with
  | none => some alternate
  | some pc => some (if u < w * pc / 100 then colour else alternate)

/-- The palette index a visible entry draws a pixel of its rectangle with, none where it does not
draw. -/
def DisplayKind.ink (k : DisplayKind) (sn : Snapshot) (glyphs : List Glyph) (b : DisplayBase) (u v : Nat) :
    Option Nat :=
  match k with
  | .box => some b.colour
  | .frame lw => if b.nearEdge lw u v then some b.colour else none
  | .text alternate codes => textInk glyphs b.colour alternate codes (u - b.x) (v - b.y)
  | .meter alternate t =>
    meterInk b.colour alternate b.h (sn.meter.get t) (sn.peak.get t) (b.h - 1 - (v - b.y))
  | .zoomBar alternate => zoomBarInk b.colour alternate b.w sn.zoomPct (u - b.x)
  | .tallyBorder => if b.nearEdge 4 u v then some b.colour else none
  | .value alternate src => textInk glyphs b.colour alternate (valueRow sn src) (u - b.x) (v - b.y)

/-! ### Visibility (R141, R147) -/

/-- A condition judged from the snapshot (R141). -/
def Condition.holds (c : Condition) (sn : Snapshot) (k : DisplayKind) : Bool :=
  match c with
  | .always => true
  | .onRec => sn.recState.recording?
  | .notRec => !sn.recState.recording?
  | .warning => sn.warning
  | .pan =>
    match sn.stab with
    | .running yaw pitch => yaw || pitch
    | .off | .settling => false
  | .limit =>
    match k with
    | .meter _ t => sn.limiting.get t
    | _ => sn.travelLimit.yaw || sn.travelLimit.pitch

/-- The record-state test of a TALLY_BORDER (R147); other kinds have none. -/
def tallyTest (sn : Snapshot) (blinkOn : Bool) : DisplayKind → Bool
  | .tallyBorder =>
    match sn.recState with
    | .recording => true
    | .starting | .stopping => blinkOn
    | .idle | .standby => false
  | _ => true

/-- An entry visible in the frame, with its fields (R141). -/
def DisplayEntry.visible (sn : Snapshot) (blinkOn : Bool) : DisplayEntry → Option (DisplayBase × DisplayKind)
  | .none => Option.none
  | .item b k =>
    if b.condition.holds sn k && (!b.blink || blinkOn) && tallyTest sn blinkOn k then some (b, k)
    else Option.none

/-! ### Composing a line (R138) -/

/-- One visible entry drawn onto a pixel. -/
def drawEntry (sn : Snapshot) (palette : List PaletteEntry) (glyphs : List Glyph) (u v : Nat) (p : Pixel)
    (e : DisplayBase × DisplayKind) : Pixel :=
  if e.1.holds u v then
    match e.2.ink sn glyphs e.1 u v with
    | some k => p.drawn (paletteAt palette k)
    | none => p
  else p

/-- The blink is on (R133). -/
def Viewfinder.blinkOn (f : Viewfinder) : Bool := decide (f.blink ≤ 15)

/-- The entries visible in the frame, in index order. -/
def Viewfinder.visibleEntries (f : Viewfinder) (sn : Snapshot) : List (DisplayBase × DisplayKind) :=
  f.liveList.filterMap (DisplayEntry.visible sn f.blinkOn)

/-- One pixel composed: zebra by its starting luma, then the entries (R138). -/
def Viewfinder.composePixel (f : Viewfinder) (sn : Snapshot) (es : List (DisplayBase × DisplayKind))
    (v u : Nat) (p : Pixel) : Pixel :=
  let striped :=
    match zebraInk sn f.stripe u v p.y with
    | some k => p.drawn (paletteAt f.palette k)
    | none => p
  es.foldl (drawEntry sn f.palette f.glyphs u v) striped

/-- A line composed from its starting pixels (R138). No line is composed before a first frame start has
filled the snapshot. -/
def Viewfinder.composeLine (f : Viewfinder) (v : Nat) (pixels : List Pixel) : List Pixel :=
  match f.snapshot with
  | none => pixels
  | some sn => pixels.mapIdx (f.composePixel sn (f.visibleEntries sn) v)

/-! ### Frame start (R133, R134) -/

/-- The live values and zebra items as their owners hold them (R134, R148). -/
def State.latch (s : State) : Snapshot where
  focal := s.zoom.focalNow
  zoomPct := s.zoom.percentNow
  stab := s.stab.live
  travelLimit := s.stab.travelLimit
  meter := s.audio.meter
  peak := s.audio.peak
  limiting := s.audio.limiting
  recState := s.recorder.state
  clip := if s.recorder.clipCounter = 0 then none else some s.recorder.clipCounter
  timecode := s.recorder.lastMark.map OpenFrame.tc
  slotA := s.slotLive .a
  slotB := s.slotLive .b
  warning := !s.vf.warnGroups.isEmpty
  zebraOn := s.items.vf.zebraOn
  zebra1Base := s.items.vf.zebra1Base
  zebra1Limit := s.items.vf.zebra1Limit
  zebra2Base := s.items.vf.zebra2Base
  zebra2Limit := s.items.vf.zebra2Limit

/-- The frame start, before line 0 (R133). Step 5, the visibility of each entry, follows from what steps
1 to 4 fix for the frame. -/
def State.frameStart (s : State) : State :=
  { s with
    vf :=
      { s.vf with
        liveList := if s.vf.editChanged then s.vf.editList else s.vf.liveList
        editChanged := false
        snapshot := some s.latch
        stripe := (s.vf.stripe + 1) % 8
        blink := (s.vf.blink + 1) % 32 } }

/-! ### Line intake (R129 to R132) -/

/-- A line composed at its number and sent on the port, with the frame start before line 0. -/
def State.sendLine (s : State) (n : Nat) (pixels : List Pixel) : State :=
  let s := if n = 0 then s.frameStart else s
  { s with portSeq := s.portSeq + 1 }.emit (.viewfinderLine s.portSeq n (s.vf.composeLine n pixels))

/-- The line expected after line `n`. -/
def nextLine (n : Nat) : Nat := if n + 1 < frameLines then n + 1 else 0

/-- A line of black (R130). -/
def blackLine : List Pixel := List.replicate 960 ⟨64, 512, 512⟩

/-- A line replaced (R130, R132). -/
def State.replaceLine (s : State) (n : Nat) : State :=
  let s := s.sendLine n (s.vf.lastGood.getD blackLine)
  { s with
    vf :=
      { s.vf with expected := nextLine n, repeated := sat16 (s.vf.repeated + 1), lossPresent := true } }

/-- `count` lines replaced, from line `n` up. -/
def State.replaceLines (s : State) (n : Nat) : Nat → State
  | 0 => s
  | count + 1 => (s.replaceLine n).replaceLines (n + 1) count

/-- A line composed from its own pixels (R129). -/
def State.ownLine (s : State) (n : Nat) (pixels : List Pixel) : State :=
  let s := s.sendLine n pixels
  { s with vf := { s.vf with expected := nextLine n, lastGood := some pixels } }

/-- A line dropped (R129, R132). -/
def State.dropLine (s : State) : State :=
  { s with vf := { s.vf with dropped := sat16 (s.vf.dropped + 1), lossPresent := true } }

/-- A VF_LINE taken, by the table of R129: line 0 with another line expected completes the frame, also where
it repeats the line just taken, with line 1 expected (R129, R132; DEDUCED, log entry 39). -/
def State.takeLine (s : State) (n : Nat) (pixels : List Pixel) : State :=
  let s := { s with vf := { s.vf with lineSilence := .running 40 } }
  let e := s.vf.expected
  if frameLines ≤ n then s.dropLine
  else if n = e then
    let s := s.ownLine n pixels
    { s with vf := { s.vf with lossPresent := false } }
  else if e < n then (s.replaceLines e (n - e)).ownLine n pixels
  else if n = 0 then (s.replaceLines e (frameLines - e)).ownLine 0 pixels
  else s.dropLine

/-- The line silence timer expires (R131). -/
def State.lineSilenceExpires (s : State) : State :=
  let s := { s with vf := { s.vf with lineSilence := .expired, lossPresent := true } }
  if s.vf.expected = 0 then s else s.replaceLines s.vf.expected (frameLines - s.vf.expected)

end Sys2Proof.Machine
end

