-- ==== Sys2Proof/Machine/Supervision.lean ====
section
/-! DEFINITION. Fault supervision (chapter 7): the check cycle, risings and falls, the attention line,
clearing. -/

namespace Sys2Proof.Machine

/-! ### Counting and flagging (R156 to R158) -/

/-- A detail's consecutive counter after a check (R156). -/
def countDetail (present : Bool) (counter : Nat) : Nat := if present then min 8 (counter + 1) else 0

/-- A detail flag after a check, given the counter it left (R157). -/
def flagDetail (e : FaultEntry) (present : Bool) (counter : Nat) (flag : Bool) : Bool :=
  flag || (present && (decide (e.nr < counter) || e.countBypass))

/-- A group after a check of it (R156, R157, R158). -/
def GroupState.check (e : FaultEntry) (present : List Bool) (g : GroupState) : GroupState :=
  let counters := List.zipWith countDetail present g.counters
  let flags := List.zipWith (fun (p : Bool × Nat) f => flagDetail e p.1 p.2 f) (present.zip counters) g.flags
  ⟨counters, flags, flags.any id⟩

/-- The details newly set between two readings of a group's flags, in detail order (R157). -/
def newlySet (before after : List Bool) : List Nat :=
  (List.range after.length).filter (fun d => after.getD d false && !before.getD d false)

/-! ### Actions (R159) -/

def State.when (s : State) (b : Bool) (f : State → State) : State := if b then f s else s

/-- The fault action VF_WARN: the group joins the warning groups (R135). -/
def State.faultWarn (s : State) (g : Group) : State :=
  { s with vf := { s.vf with warnGroups := joinGroup g s.vf.warnGroups } }

/-- The actions of a group at its rising, MARK_CLIP before STOP_REC (R159). -/
def State.runActions (s : State) (g : Group) (a : Actions) : State :=
  ((((s.when a.stabOff State.faultStabOff).when a.zoomStop (State.faultZoomStop · g)).when a.markClip
    (State.faultMarkClip · g)).when a.vfWarn (State.faultWarn · g)).when a.stopRec State.faultStopRec

/-- A rising (R158). -/
def State.rise (s : State) (g : Group) : State :=
  let s := s.runActions g (s.sup.entry g).actions
  { s with sup := { s.sup with risings := sat16 (s.sup.risings + 1) }.judgeAttention }

/-- FAULT notices for the details newly set, where NOTIFY includes NOTICE (R160). -/
def State.faultNotices (s : State) (g : Group) (ds : List Nat) : State :=
  if (s.sup.entry g).notify.hasNotice then ds.foldl (fun s d => s.notify (.fault g d)) s else s

/-- A check of one group on the indicators sampled (R155). -/
def State.checkGroup (s : State) (g : Group) (present : List Bool) : State :=
  let old := s.sup.group g
  let new := old.check (s.sup.entry g) present
  let s := { s with sup := s.sup.setGroup g new }
  let s := if !old.summary && new.summary then s.rise g else s
  s.faultNotices g (newlySet old.flags new.flags)

/-! ### The check cycle (R152, R155) -/

/-- The cycle count after an advance (R155). -/
def nextCycle (n : Nat) : Nat := (n + 1) % 840

/-- A group is due at a cycle (R155). -/
def Supervision.due (v : Supervision) (g : Group) : Bool := decide (v.cycle % ((v.entry g).checkDiv + 1) = 0)

/-- The owners clear their one-check indicators whose group was sampled (R152). -/
def State.clearSampled (s : State) : Group → State
  | .essenceGap => { s with recorder := { s.recorder with essenceGap := false } }
  | .linkCrc =>
    { s with head := { s.head with crcPresent := false }, body := { s.body with crcPresent := false } }
  | .mediaError =>
    { s with slotA := { s.slotA with mediaError := false }, slotB := { s.slotB with mediaError := false } }
  | .gyroLost | .shiftMismatch | .lensSilent | .lensFault | .audioGap | .audioClip | .slotSlow
  | .storePressure | .vfLineLoss => s

/-- A check cycle, taken whole (R155). Every indicator is read as it stands when the check is taken
(R152), before any action of the cycle. The timer restarts with SUP_PERIOD as it stands. -/
def State.checkCycle (s : State) : State :=
  let s :=
    { s with sup := { s.sup with cycle := nextCycle s.sup.cycle, timer := .running s.items.supPeriod } }
  let due := Group.all.filter s.sup.due
  let sampled := due.map (fun g => (g, s.present g))
  let s := sampled.foldl (fun s p => s.checkGroup p.1 p.2) s
  due.foldl State.clearSampled s

/-! ### Clearing (R158, R162) -/

/-- A fall: the group leaves the holding sets, and the line is judged again (R158). -/
def State.fall (s : State) (g : Group) : State :=
  let s := s.releaseStop g
  let s := { s with vf := { s.vf with warnGroups := leaveGroup g s.vf.warnGroups } }
  { s with sup := s.sup.judgeAttention }

/-- A list with the entries at the places that `which` holds of replaced. -/
def replaceWhere {α : Type} (which : Nat → Bool) (a : α) (xs : List α) : List α :=
  xs.mapIdx (fun i x => if which i then a else x)

/-- A group with some of its details cleared, its summary formed again (R162). -/
def GroupState.clear (which : Nat → Bool) (g : GroupState) : GroupState :=
  let flags := replaceWhere which false g.flags
  ⟨replaceWhere which 0 g.counters, flags, flags.any id⟩

/-- Details of a group cleared, with the fall this may make (R162). -/
def State.clearDetails (s : State) (which : Nat → Bool) (g : Group) : State :=
  let old := s.sup.group g
  let new := old.clear which
  let s := { s with sup := s.sup.setGroup g new }
  if old.summary && !new.summary then s.fall g else s

/-- ACTION CLEAR_FAULT: scope 0 DETAIL, 1 GROUP, 2 ALL (R162, R203). -/
def State.clearFault (s : State) (scope group detail : Nat) : State × Status :=
  match scope with
  | 0 =>
    match Group.ofNumber group with
    | some g =>
      if detail < g.details then (s.clearDetails (fun d => d == detail) g, .ok) else (s, .badCommand)
    | none => (s, .badCommand)
  | 1 =>
    match Group.ofNumber group with
    | some g => (s.clearDetails (fun _ => true) g, .ok)
    | none => (s, .badCommand)
  | 2 => (Group.all.foldl (State.clearDetails · (fun _ => true)) s, .ok)
  | _ => (s, .badCommand)

end Sys2Proof.Machine
end

