-- ==== Sys2Proof/Machine/Operands.lean ====
section
/-! DEFINITION. The operand forms of management: the settable items with their ranges, defaults and the
value a SET takes (R184, 9.8), the read-only items (R183, R202), and the table entries as a WRITE
takes them and a READ returns them (R205). -/

namespace Sys2Proof.Machine

/-! ### Settable items (9.8) -/

/-- A settable item: its number, range and default, and where it is held. Enumerated values are their
positions (R202). -/
structure ItemSpec where
  number : Nat
  lo : Nat
  hi : Nat
  default : Nat
  get : Items → Nat
  put : Nat → Items → Items

def zoomSpecs : List ItemSpec :=
  [⟨32, 0, 32, 6, (·.zoom.deadband), fun v it => { it with zoom := { it.zoom with deadband := v } }⟩,
   ⟨33, 0x40, 0x400, 0x100, (·.zoom.scale), fun v it => { it with zoom := { it.zoom with scale := v } }⟩,
   ⟨34, 256, 8192, 2048, (·.zoom.approach), fun v it => { it with zoom := { it.zoom with approach := v } }⟩,
   ⟨35, 4, 256, 32, (·.zoom.arriveWindow),
     fun v it => { it with zoom := { it.zoom with arriveWindow := v } }⟩,
   ⟨36, 1, 60, 10, (·.zoom.presetTimeout),
     fun v it => { it with zoom := { it.zoom with presetTimeout := v } }⟩]

/-- The static ranges of PAN_HYST and LEAK_PAN are the widest their partners allow; the bound itself is
taken by `boundValue` and `boundPairs`. -/
def stabSpecs : List ItemSpec :=
  [⟨64, 0, 1, 1, (onCode ·.stab.enable), fun v it => { it with stab := { it.stab with enable := v != 0 } }⟩,
   ⟨65, 1, 8, 4, (·.stab.avgCount), fun v it => { it with stab := { it.stab with avgCount := v } }⟩,
   ⟨66, 1, 255, 24, (·.stab.noiseTh), fun v it => { it with stab := { it.stab with noiseTh := v } }⟩,
   ⟨67, 1, 65535, 4000, (·.stab.bucketTh), fun v it => { it with stab := { it.stab with bucketTh := v } }⟩,
   ⟨68, 128, 8192, 1280, (·.stab.panTh), fun v it => { it with stab := { it.stab with panTh := v } }⟩,
   ⟨69, 0, 8191, 256, (·.stab.panHyst), fun v it => { it with stab := { it.stab with panHyst := v } }⟩,
   ⟨70, 1, 255, 30, (·.stab.panDebounce),
     fun v it => { it with stab := { it.stab with panDebounce := v } }⟩,
   ⟨71, 6, 14, 11, (·.stab.leakSteady), fun v it => { it with stab := { it.stab with leakSteady := v } }⟩,
   ⟨72, 4, 14, 6, (·.stab.leakPan), fun v it => { it with stab := { it.stab with leakPan := v } }⟩,
   ⟨73, 1, 1000, 100, (·.stab.clampPanCount),
     fun v it => { it with stab := { it.stab with clampPanCount := v } }⟩,
   ⟨74, 0, 255, 40, (·.stab.dropWindow), fun v it => { it with stab := { it.stab with dropWindow := v } }⟩,
   ⟨75, 1, 1023, 64, (·.stab.mismatchTol),
     fun v it => { it with stab := { it.stab with mismatchTol := v } }⟩]

/-- ASSIGN_Tt, set by the swap of R53. -/
def assignSpec (t : Four) : ItemSpec :=
  ⟨96 + t.idx, 1, 4, t.idx + 1, (·.audio.assign.get t),
    fun v it => { it with audio := { it.audio with assign := swapAssign it.audio.assign t v } }⟩

def inGainSpec (n : Four) : ItemSpec :=
  ⟨100 + n.idx, 0, 160, 40, (·.audio.inGain.get n),
    fun v it => { it with audio := { it.audio with inGain := it.audio.inGain.set n v } }⟩

def limitOnSpec (t : Four) : ItemSpec :=
  ⟨104 + t.idx, 0, 1, 0, (onCode <| ·.audio.limitOn.get t),
    fun v it => { it with audio := { it.audio with limitOn := it.audio.limitOn.set t (v != 0) } }⟩

/-- MON_L_T1 defaults to unity, the other three to 0. -/
def monLSpec (t : Four) : ItemSpec :=
  ⟨112 + t.idx, 0, 65536, if t = .i1 then 65536 else 0, (·.audio.monL.get t),
    fun v it => { it with audio := { it.audio with monL := it.audio.monL.set t v } }⟩

/-- MON_R_T2 defaults to unity, the other three to 0. -/
def monRSpec (t : Four) : ItemSpec :=
  ⟨116 + t.idx, 0, 65536, if t = .i2 then 65536 else 0, (·.audio.monR.get t),
    fun v it => { it with audio := { it.audio with monR := it.audio.monR.set t v } }⟩

def limiterSpecs : List ItemSpec :=
  [⟨108, 1, 8388607, 7476345, (·.audio.limitTh),
     fun v it => { it with audio := { it.audio with limitTh := v } }⟩,
   ⟨109, 1, 65536, 64, (·.audio.limitRel), fun v it => { it with audio := { it.audio with limitRel := v } }⟩,
   ⟨110, 0, 1, 0, (onCode ·.audio.link12),
     fun v it => { it with audio := { it.audio with link12 := v != 0 } }⟩,
   ⟨111, 0, 1, 0, (onCode ·.audio.link34),
     fun v it => { it with audio := { it.audio with link34 := v != 0 } }⟩]

def audioSpecs : List ItemSpec :=
  Four.all.map assignSpec ++ Four.all.map inGainSpec ++ Four.all.map limitOnSpec ++ limiterSpecs
    ++ Four.all.map monLSpec ++ Four.all.map monRSpec

def RecMode.ofCode : Nat → RecMode
  | 0 => .single
  | 1 => .dual
  | _ => .relay

def SlotId.ofCode : Nat → SlotId
  | 0 => .a
  | _ => .b

def ErrorPolicy.ofCode : Nat → ErrorPolicy
  | 0 => .skip
  | _ => .abort

def recordSpecs : List ItemSpec :=
  [⟨128, 0, 2, 0, (·.record.mode.code),
     fun v it => { it with record := { it.record with mode := RecMode.ofCode v } }⟩,
   ⟨129, 0, 1, 0, (·.record.activeSlot.code),
     fun v it => { it with record := { it.record with activeSlot := SlotId.ofCode v } }⟩,
   ⟨130, 0, 15, 0, (·.record.preRecSeconds),
     fun v it => { it with record := { it.record with preRecSeconds := v } }⟩,
   ⟨131, 1, 250, 25, (·.record.essenceLossFrames),
     fun v it => { it with record := { it.record with essenceLossFrames := v } }⟩,
   ⟨132, 1, 256, 4, (·.record.estBlocks),
     fun v it => { it with record := { it.record with estBlocks := v } }⟩,
   ⟨160, 0, 1, 0, (·.slots.policyA.code),
     fun v it => { it with slots := { it.slots with policyA := ErrorPolicy.ofCode v } }⟩,
   ⟨161, 0, 1, 0, (·.slots.policyB.code),
     fun v it => { it with slots := { it.slots with policyB := ErrorPolicy.ofCode v } }⟩]

def viewSpecs : List ItemSpec :=
  [⟨192, 0, 1, 0, (onCode ·.vf.zebraOn), fun v it => { it with vf := { it.vf with zebraOn := v != 0 } }⟩,
   ⟨193, 0, 1023, 760, (·.vf.zebra1Base), fun v it => { it with vf := { it.vf with zebra1Base := v } }⟩,
   ⟨194, 0, 1023, 700, (·.vf.zebra1Limit), fun v it => { it with vf := { it.vf with zebra1Limit := v } }⟩,
   ⟨195, 0, 1023, 940, (·.vf.zebra2Base), fun v it => { it with vf := { it.vf with zebra2Base := v } }⟩,
   ⟨196, 0, 1023, 1023, (·.vf.zebra2Limit), fun v it => { it with vf := { it.vf with zebra2Limit := v } }⟩,
   ⟨224, 1, 255, 10, (·.supPeriod), fun v it => { it with supPeriod := v }⟩]

/-- Every settable item, in number order. -/
def itemSpecs : List ItemSpec := zoomSpecs ++ stabSpecs ++ audioSpecs ++ recordSpecs ++ viewSpecs

def specOf (n : Nat) : Option ItemSpec := itemSpecs.find? (fun sp => sp.number == n)

/-- AVG_COUNT as R49 takes it: the largest of 1, 2, 4, 8 not greater, or 1 for 0. -/
def avgCountValue (v : Nat) : Nat := if 8 ≤ v then 8 else if 4 ≤ v then 4 else if 2 ≤ v then 2 else 1

/-- A value in range, taken at the bound its partner sets (R49, R184 step 4). -/
def boundValue (it : Items) (n v : Nat) : Nat :=
  match n with
  | 68 => max v (it.stab.panHyst + 1)
  | 69 => min v (it.stab.panTh - 1)
  | 71 => max v it.stab.leakPan
  | 72 => min v it.stab.leakSteady
  | _ => v

/-- The value a SET takes (R184 steps 3 and 4). -/
def takenValue (it : Items) (sp : ItemSpec) (v : Nat) : Nat :=
  if sp.number = 65 then avgCountValue v else boundValue it sp.number (clampNat sp.lo sp.hi v)

/-! ### Items loaded together (R49, R54, R72, R148, R164, R197) -/

/-- A stored value is in the item's range; AVG_COUNT's range is 1, 2, 4, 8 (R49). -/
def ItemSpec.holdsValue (sp : ItemSpec) (v : Nat) : Bool :=
  if sp.number = 65 then [1, 2, 4, 8].contains v else decide (sp.lo ≤ v ∧ v ≤ sp.hi)

/-- One stored item loaded, its default where it is out of range. -/
def ItemSpec.load (sp : ItemSpec) (stored it : Items) : Items :=
  sp.put (if sp.holdsValue (sp.get stored) then sp.get stored else sp.default) it

/-- The bound pairs corrected after loading (R49). -/
def StabItems.boundPairs (it : StabItems) : StabItems :=
  { it with
    panHyst := if it.panTh ≤ it.panHyst then it.panTh - 1 else it.panHyst
    leakPan := min it.leakPan it.leakSteady }

/-- Items loaded together: ranges and defaults, the bound pairs, the assignment formed from the values
stored (R54; DEDUCED, log entry 20). -/
def loadItems (stored it : Items) : Items :=
  let it := itemSpecs.foldl (fun it sp => sp.load stored it) it
  { it with
    stab := it.stab.boundPairs
    audio := { it.audio with assign := formAssign stored.audio.assign } }

/-! ### Read-only items (R183, R202) -/

/-- STAB_STATE of one axis: OFF, SETTLING, STEADY, PAN (R50). -/
def stabStateCode (st : StabState) (pan : Bool) : Nat :=
  match st with
  | .off => 0
  | .settling => 1
  | .running => if pan then 3 else 2

/-- CURSOR_0 and CURSOR_1: byte 0 the table id or 0, bytes 1 and 2 the index (R202). -/
def cursorCode : Option Cursor → Nat
  | none => 0
  | some c => c.table.code + 256 * c.index

/-- SCENE_BUSY (R202). -/
def SceneOp.code : SceneOp → Nat
  | .idle => 0
  | .storeScene n _ => 1 + 256 * n.idx
  | .storeFixed _ => 2
  | .recallScene n _ _ => 3 + 256 * n.idx

/-- AREA_VALID (R202). -/
def SceneMemory.validBits (m : SceneMemory) : Nat :=
  bitsNat (m.fixed.isSome :: m.scenes.toList.map Option.isSome ++ [m.cell.isSome])

/-- A meter or peak value, 61 when absent (R66). -/
def meterCode (m : Option Nat) : Int := ((m.getD 61 : Nat) : Int)

/-- An absent count of minutes (R126). -/
def remainCode (m : Option Nat) : Int := ((m.getD 4294967295 : Nat) : Int)

/-- Values of four tracks or inputs in order. -/
def quadInts (q : Quad Nat) : List Int := q.toList.map Int.ofNat

/-- The link items 0..17: even the head link's, odd the body link's (R179). -/
def LinkCtl.item (c : LinkCtl) : Nat → Nat
  | 0 => c.state.code
  | 1 => c.crcErrors
  | 2 => c.missed
  | 3 => c.repeats
  | 4 => c.rejected
  | 5 => c.foreign
  | 6 => c.linkResets
  | 7 => c.outDropped
  | _ => c.outDiscarded

/-- The zoom drive's read-only items 40..46 (R26). -/
def State.zoomItem (s : State) : Nat → Option (List Int)
  | 40 => some [(s.zoom.mode.code : Int)]
  | 41 => some [(s.zoom.report.z : Int)]
  | 42 => some [(s.zoom.grant.code : Int)]
  | 43 => some [s.zoom.sentSpeed]
  | 44 => some [(s.zoom.lens.length : Int)]
  | 45 => some [(curveSet s.zoom.curve : Int)]
  | 46 => some [(s.zoom.ignored : Int)]
  | _ => none

/-- The stabiliser's read-only items 80..84 (R50). -/
def State.stabItem (s : State) : Nat → Option (List Int)
  | 80 => some [(stabStateCode s.stab.state s.stab.yaw.pan : Int)]
  | 81 => some [(stabStateCode s.stab.state s.stab.pitch.pan : Int)]
  | 82 => some [s.stab.yaw.base]
  | 83 => some [s.stab.pitch.base]
  | 84 => some [(s.stab.reason.code : Int)]
  | _ => none

/-- The audio unit's read-only items 120..126, six of them of four values (R73, R183). -/
def State.audioItem (s : State) : Nat → Option (List Int)
  | 120 => some (quadInts s.audio.gainNow)
  | 121 => some (quadInts s.audio.limGain)
  | 122 => some (s.audio.meter.toList.map meterCode)
  | 123 => some (s.audio.peak.toList.map meterCode)
  | 124 => some (s.audio.fifo.toList.map (fun f => (f.length : Int)))
  | 125 => some (quadInts s.audio.overflow)
  | 126 => some [(s.audio.gapCount : Int)]
  | _ => none

/-- The record assembler's read-only items 136..145 (R102). -/
def State.recordItem (s : State) : Nat → Option (List Int)
  | 136 => some [(s.recorder.state.code : Int)]
  | 137 => some [(stopReasonCode s.recorder.pendingStop : Int)]
  | 138 => some [(stopReasonCode s.recorder.stopReason : Int)]
  | 139 => some [(s.recorder.clipCounter : Int)]
  | 140 => some [(s.recorder.store.freeCount : Int)]
  | 141 => some [(s.recorder.ring.length : Int)]
  | 142 => some [(s.recorder.ringEvicted : Int)]
  | 143 => some [(s.recorder.droppedUnits : Int)]
  | 144 => some [(s.recorder.essenceDiscarded : Int)]
  | 145 => some [(s.recorder.triggerIgnored : Int)]
  | _ => none

/-- A count of the slot part, 0 when it is absent (R126). -/
def Slot.count (c : Slot) (f : SlotPart → Nat) : Int :=
  ((partCountValue ((c.part.map f).getD 0) : Nat) : Int)

/-- A slot's read-only items, from position 0 at number 164 (R126). -/
def State.slotItem (s : State) (x : SlotId) : Nat → Option (List Int)
  | 0 => some [((s.slot x).state.code : Int)]
  | 1 => some [(flagCode (s.slot x).hold : Int)]
  | 2 => some [((s.slot x).free : Int)]
  | 3 => some [((s.slot x).reserved : Int)]
  | 4 => some [((s.slot x).queue.length : Int)]
  | 5 => some [(s.slot x).count SlotPart.written]
  | 6 => some [(s.slot x).count SlotPart.skipped]
  | 7 => some [(s.slot x).count SlotPart.lost]
  | 8 => some [remainCode (s.remaining x)]
  | 9 => some [((s.slot x).stale : Int)]
  | _ => none

/-- MAP_LENGTH: 16 times the entry count (R188). -/
def Management.mapLength (m : Management) : Nat := 16 * m.mapCount

/-- The read-only items of management, scene memory, the compositor and supervision (R148, R164, R194,
R195). -/
def State.plainItem (s : State) : Nat → Option (List Int)
  | 20 => some [(s.mgmt.mapLength : Int)]
  | 21 => some [(cursorCode s.mgmt.cursor0 : Int)]
  | 22 => some [(cursorCode s.mgmt.cursor1 : Int)]
  | 23 => some [(s.mgmt.denied : Int)]
  | 28 => some [(s.scene.op.code : Int)]
  | 29 => some [(s.scene.validBits : Int)]
  | 200 => some [(flagCode s.vf.editChanged : Int)]
  | 201 => some [(flagCode (!s.vf.warnGroups.isEmpty) : Int)]
  | 202 => some [(s.vf.repeated : Int)]
  | 203 => some [(s.vf.dropped : Int)]
  | 228 => some [(s.sup.summaryBits : Int)]
  | 229 => some [(s.sup.detailBits : Int)]
  | 230 => some [(flagCode s.sup.attention : Int)]
  | 231 => some [(s.sup.cycle : Int)]
  | 232 => some [(s.sup.risings : Int)]
  | _ => none

/-- The values of a read-only item as they stand: one, or four (R183). -/
def State.readOnlyItem (s : State) (n : Nat) : Option (List Int) :=
  if n < 18 then some [(((if n % 2 = 0 then s.head else s.body).item (n / 2) : Nat) : Int)]
  else if 164 ≤ n ∧ n ≤ 183 then s.slotItem (if n % 2 = 0 then .a else .b) ((n - 164) / 2)
  else
    (((s.plainItem n).or (s.zoomItem n)).or (s.stabItem n)).or ((s.audioItem n).or (s.recordItem n))

/-- The values of an item as a GET carries them (R183). -/
def State.itemValue (s : State) (n : Nat) : Option (List Int) :=
  match specOf n with
  | some sp => some [(sp.get s.items : Int)]
  | none => s.readOnlyItem n

/-- Item values as a REPLY carries them, 4 bytes each (R202). -/
def itemBytes (vs : List Int) : List Byte := vs.flatMap (intBytes 4)

/-! ### Table entries (R205) -/

/-- `w` bytes at offset `o` of an entry. -/
def fieldAt (bytes : List Byte) (o w : Nat) : Nat := leNat ((bytes.drop o).take w)

/-- A numeric field taken saturated to its range, and whether that changed it. -/
def takeField (lo hi v : Nat) : Nat × Bool := (clampNat lo hi v, decide (clampNat lo hi v ≠ v))

def takeLens (b : List Byte) : LensEntry × Bool :=
  let f := takeField 1 65535 (fieldAt b 2 2)
  let t := takeField 0 4095 (fieldAt b 6 2)
  (⟨fieldAt b 0 2, f.1, fieldAt b 4 2, t.1⟩, f.2 || t.2)

def LensEntry.bytes (e : LensEntry) : List Byte :=
  leBytes 2 e.z ++ leBytes 2 e.focal ++ leBytes 2 e.gain ++ leBytes 2 e.travel

/-- An entry written becomes set (R8). -/
def takeSpeed (b : List Byte) : Option Nat × Bool :=
  let v := takeField 0 1023 (fieldAt b 0 2)
  (some v.1, v.2)

def speedBytes (v : Option Nat) : List Byte := leBytes 2 (v.getD 0)

def takePreset (b : List Byte) : Preset × Bool :=
  let v := takeField 16 1023 (fieldAt b 2 2)
  (⟨fieldAt b 0 2, v.1⟩, v.2)

def Preset.bytes (p : Preset) : List Byte := leBytes 2 p.target ++ leBytes 2 p.speed

def takeGain (b : List Byte) : Nat × Bool := takeField 0 67108863 (fieldAt b 0 4)

def takePalette (b : List Byte) : PaletteEntry × Bool :=
  let y := takeField 0 1023 (fieldAt b 0 2)
  let cb := takeField 0 1023 (fieldAt b 2 2)
  let cr := takeField 0 1023 (fieldAt b 4 2)
  let a := takeField 0 16 (fieldAt b 6 1)
  (⟨y.1, cb.1, cr.1, a.1⟩, y.2 || cb.2 || cr.2 || a.2)

def PaletteEntry.bytes (e : PaletteEntry) : List Byte :=
  leBytes 2 e.y ++ leBytes 2 e.cb ++ leBytes 2 e.cr ++ leBytes 1 e.opacity

/-- Bits 12 to 15 of a row are unused and ignored (R202, R205). -/
def takeGlyph (b : List Byte) : Glyph × Bool :=
  (⟨(List.range 16).map (fun r => BitVec.ofNat 12 (fieldAt b (2 * r) 2))⟩, false)

def Glyph.bytes (g : Glyph) : List Byte :=
  (List.range 16).flatMap (fun r => leBytes 2 (g.rows.getD r 0#12).toNat)

def Notify.ofCode : Nat → Notify
  | 1 => .line
  | 2 => .notice
  | 3 => .both
  | _ => .none

def Actions.ofByte (b : Nat) : Actions :=
  ⟨b.testBit 0, b.testBit 1, b.testBit 2, b.testBit 3, b.testBit 4⟩

/-- An entry of table 8 with the corrections of R153 and R205. -/
def takeFault (b : List Byte) : FaultEntry × Bool :=
  let nr := takeField 0 7 (fieldAt b 0 1)
  let bypass := fieldAt b 1 1
  let div := takeField 0 7 (fieldAt b 2 1)
  let notify := fieldAt b 3 1
  let acts := fieldAt b 4 1
  (⟨nr.1, bypass != 0, div.1, Notify.ofCode notify, Actions.ofByte acts⟩,
    nr.2 || decide (1 < bypass) || div.2 || decide (3 < notify) || decide (31 < acts))

def FaultEntry.bytes (e : FaultEntry) : List Byte :=
  leBytes 1 e.nr ++ leBytes 1 (onCode e.countBypass) ++ leBytes 1 e.checkDiv ++ leBytes 1 e.notify.code
    ++ leBytes 1 e.actions.code

def takeMapEntry (b : List Byte) : BitVec 16 × Bool := (field 16 b, false)

/-! ### Display entries (R137) -/

def Condition.ofCode : Nat → Condition
  | 1 => .onRec
  | 2 => .notRec
  | 3 => .warning
  | 4 => .pan
  | 5 => .limit
  | _ => .always

def ValueSource.ofCode : Nat → ValueSource
  | 1 => .remainA
  | 2 => .remainB
  | 3 => .focal
  | 4 => .zoomPct
  | 5 => .clip
  | _ => .timecode

/-- The position of a display field in the 40 bytes of an entry. -/
structure DisplayFields where
  kind : Nat
  x : Nat
  y : Nat
  w : Nat
  h : Nat
  colour : Nat
  alternate : Nat
  condition : Nat
  blink : Nat
  selector : Nat
  lineWidth : Nat
  textLength : Nat
  text : List Nat
  deriving DecidableEq, Repr

def DisplayFields.ofBytes (b : List Byte) : DisplayFields where
  kind := fieldAt b 0 1
  x := fieldAt b 1 2
  y := fieldAt b 3 2
  w := fieldAt b 5 2
  h := fieldAt b 7 2
  colour := fieldAt b 9 1
  alternate := fieldAt b 10 1
  condition := fieldAt b 11 1
  blink := fieldAt b 12 1
  selector := fieldAt b 13 1
  lineWidth := fieldAt b 14 1
  textLength := fieldAt b 15 1
  text := (b.drop 16).map BitVec.toNat

def DisplayFields.bytes (f : DisplayFields) : List Byte :=
  leBytes 1 f.kind ++ leBytes 2 f.x ++ leBytes 2 f.y ++ leBytes 2 f.w ++ leBytes 2 f.h
    ++ leBytes 1 f.colour ++ leBytes 1 f.alternate ++ leBytes 1 f.condition ++ leBytes 1 f.blink
    ++ leBytes 1 f.selector ++ leBytes 1 f.lineWidth ++ leBytes 1 f.textLength
    ++ f.text.flatMap (leBytes 1)

/-- The fields every kind but NONE uses, corrected. Blink: set is 0 and clear is 1 (log entry 7). -/
def DisplayFields.base (f : DisplayFields) : DisplayBase × Bool :=
  let x := takeField 0 959 f.x
  let y := takeField 0 539 f.y
  let w := takeField 0 960 f.w
  let h := takeField 0 540 f.h
  let c := takeField 0 15 f.colour
  (⟨x.1, y.1, w.1, h.1, c.1, Condition.ofCode f.condition, f.blink != 1⟩,
    x.2 || y.2 || w.2 || h.2 || c.2 || decide (5 < f.condition) || decide (1 < f.blink))

/-- A text cut to 24 codes, each saturated to 32..127. -/
def takeText (length : Nat) (text : List Nat) : List Nat × Bool :=
  let used := text.take (min length 24)
  (used.map (clampNat 32 127), decide (24 < length) || used.any (fun c => decide (clampNat 32 127 c ≠ c)))

/-- A display entry as a WRITE takes it, field by field, and whether a field was corrected (R137). -/
def DisplayFields.take (f : DisplayFields) : DisplayEntry × Bool :=
  let b := f.base
  let alt := takeField 0 15 f.alternate
  match f.kind with
  | 0 => (.none, false)
  | 1 => (.item b.1 .box, b.2)
  | 2 =>
    let lw := takeField 1 8 f.lineWidth
    (.item b.1 (.frame lw.1), b.2 || lw.2)
  | 3 =>
    let t := takeText f.textLength f.text
    (.item b.1 (.text alt.1 t.1), b.2 || alt.2 || t.2)
  | 4 =>
    (.item b.1 (.meter alt.1 (if 3 < f.selector then .i1 else Four.ofIdx f.selector)),
      b.2 || alt.2 || decide (3 < f.selector))
  | 5 => (.item b.1 (.zoomBar alt.1), b.2 || alt.2)
  | 6 => (.item b.1 .tallyBorder, b.2)
  | 7 =>
    (.item b.1 (.value alt.1 (ValueSource.ofCode f.selector)), b.2 || alt.2 || decide (5 < f.selector))
  | _ => (.none, true)

/-- The fields as a READ returns them: a field the kind does not use has every bit set, and text codes
beyond the length are 32 (R202, R205). -/
def DisplayEntry.fields (e : DisplayEntry) : DisplayFields :=
  let blank : DisplayFields :=
    ⟨e.kindCode, 65535, 65535, 65535, 65535, 255, 255, 255, 255, 255, 255, 255, List.replicate 24 255⟩
  match e with
  | .none => blank
  | .item b k =>
    let f : DisplayFields :=
      { blank with
        x := b.x, y := b.y, w := b.w, h := b.h, colour := b.colour, condition := b.condition.code
        blink := flagCode b.blink }
    match k with
    | .box => f
    | .frame lw => { f with lineWidth := lw }
    | .text alt codes =>
      { f with
        alternate := alt, textLength := codes.length
        text := codes ++ List.replicate (24 - codes.length) 32 }
    | .meter alt t => { f with alternate := alt, selector := t.idx }
    | .zoomBar alt => { f with alternate := alt }
    | .tallyBorder => f
    | .value alt src => { f with alternate := alt, selector := src.code }

/-- A loaded entry taken as a WRITE would take it (R136). -/
def DisplayEntry.taken (e : DisplayEntry) : DisplayEntry := e.fields.take.1

def takeDisplay (b : List Byte) : DisplayEntry × Bool := (DisplayFields.ofBytes b).take

/-! ### Tables (9.4, R205) -/

namespace TableId

def ofNumber : Nat → Option TableId
  | 1 => some .lens
  | 2 => some .speedCurve
  | 3 => some .presets
  | 4 => some .gain
  | 5 => some .display
  | 6 => some .palette
  | 7 => some .glyph
  | 8 => some .fault
  | 9 => some .map
  | _ => none

/-- The table's capacity (9.4). -/
def capacity : TableId → Nat
  | .lens => 32
  | .speedCurve => 9
  | .presets => 4
  | .gain => 161
  | .display => 48
  | .palette => 16
  | .glyph => 96
  | .fault => 12
  | .map => 17

/-- The bytes of an entry (R205). -/
def entryBytes : TableId → Nat
  | .lens => 8
  | .speedCurve => 2
  | .presets => 4
  | .gain => 4
  | .display => 40
  | .palette => 7
  | .glyph => 32
  | .fault => 5
  | .map => 2

end TableId

/-- `n` pieces of `size` bytes. -/
def pieces (size : Nat) : Nat → List Byte → List (List Byte)
  | 0, _ => []
  | n + 1, b => b.take size :: pieces size n (b.drop size)

/-- Entries taken one by one, and whether any field of any was corrected (R186). -/
def takeAll {α : Type} (f : List Byte → α × Bool) (bs : List (List Byte)) : List α × Bool :=
  (bs.map (fun b => (f b).1), bs.any (fun b => (f b).2))

end Sys2Proof.Machine
end

