-- ==== Sys2Proof/Machine/Scene.lean ====
section
/-! DEFINITION. Scene memory (chapter 10): stores, recalls, the clip counter cell, the loading of items,
presets and the display list, and the power-on sequence (R199). -/

namespace Sys2Proof.Machine

/-! ### Stores (R195, R196) -/

/-- What STORE_SCENE n copies. -/
def State.sceneCopy (s : State) : SceneArea := ⟨s.items, s.zoom.presets, s.vf.editList⟩

/-- What STORE_FIXED copies. -/
def State.fixedCopy (s : State) : FixedArea :=
  ⟨s.zoom.lens, s.zoom.curve, s.audio.gainTable, s.vf.glyphs, s.sup.table, s.vf.palette⟩

def SceneOp.busy : SceneOp → Bool
  | .idle => false
  | .storeScene _ _ | .storeFixed _ | .recallScene _ _ _ => true

/-- The scene area of an argument 0..3. -/
def sceneOf (n : Nat) : Option Four := if n < 4 then some (Four.ofIdx n) else none

/-- ACTION STORE_SCENE (R196). -/
def State.storeScene (s : State) (area : Nat) : State × Status :=
  match sceneOf area with
  | none => (s, .badCommand)
  | some n =>
    if s.scene.op.busy then (s, .busy)
    else
      ({ s with
        scene := { s.scene with scenes := s.scene.scenes.set n none, op := .storeScene n s.sceneCopy } }, .ok)

/-- ACTION STORE_FIXED (R196). -/
def State.storeFixed (s : State) : State × Status :=
  if s.scene.op.busy then (s, .busy)
  else ({ s with scene := { s.scene with fixed := none, op := .storeFixed s.fixedCopy } }, .ok)

/-- The store in flight ends, OK or FAILED (R195, R196). With no store in flight nothing happens. -/
def State.endStore (s : State) (ok : Bool) : State :=
  match s.scene.op with
  | .storeScene n copy =>
    { s with
      scene :=
        { s.scene with
          op := .idle, scenes := s.scene.scenes.set n (if ok then some copy else none) } }.notify
      (.store (.scene n) ok)
  | .storeFixed copy =>
    { s with
      scene := { s.scene with op := .idle, fixed := if ok then some copy else none } }.notify
      (.store .fixed ok)
  | .idle | .recallScene _ _ _ => s

/-! ### Loading (R197) -/

/-- The record items that a start taken in the meantime keeps (R197). -/
def keepRecord (kept it : RecItems) : RecItems :=
  { it with mode := kept.mode, activeSlot := kept.activeSlot, preRecSeconds := kept.preRecSeconds }

/-- Contents loaded together, at one moment, each owner then acting on its new values (R197). -/
def State.loadContents (s : State) (c : SceneArea) (startTaken : Bool) : State :=
  let it := loadItems c.items s.items
  let it := if startTaken then { it with record := keepRecord s.items.record it.record } else it
  { s with
    items := it
    zoom := { s.zoom with presets := c.presets }
    vf := { s.vf with editList := c.display.map DisplayEntry.taken, editChanged := true }
    stab := s.stab.clearBuckets it.stab.bucketTh
    audio := s.audio.limitersOff it.audio.limitOn }.applyPreRec

/-- The built-in contents that RECALL_FACTORY loads. -/
def factoryScene : SceneArea := ⟨defaultItems, factoryPresets, List.replicate 48 .none⟩

/-! ### Recalls (R197) -/

def RecState.atRest : RecState → Bool
  | .idle | .standby => true
  | .starting | .recording | .stopping => false

/-- ACTION RECALL_SCENE (R197). -/
def State.recallScene (s : State) (area : Nat) : State × Status :=
  match sceneOf area with
  | none => (s, .badCommand)
  | some n =>
    if s.scene.op.busy then (s, .busy)
    else if !s.recorder.state.atRest then (s, .refusedState)
    else
      match s.scene.scenes.get n with
      | none => (s, .tableInvalid)
      | some contents => ({ s with scene := { s.scene with op := .recallScene n contents false } }, .ok)

/-- ACTION RECALL_FACTORY (R197). -/
def State.recallFactory (s : State) : State × Status :=
  if s.scene.op.busy then (s, .busy)
  else if !s.recorder.state.atRest then (s, .refusedState)
  else (s.loadContents factoryScene false, .ok)

/-- The recall's read completes (R197). With no recall in flight nothing happens. -/
def State.endRecall (s : State) : State :=
  match s.scene.op with
  | .recallScene n contents startTaken =>
    { s with scene := { s.scene with op := .idle } }.loadContents contents startTaken |>.notify
      (.store (.scene n) true)
  | .idle | .storeScene _ _ | .storeFixed _ => s

/-! ### The clip counter cell (R198) -/

/-- A cell write ends, and a pending number starts the next. With none in progress nothing happens. -/
def SceneMemory.endCellWrite (m : SceneMemory) (ok : Bool) : SceneMemory :=
  match m.cellWrite with
  | none => m
  | some n =>
    match m.cellPending with
    | some p => { m with cell := none, cellWrite := some p, cellPending := none }
    | none => { m with cell := if ok then some n else none, cellWrite := none }

/-! ### Power-on (R199) -/

/-- What the nonvolatile store holds across power-on: the areas, with nothing in flight (R195). -/
def SceneMemory.powerOn (m : SceneMemory) : SceneMemory :=
  { m with op := .idle, cellWrite := none, cellPending := none }

/-- Step 1 of R199: every block at its power-on values. The presence lines are inputs and stand as they
are (the queue too: DEDUCED, log entry 32). -/
def State.blocksPowerOn (s : State) : State :=
  { State.reset with
    slotA := .powerOn s.slotA.line, slotB := .powerOn s.slotB.line
    scene := s.scene.powerOn, pending := s.pending }

/-- Step 2 of R199: the fixed area's six tables where it is valid. -/
def State.loadFixed (s : State) : State :=
  match s.scene.fixed with
  | none => s
  | some f =>
    { s with
      zoom := { s.zoom with lens := f.lens, curve := f.curve }
      audio := { s.audio with gainTable := f.gainTable }
      vf := { s.vf with glyphs := f.glyphs, palette := f.palette }
      sup := { s.sup with table := f.fault } }

/-- Step 3 of R199: scene 0, where it is valid, loaded with no notice and no ramp (R74). -/
def State.loadScene0 (s : State) : State :=
  match s.scene.scenes.q1 with
  | none => s
  | some c =>
    let it := loadItems c.items s.items
    { s with
      items := it
      zoom := { s.zoom with presets := c.presets }
      vf := { s.vf with editList := c.display.map DisplayEntry.taken, editChanged := true }
      audio := { s.audio with gainNow := it.audio.inGain }
      recorder := { s.recorder with state := it.record.restState } }

/-- Step 4 of R199. -/
def State.loadClip (s : State) : State :=
  { s with recorder := { s.recorder with clipCounter := s.scene.cell.getD 0 } }

/-- Step 5 of R199. -/
def State.loadOptics (s : State) : State :=
  { s with zoom := { s.zoom with mode := if s.zoom.tablesValid then .run else .setup } }

/-- Step 6 of R199: with STAB_ENABLE on and the mode RUN, entry to SETTLING, its zero command discarded
by a link in RESYNC (R51, R180). -/
def State.startStabiliser (s : State) : State :=
  match s.zoom.mode with
  | .run => if s.items.stab.enable then s.enterSettling else s
  | .setup => s

/-- Power-on reset, steps 1 to 6 of R199. -/
def State.powerOn (s : State) : State :=
  s.blocksPowerOn.loadFixed.loadScene0.loadClip.loadOptics.startStabiliser

/-- The blocks' timers start as power-on reset ends (R27, R51, R74, R149, R165). -/
def State.startTimers (s : State) : State :=
  { s with
    zoom := { s.zoom with lensSilence := .running 20, refresh := .running 20 }
    stab := s.stab.restartTimers
    audio := { s.audio with silence := .running 5, meterLapse := .running 100 }
    vf := { s.vf with lineSilence := .running 40 }
    sup := { s.sup with timer := .running s.items.supPeriod } }

/-- A slot whose presence line shows a card takes an insertion (R199 step 7). -/
def State.insertPresent (s : State) (x : SlotId) : State :=
  if (s.slot x).line then s.takeInsertion x else s

/-- A controller sends its first LINK_RESET and starts its resend timer (R180). -/
def State.firstReset (s : State) (l : LinkId) : State :=
  let s := s.sendLinkReset l
  s.setLink l (s.link l).startResend

/-- Power-on reset ends, step 7 of R199. With no power-on reset in progress nothing happens. -/
def State.powerOnEnd (s : State) : State :=
  if s.inReset then
    (((({ s with inReset := false }.startTimers).firstReset .head).firstReset .body).insertPresent
      .a).insertPresent .b
  else s

end Sys2Proof.Machine
end

