-- ==== Sys2Proof/Machine/Management.lean ====
section
/-! DEFINITION. The management unit (chapter 9): permission, replies, GET, SET, SELECT, WRITE, READ, and
what each ACTION touches. -/

namespace Sys2Proof.Machine

/-! ### Permission (R188 to R190) -/

/-- The map bit that guards a table: 255 + id (R188). -/
def TableId.guard (t : TableId) : Nat := 255 + t.code

/-- Map bit 16e + j is bit j of entry e (R188). -/
def Management.mapBit (m : Management) (bit : Nat) : Bool := (m.map.getD (bit / 16) 0#16).getLsbD (bit % 16)

/-- A map bit lies below the map length and is clear (R189). -/
def Management.allows (m : Management) (bit : Nat) : Bool :=
  decide (bit < m.mapLength) && !m.mapBit bit

/-- Map entries replaced from index `c`; the entry count becomes the larger of its old value and the
index after the last one (R188). -/
def Management.putMap (m : Management) (c : Nat) (es : List (BitVec 16)) : Management :=
  { m with map := replaceAt m.map c es, mapCount := max m.mapCount (c + es.length) }

/-- A command of this source that touches these items and tables is allowed (R189). -/
def State.permits (s : State) (src : Source) (touched : List Nat) : Bool :=
  match src with
  | .system => true
  | .panel => touched.all s.mgmt.allows

/-- DENIED_COUNT increases (R189). -/
def State.countDenied (s : State) : State :=
  { s with mgmt := { s.mgmt with denied := sat16 (s.mgmt.denied + 1) } }

/-- What ENTER_SETUP and ENTER_RUN touch (R190). -/
def touchesOptics : List Nat := [40, TableId.guard .lens, TableId.guard .speedCurve]

/-- What STAB_ON, STAB_OFF and BASELINE_RESET touch. -/
def touchesStab : List Nat := [80, 81]

/-- What CLEAR_HOLD touches, by its slot argument. -/
def touchesHold (slot : Nat) : List Nat :=
  match slot with
  | 0 => [166]
  | 1 => [167]
  | _ => []

/-- What RECALL_SCENE and RECALL_FACTORY touch. -/
def touchesRecall : List Nat :=
  28 :: itemSpecs.map ItemSpec.number ++ [TableId.guard .presets, TableId.guard .display]

/-- What STORE_FIXED touches. -/
def touchesFixed : List Nat :=
  28 :: [TableId.lens, .speedCurve, .gain, .palette, .glyph, .fault].map TableId.guard

/-! ### Replies (R181, R182, R203) -/

/-- A command with this status was taken. -/
def Status.taken : Status → Bool
  | .ok | .clamped => true
  | .denied | .readOnly | .badItem | .badTable | .noCursor | .badLength | .wrongMode | .tableInvalid
  | .refusedState | .busy | .badCommand => false

/-- A REPLY handed; a refused command carries no data (R203). -/
def State.reply (s : State) (tag : Byte) (status : Status) (data : List Byte) : State :=
  s.hand (.reply tag status (if status.taken then data else []))

/-- OK, or CLAMPED where something was corrected. -/
def takenStatus (corrected : Bool) : Status := if corrected then .clamped else .ok

/-- A command judged for permission, carried out where it is allowed, and replied (R182 checks 3 and 4).
The REPLY follows the command's own notices (R181). -/
def State.judge (s : State) (src : Source) (tag : Byte) (touched : List Nat)
    (run : State → State × Status × List Byte) : State :=
  if s.permits src touched then
    let r := run s
    r.1.reply tag r.2.1 r.2.2
  else s.countDenied.reply tag .denied []

/-- An action that its owner carries out; its REPLY carries no data (R203). -/
def State.judgeAction (s : State) (src : Source) (tag : Byte) (touched : List Nat)
    (run : State → State × Status) : State :=
  s.judge src tag touched (fun s => ((run s).1, (run s).2, []))

/-! ### GET (R183) -/

def State.doGet (s : State) (src : Source) (tag : Byte) (item : Nat) : State :=
  match s.itemValue item with
  | none => s.reply tag .badItem []
  | some vs => s.judge src tag [item] (fun s => (s, .ok, itemBytes vs))

/-! ### SET (R184) -/

/-- An item its owner makes settable in IDLE and STANDBY only (R101). -/
def restOnly (n : Nat) : Bool := n == 128 || n == 129 || n == 130

/-- The owner's act at a SET (R38, R62, R89, R184 step 5). -/
def State.ownerActs (s : State) (n : Nat) : State :=
  if n = 67 then { s with stab := s.stab.clearBuckets s.items.stab.bucketTh }
  else if n = 130 then s.applyPreRec
  else if 104 ≤ n ∧ n ≤ 107 then { s with audio := s.audio.limitersOff s.items.audio.limitOn }
  else s

/-- A SET of a settable item (R184 steps 2 to 5). -/
def State.setItem (s : State) (sp : ItemSpec) (v : Nat) : State × Status × List Byte :=
  if restOnly sp.number && !s.recorder.state.atRest then (s, .refusedState, [])
  else
    let w := takenValue s.items sp v
    ({ s with items := sp.put w s.items }.ownerActs sp.number, takenStatus (decide (w ≠ v)), leBytes 4 w)

def State.doSet (s : State) (src : Source) (tag : Byte) (item v : Nat) : State :=
  match specOf item with
  | some sp => s.judge src tag [item] (fun s => s.setItem sp v)
  | none =>
    match s.itemValue item with
    | some _ => s.judge src tag [item] (fun s => (s, .readOnly, []))
    | none => s.reply tag .badItem []

/-! ### Cursors and tables (R185 to R188) -/

def Management.cursor (m : Management) : Source → Option Cursor
  | .system => m.cursor0
  | .panel => m.cursor1

def Management.setCursor (m : Management) (src : Source) (c : Cursor) : Management :=
  match src with
  | .system => { m with cursor0 := some c }
  | .panel => { m with cursor1 := some c }

def State.setCursor (s : State) (src : Source) (c : Cursor) : State :=
  { s with mgmt := s.mgmt.setCursor src c }

/-- SELECT (R185). -/
def State.doSelect (s : State) (src : Source) (tag : Byte) (table index : Nat) : State :=
  match TableId.ofNumber table with
  | none => s.reply tag .badTable []
  | some t =>
    s.judge src tag [t.guard] (fun s =>
      if index < t.capacity then (s.setCursor src ⟨t, index⟩, .ok, []) else (s, .badLength, []))

/-- Whether the optics mode refuses a WRITE of the table (R4, R8). -/
def State.modeRefuses (s : State) (t : TableId) : Bool :=
  match t, s.zoom.mode with
  | .lens, .run | .speedCurve, .run => true
  | _, _ => false

/-- A WRITE of `n` entries at index `c` stays within the table: the capacity, and for tables 1 and 9 no
gap after the entries held (R4, R186, R188). -/
def State.writeFits (s : State) (t : TableId) (c n : Nat) : Bool :=
  decide (c + n ≤ t.capacity)
    && match t with
      | .lens => decide (c ≤ s.zoom.lens.length)
      | .map => decide (c ≤ s.mgmt.mapCount)
      | _ => true

/-- Entries `c..` of a table replaced by those taken from a WRITE's data, with what the owner does at
once; the second answer says whether a field was corrected (R186). -/
def State.writeTable (s : State) (t : TableId) (c : Nat) (bs : List (List Byte)) : State × Bool :=
  match t with
  | .lens =>
    let r := takeAll takeLens bs
    ({ s with zoom := { s.zoom with lens := replaceAt s.zoom.lens c r.1 } }, r.2)
  | .speedCurve =>
    let r := takeAll takeSpeed bs
    ({ s with zoom := { s.zoom with curve := replaceAt s.zoom.curve c r.1 } }, r.2)
  | .presets =>
    let r := takeAll takePreset bs
    ({ s with zoom := { s.zoom with presets := replaceAt s.zoom.presets c r.1 } }, r.2)
  | .gain =>
    let r := takeAll takeGain bs
    ({ s with audio := { s.audio with gainTable := replaceAt s.audio.gainTable c r.1 } }, r.2)
  | .display =>
    let r := takeAll takeDisplay bs
    ({ s with vf := { s.vf with editList := replaceAt s.vf.editList c r.1, editChanged := true } }, r.2)
  | .palette =>
    let r := takeAll takePalette bs
    ({ s with vf := { s.vf with palette := replaceAt s.vf.palette c r.1 } }, r.2)
  | .glyph =>
    let r := takeAll takeGlyph bs
    ({ s with vf := { s.vf with glyphs := replaceAt s.vf.glyphs c r.1 } }, r.2)
  | .fault =>
    let r := takeAll takeFault bs
    ({ s with sup := { s.sup with table := replaceAt s.sup.table c r.1 }.judgeAttention }, r.2)
  | .map =>
    let r := takeAll takeMapEntry bs
    ({ s with mgmt := s.mgmt.putMap c r.1 }, r.2)

/-- A WRITE taken or refused by its owner's rules (R186). -/
def State.writeEntries (s : State) (src : Source) (cur : Cursor) (n : Nat) (data : List Byte) :
    State × Status × List Byte :=
  if s.modeRefuses cur.table then (s, .wrongMode, [])
  else if !s.writeFits cur.table cur.index n then (s, .badLength, [])
  else
    let r := s.writeTable cur.table cur.index (pieces cur.table.entryBytes n data)
    (r.1.setCursor src ⟨cur.table, cur.index + n⟩, takenStatus r.2, leBytes 2 (cur.index + n))

/-- WRITE. Form comes first: n of 0, or data that does not hold n entries of the cursor's table; then an
absent cursor; then permission, where a WRITE of table 9 by source 1 is refused whatever the map
(R182, R188; DEDUCED, log entries 17 and 18). -/
def State.doWrite (s : State) (src : Source) (tag : Byte) (n : Nat) (data : List Byte) : State :=
  if n = 0 then s.reply tag .badCommand []
  else
    match s.mgmt.cursor src with
    | none => s.reply tag .noCursor []
    | some cur =>
      if data.length ≠ n * cur.table.entryBytes then s.reply tag .badCommand []
      else if src = .panel ∧ cur.table = .map then s.countDenied.reply tag .denied []
      else s.judge src tag [cur.table.guard] (fun s => s.writeEntries src cur n data)

/-- The end of a table for a READ: tables 1 and 9 end at their entry count (R187). -/
def State.tableEnd (s : State) (t : TableId) : Nat :=
  match t with
  | .lens => s.zoom.lens.length
  | .map => s.mgmt.mapCount
  | _ => t.capacity

/-- `n` entries from index `c`, as they are held, in their layout (R187, R205). -/
def State.readTable (s : State) (t : TableId) (c n : Nat) : List Byte :=
  match t with
  | .lens => ((s.zoom.lens.drop c).take n).flatMap LensEntry.bytes
  | .speedCurve => ((s.zoom.curve.drop c).take n).flatMap speedBytes
  | .presets => ((s.zoom.presets.drop c).take n).flatMap Preset.bytes
  | .gain => ((s.audio.gainTable.drop c).take n).flatMap (leBytes 4)
  | .display => ((s.vf.editList.drop c).take n).flatMap (fun e => e.fields.bytes)
  | .palette => ((s.vf.palette.drop c).take n).flatMap PaletteEntry.bytes
  | .glyph => ((s.vf.glyphs.drop c).take n).flatMap Glyph.bytes
  | .fault => ((s.sup.table.drop c).take n).flatMap FaultEntry.bytes
  | .map => ((s.mgmt.map.drop c).take n).flatMap (fun e => leBytes 2 e.toNat)

/-- The most entry bytes a REPLY holds: a payload of 4096, two of them tag and status (R187, R203;
DEDUCED, log entry 34). -/
def replyRoom : Nat := 4094

/-- A READ taken or refused (R187). -/
def State.readEntries (s : State) (src : Source) (cur : Cursor) (n : Nat) : State × Status × List Byte :=
  if s.tableEnd cur.table < cur.index + n ∨ replyRoom < n * cur.table.entryBytes then (s, .badLength, [])
  else (s.setCursor src ⟨cur.table, cur.index + n⟩, .ok, s.readTable cur.table cur.index n)

/-- READ (R182, R187). -/
def State.doRead (s : State) (src : Source) (tag : Byte) (n : Nat) : State :=
  if n = 0 then s.reply tag .badCommand []
  else
    match s.mgmt.cursor src with
    | none => s.reply tag .noCursor []
    | some cur => s.judge src tag [cur.table.guard] (fun s => s.readEntries src cur n)

end Sys2Proof.Machine
end

