-- ==== Sys2Proof/Machine/Links.lean ====
section
/-! DEFINITION. The link controllers at work (chapter 8): loss of alignment and realignment, their reports
to the blocks, the intake of a packet, the transmit line. -/

namespace Sys2Proof.Machine

def State.modifyLink (s : State) (l : LinkId) (f : LinkCtl → LinkCtl) : State := s.setLink l (f (s.link l))

/-! ### The two reports (R175) -/

/-- The link-down report: at the head link the button levels become unknown (R28, R52, R104), at the body
link both cursors are cleared (R193). -/
def State.linkDown (s : State) : LinkId → State
  | .head =>
    { s with
      zoom := { s.zoom with p1 := .unknown, p2 := .unknown }
      stab := { s.stab with button := .unknown }
      recorder := { s.recorder with recButton := .unknown, markButton := .unknown } }
  | .body => { s with mgmt := { s.mgmt with cursor0 := none, cursor1 := none } }

/-- The zero SHIFT_CMD of a stabiliser in OFF or SETTLING at the link-aligned report (R52). -/
def State.alignShift (s : State) : State :=
  match s.stab.state with
  | .off | .settling => s.hand (.shiftCmd (.both 0))
  | .running => s

/-- The link-aligned report: at the head link ZOOM_CMD with the refresh timer restarted, the zero
SHIFT_CMD, TALLY, in the order R175 names them (R28, R52, R103; DEDUCED, log entry 10); at the body link
nothing is sent. -/
def State.linkAligned (s : State) : LinkId → State
  | .head => (s.sendZoom.alignShift).hand (.tally s.recorder.lamp)
  | .body => s

/-! ### Alignment (R169 to R171) -/

/-- Loss of alignment taken in ALIGNED (R169); taken in RESYNC it restarts nothing. -/
def State.loseAlignment (s : State) (l : LinkId) : State :=
  match (s.link l).state with
  | .resync => s
  | .aligned =>
    let s := s.modifyLink l (fun c => { c.resetChanges with state := .resync })
    let s := (s.linkDown l).sendLinkReset l
    s.modifyLink l LinkCtl.startResend

/-- The return to ALIGNED, with its report (R170). -/
def State.align (s : State) (l : LinkId) : State :=
  (s.modifyLink l (fun c => { c with state := .aligned, resend := .stopped, goodRun := 0 })).linkAligned l

/-- A good packet in RESYNC that is not the partner's answer: the second one aligns the link (R170). -/
def State.goodInResync (s : State) (l : LinkId) : State :=
  if 2 ≤ (s.link l).goodRun + 1 then s.align l
  else s.modifyLink l (fun c => { c with goodRun := c.goodRun + 1 })

/-- A LINK_RESET that passed its CRC (R170, R171). -/
def State.takeLinkReset (s : State) (l : LinkId) (epoch : Byte) : State :=
  let s := s.modifyLink l LinkCtl.goodCrc
  let known := (s.link l).partnerEpoch == some epoch
  match (s.link l).state with
  | .resync =>
    if known then s.goodInResync l
    else (s.modifyLink l (fun c => { c with partnerEpoch := some epoch })).align l
  | .aligned =>
    if known then s
    else
      let s := s.modifyLink l (fun c => { c with partnerEpoch := some epoch }.resetChanges)
      ((s.linkDown l).sendLinkReset l).linkAligned l

/-- A packet that failed its CRC (R168). -/
def State.failCrc (s : State) (l : LinkId) : State :=
  let s := s.modifyLink l (fun c =>
    { c with crcErrors := sat16 (c.crcErrors + 1), crcPresent := true, crcFails := c.crcFails + 1 })
  match (s.link l).state with
  | .resync =>
    s.modifyLink l (fun c => { c with goodRun := 0, crcFails := if 4 ≤ c.crcFails then 0 else c.crcFails })
  | .aligned => if 4 ≤ (s.link l).crcFails then s.loseAlignment l else s

/-! ### Intake of a good packet (R170, R172 to R174) -/

/-- While power-on reset is in progress the links take nothing (DEDUCED, log entry 12). -/
def State.unlessReset (s : State) (f : State → State) : State := if s.inReset then s else f s

/-- A good packet that is not taken: in RESYNC it counts to the good run, in ALIGNED it changes a
counter of the link (R170, R172). -/
def State.refusePacket (s : State) (l : LinkId) (count : LinkCtl → LinkCtl) : State :=
  let s := s.modifyLink l LinkCtl.goodCrc
  match (s.link l).state with
  | .resync => s.goodInResync l
  | .aligned => s.modifyLink l count

/-- A packet of another station (R172 step 1). -/
def LinkCtl.countForeign (c : LinkCtl) : LinkCtl := { c with foreign := sat16 (c.foreign + 1) }

/-- A packet of a kind or length not taken (R172 steps 2 and 3, R200). -/
def LinkCtl.countRejected (c : LinkCtl) : LinkCtl := { c with rejected := sat16 (c.rejected + 1) }

/-- A good packet of an inbound kind: in RESYNC it counts to the good run and is dispatched to no block;
in ALIGNED its sequence is checked, and unless it is a repeat it is handed to its owners with the
number missed (R170, R173, R174). -/
def State.intake (s : State) (k : InKind) (seq : Byte) (owner : State → Nat → State) : State :=
  s.unlessReset fun s =>
    let s := s.modifyLink k.link LinkCtl.goodCrc
    match (s.link k.link).state with
    | .resync => s.goodInResync k.link
    | .aligned =>
      match (s.link k.link).checkSequence k.place seq with
      | (c, none) => s.setLink k.link c
      | (c, some n) => owner (s.setLink k.link c) n

/-- A COMMAND taken from the body link (R181). -/
def State.command (s : State) (seq : Byte) (run : State → State) : State :=
  s.intake .command seq (fun s _ => run s)

/-- A COMMAND that is an ACTION (R190). -/
def State.action (s : State) (seq : Byte) (src : Source) (tag : Byte) (touched : List Nat)
    (run : State → State × Status) : State :=
  s.command seq (fun s => s.judgeAction src tag touched run)

/-! ### The transmit line and the resend timer (R170, R176) -/

/-- The line takes the oldest packet of the transmit queue; with none it sends nothing (R176; when is an
event, log entry 29). -/
def State.lineReady (s : State) (l : LinkId) : State :=
  match (s.link l).txQueue with
  | [] => s
  | p :: rest => (s.modifyLink l (fun c => { c with txQueue := rest })).emit (.packet l p)

/-- The resend timer expires: one more LINK_RESET, and the timer restarts (R170). -/
def State.resendExpires (s : State) (l : LinkId) : State :=
  if (s.link l).resend.isRunning then
    (s.sendLinkReset l).modifyLink l LinkCtl.startResend
  else s

end Sys2Proof.Machine
end

