-- ==== Sys2Proof/Machine/CardEvents.lean ====
section
/-! DEFINITION. The slot ports and presence lines: insertion, removal, the completions, the timeouts. -/

namespace Sys2Proof.Machine

open Host

/-- The presence line of a slot changes level. -/
def State.setLine (s : State) (x : SlotId) (level : Bool) : State :=
  s.modifySlot x (fun c => { c with line := level })

/-- CARD_INSERTION (R109). A level already held is ignored. During power-on reset the line alone follows
the pin, and the slot step takes the insertion (R127, R199). -/
def execCardInsertion (x : SlotId) (s : State) : Outcome State Fault Refusal :=
  .next (
    if (s.slot x).line then s.begin
    else (s.begin.setLine x true).unlessReset (State.takeInsertion · x))

/-- CARD_REMOVAL (R121). A level already held is ignored. -/
def execCardRemoval (x : SlotId) (s : State) : Outcome State Fault Refusal :=
  .next (
    if (s.slot x).line then (s.begin.setLine x false).unlessReset (State.takeRemoval · x)
    else s.begin)

/-- A completion: taken where it answers the outstanding request, else discarded and counted (R105). -/
def State.complete (s : State) (x : SlotId) (kind : RequestKind) (number : Byte) (act : State → State) :
    State :=
  s.unlessReset fun s => if (s.slot x).matchesRequest kind number then act s else s.staleCompletion x

/-- MOUNT completion (R110). -/
def execMountCompletion (x : SlotId) (number : Byte) (ok : Bool) (free : BitVec 32) (s : State) :
    Outcome State Fault Refusal :=
  .next (s.begin.complete x .mount number fun s =>
    if ok then s.mountOk x free.toNat else s.mountError x)

/-- PART_OPEN completion (R112). -/
def execPartOpenCompletion (x : SlotId) (number : Byte) (ok : Bool) (s : State) :
    Outcome State Fault Refusal :=
  .next (s.begin.complete x .partOpen number fun s => if ok then s.partOpenOk x else s.partOpenError x)

/-- UNIT_WRITE completion (R116 to R118). -/
def execUnitWriteCompletion (x : SlotId) (number : Byte) (ok : Bool) (s : State) :
    Outcome State Fault Refusal :=
  .next (s.begin.complete x .unitWrite number fun s => if ok then s.unitWriteOk x else s.unitWriteError x)

/-- PART_CLOSE completion (R120). -/
def execPartCloseCompletion (x : SlotId) (number : Byte) (ok : Bool) (s : State) :
    Outcome State Fault Refusal :=
  .next (s.begin.complete x .partClose number (State.partCloseEnd · x ok))

/-- MOUNT_TIMEOUT (R106). -/
def execMountTimeout (x : SlotId) (s : State) : Outcome State Fault Refusal :=
  .next (if (s.slot x).mountTimer.isRunning then s.begin.mountError x else s.begin)

/-- SLOW_TIMER_EXPIRY (R106). -/
def execSlowTimerExpiry (x : SlotId) (s : State) : Outcome State Fault Refusal :=
  .next (
    if (s.slot x).slowTimer.isRunning then
      s.begin.modifySlot x (fun c => { c with slowTimer := .expired, slowPresent := true })
    else s.begin)

/-- REQUEST_TIMEOUT (R106). -/
def execRequestTimeout (x : SlotId) (s : State) : Outcome State Fault Refusal :=
  .next (if (s.slot x).requestTimer.isRunning then s.begin.requestError x else s.begin)

end Sys2Proof.Machine
end

