-- ==== Sys2Proof/Machine/Commands.lean ====
section
/-! DEFINITION. The COMMAND packets: GET, SET, SELECT, WRITE, READ, a malformed command, and the
actions. -/

namespace Sys2Proof.Machine

open Host

/-- GET (R183). -/
def execGet (seq : Byte) (src : Source) (tag item : Byte) (s : State) : Outcome State Fault Refusal :=
  .next (s.begin.command seq (State.doGet · src tag item.toNat))

/-- SET (R184). -/
def execSet (seq : Byte) (src : Source) (tag item : Byte) (value : BitVec 32) (s : State) :
    Outcome State Fault Refusal :=
  .next (s.begin.command seq (State.doSet · src tag item.toNat value.toNat))

/-- SELECT (R185). -/
def execSelect (seq : Byte) (src : Source) (tag table : Byte) (index : BitVec 16) (s : State) :
    Outcome State Fault Refusal :=
  .next (s.begin.command seq (State.doSelect · src tag table.toNat index.toNat))

/-- WRITE (R186). A term of more entry bytes than a payload of 4096 holds is no packet: its length makes
it a CRC failure (R168; DEDUCED, log entry 30). -/
def execWrite (seq : Byte) (src : Source) (tag : Byte) (n : BitVec 16) (data : List Byte) (s : State) :
    Outcome State Fault Refusal :=
  .next (
    if data.length ≤ maxWriteBytes then
      s.begin.command seq (State.doWrite · src tag n.toNat data)
    else s.begin.unlessReset (State.failCrc · .body))

/-- READ (R187). -/
def execRead (seq : Byte) (src : Source) (tag : Byte) (n : BitVec 16) (s : State) :
    Outcome State Fault Refusal :=
  .next (s.begin.command seq (State.doRead · src tag n.toNat))

/-- A COMMAND refused by its form (R182 check 1). -/
def execUndefinedCommand (seq tag : Byte) (s : State) : Outcome State Fault Refusal :=
  .next (s.begin.command seq (State.reply · tag .badCommand []))

/-- ACTION REC_START (R90, R91, R95). -/
def execRecStart (seq : Byte) (src : Source) (tag : Byte) (s : State) : Outcome State Fault Refusal :=
  .next (s.begin.action seq src tag [128, 129] State.recStart)

/-- ACTION REC_STOP (R93, R95). -/
def execRecStop (seq : Byte) (src : Source) (tag : Byte) (s : State) : Outcome State Fault Refusal :=
  .next (s.begin.action seq src tag [136] State.recStop)

/-- ACTION MARK (R100). -/
def execMark (seq : Byte) (src : Source) (tag : Byte) (s : State) : Outcome State Fault Refusal :=
  .next (s.begin.action seq src tag [139] State.actionMark)

/-- ACTION ZOOM_PRESET (R12 to R16). -/
def execZoomPreset (seq : Byte) (src : Source) (tag n : Byte) (s : State) : Outcome State Fault Refusal :=
  .next (s.begin.action seq src tag [TableId.guard .presets] (State.zoomPreset · n.toNat))

/-- ACTION ZOOM_STOP (R17). -/
def execZoomStop (seq : Byte) (src : Source) (tag : Byte) (s : State) : Outcome State Fault Refusal :=
  .next (s.begin.action seq src tag [42] State.zoomStop)

/-- ACTION STAB_ON (R32). -/
def execStabOn (seq : Byte) (src : Source) (tag : Byte) (s : State) : Outcome State Fault Refusal :=
  .next (s.begin.action seq src tag touchesStab State.stabOn)

/-- ACTION STAB_OFF (R32). -/
def execStabOff (seq : Byte) (src : Source) (tag : Byte) (s : State) : Outcome State Fault Refusal :=
  .next (s.begin.action seq src tag touchesStab State.stabOff)

/-- ACTION BASELINE_RESET (R32). -/
def execBaselineReset (seq : Byte) (src : Source) (tag : Byte) (s : State) :
    Outcome State Fault Refusal :=
  .next (s.begin.action seq src tag touchesStab State.baselineReset)

/-- ACTION ENTER_SETUP (R25). -/
def execEnterSetup (seq : Byte) (src : Source) (tag : Byte) (s : State) : Outcome State Fault Refusal :=
  .next (s.begin.action seq src tag touchesOptics State.enterSetup)

/-- ACTION ENTER_RUN (R24). -/
def execEnterRun (seq : Byte) (src : Source) (tag : Byte) (s : State) : Outcome State Fault Refusal :=
  .next (s.begin.action seq src tag touchesOptics State.enterRun)

/-- ACTION LENS_TABLE_CLEAR (R5). -/
def execLensTableClear (seq : Byte) (src : Source) (tag : Byte) (s : State) :
    Outcome State Fault Refusal :=
  .next (s.begin.action seq src tag [TableId.guard .lens] State.lensTableClear)

/-- ACTION CLEAR_HOLD (R108). -/
def execClearHold (seq : Byte) (src : Source) (tag slot : Byte) (s : State) :
    Outcome State Fault Refusal :=
  .next (s.begin.action seq src tag (touchesHold slot.toNat) (State.clearHold · slot.toNat))

/-- ACTION CLEAR_FAULT (R162). -/
def execClearFault (seq : Byte) (src : Source) (tag scope group detail : Byte) (s : State) :
    Outcome State Fault Refusal :=
  .next (s.begin.action seq src tag [229]
    (State.clearFault · scope.toNat group.toNat detail.toNat))

/-- ACTION STORE_SCENE (R196). -/
def execStoreScene (seq : Byte) (src : Source) (tag area : Byte) (s : State) :
    Outcome State Fault Refusal :=
  .next (s.begin.action seq src tag [28] (State.storeScene · area.toNat))

/-- ACTION RECALL_SCENE (R197). -/
def execRecallScene (seq : Byte) (src : Source) (tag area : Byte) (s : State) :
    Outcome State Fault Refusal :=
  .next (s.begin.action seq src tag touchesRecall (State.recallScene · area.toNat))

/-- ACTION RECALL_FACTORY (R197). -/
def execRecallFactory (seq : Byte) (src : Source) (tag : Byte) (s : State) :
    Outcome State Fault Refusal :=
  .next (s.begin.action seq src tag touchesRecall State.recallFactory)

/-- ACTION STORE_FIXED (R196). -/
def execStoreFixed (seq : Byte) (src : Source) (tag : Byte) (s : State) : Outcome State Fault Refusal :=
  .next (s.begin.action seq src tag touchesFixed State.storeFixed)

end Sys2Proof.Machine
end

