-- ==== Sys2Proof/Machine/LinkEvents.lean ====
section
/-! DEFINITION. The links' own packets and events: LINK_RESET, CRC failures, packets not taken, loss of
framing, the resend timer, the transmit line. -/

namespace Sys2Proof.Machine

open Host

/-- LINK_RESET (R170, R171). -/
def execLinkReset (l : LinkId) (epoch : Byte) (s : State) : Outcome State Fault Refusal :=
  .next (s.begin.unlessReset (State.takeLinkReset · l epoch))

/-- INBOUND_CRC_FAILURE (R168). -/
def execInboundCrcFailure (l : LinkId) (s : State) : Outcome State Fault Refusal :=
  .next (s.begin.unlessReset (State.failCrc · l))

/-- FOREIGN_PACKET (R172 step 1). -/
def execForeignPacket (l : LinkId) (s : State) : Outcome State Fault Refusal :=
  .next (s.begin.unlessReset (State.refusePacket · l LinkCtl.countForeign))

/-- REJECTED_PACKET (R172 steps 2 and 3). -/
def execRejectedPacket (l : LinkId) (s : State) : Outcome State Fault Refusal :=
  .next (s.begin.unlessReset (State.refusePacket · l LinkCtl.countRejected))

/-- LOSS_OF_FRAMING (R169). -/
def execLossOfFraming (l : LinkId) (s : State) : Outcome State Fault Refusal :=
  .next (s.begin.unlessReset (State.loseAlignment · l))

/-- RESEND_TIMER_EXPIRY (R170). -/
def execResendTimerExpiry (l : LinkId) (s : State) : Outcome State Fault Refusal :=
  .next (s.begin.resendExpires l)

/-- TRANSMIT_LINE_READY (R176). -/
def execTransmitLineReady (l : LinkId) (s : State) : Outcome State Fault Refusal :=
  .next (s.begin.lineReady l)

end Sys2Proof.Machine
end

