-- ==== Sys2Proof/Machine/Packets.lean ====
section
/-! DEFINITION. The stream packets taken from the head link and the body link: MOTION, LENS_REPORT,
PANEL, AUDIO_IN, FRAME_MARK, ESSENCE, VF_LINE. -/

namespace Sys2Proof.Machine

open Host

/-- MOTION (R36, R46 to R48). -/
def execMotion (seq : Byte) (yaw pitch : BitVec 16) (s : State) : Outcome State Fault Refusal :=
  .next (s.begin.intake .motion seq fun s n => s.takeMotion n ⟨yaw.toInt, pitch.toInt⟩)

/-- The report a LENS_REPORT carries (R201). -/
def lensReportOf (z shiftYaw shiftPitch : BitVec 16) (status : Byte) : LensReport :=
  ⟨z.toNat, ⟨shiftYaw.toInt, shiftPitch.toInt⟩, status.getLsbD 0, status.getLsbD 1, status.getLsbD 2⟩

/-- A LENS_REPORT taken: the zoom drive's part, and the measured shift handed to the stabiliser (R22,
R45). -/
def State.takeReport (s : State) (r : LensReport) : State :=
  { s with stab := s.stab.crossCheck s.items.stab r.shift }.takeLensReport r

/-- LENS_REPORT (R22, R45). -/
def execLensReport (seq : Byte) (z shiftYaw shiftPitch : BitVec 16) (status : Byte) (s : State) :
    Outcome State Fault Refusal :=
  .next (s.begin.intake .lensReport seq fun s _ =>
    s.takeReport (lensReportOf z shiftYaw shiftPitch status))

/-- A PANEL taken by its three owners: zoom drive, stabiliser, record assembler (R174; log entry 8). -/
def State.takePanel (s : State) (rocker : Int) (buttons : Byte) : State :=
  ((s.panelZoom rocker (buttons.getLsbD 3) (buttons.getLsbD 4)).panelStab
    (buttons.getLsbD 2)).panelRecord (buttons.getLsbD 0) (buttons.getLsbD 1)

/-- PANEL (R10, R33, R90, R100). -/
def execPanel (seq rocker buttons : Byte) (s : State) : Outcome State Fault Refusal :=
  .next (s.begin.intake .panel seq fun s _ => s.takePanel rocker.toInt buttons)

/-- AUDIO_IN (R55 to R57). A term of another length than 48 indices is no AUDIO_IN: it is rejected for
its length (R172 step 3; DEDUCED, log entry 30). -/
def execAudioIn (seq : Byte) (samples : List InputSamples) (s : State) : Outcome State Fault Refusal :=
  .next (
    if samples.length = 48 then
      s.begin.intake .audioIn seq fun s n => s.takeAudio n (samples.map (Quad.map BitVec.toInt))
    else s.begin.unlessReset (State.refusePacket · .head LinkCtl.countRejected))

/-- FRAME_MARK (R81, R86, R87). -/
def execFrameMark (seq : Byte) (frame : BitVec 32) (tc : Timecode) (rate : RateCode) (s : State) :
    Outcome State Fault Refusal :=
  .next (s.begin.intake .frameMark seq fun s _ => s.takeFrameMark ⟨frame.toNat, tc, rate⟩)

/-- An ESSENCE taken: the report of missed ones, then the packet (R82). -/
def State.takeEssence (s : State) (missed frame : Nat) (st : Stream) (last : Bool) (offset : Nat)
    (bytes : List Byte) : State :=
  { s with recorder := (s.recorder.essenceMissed missed).essence frame st last offset bytes }

/-- ESSENCE (R82). A term of more bytes than a payload of 4096 holds is no packet: its length makes it a
CRC failure (R168; DEDUCED, log entry 30). -/
def execEssence (seq : Byte) (frame : BitVec 32) (st : Stream) (last : Bool) (offset : BitVec 32)
    (bytes : List Byte) (s : State) : Outcome State Fault Refusal :=
  .next (
    if bytes.length ≤ maxEssenceBytes then
      s.begin.intake .essence seq fun s n => s.takeEssence n frame.toNat st last offset.toNat bytes
    else s.begin.unlessReset (State.failCrc · .body))

/-- VF_LINE (R129). A term of another length than 960 pixels is no VF_LINE: it is rejected for its
length (R172 step 3). -/
def execVfLine (seq : Byte) (line : BitVec 16) (pixels : List (BitVec 32)) (s : State) :
    Outcome State Fault Refusal :=
  .next (
    if pixels.length = 960 then
      s.begin.intake .vfLine seq fun s _ => s.takeLine line.toNat (pixels.map Pixel.ofWord)
    else s.begin.unlessReset (State.refusePacket · .body LinkCtl.countRejected))

end Sys2Proof.Machine
end

