-- ==== Sys2Proof/Machine/SceneEvents.lean ====
section
/-! DEFINITION. Power-on reset, and the ends of scene memory's operations. -/

namespace Sys2Proof.Machine

open Host

/-- POWER_ON_RESET (R199 steps 1 to 6). -/
def execPowerOnReset (s : State) : Outcome State Fault Refusal := .next s.powerOn

/-- POWER_ON_RESET_END (R180, R199 step 7). -/
def execPowerOnResetEnd (s : State) : Outcome State Fault Refusal := .next s.begin.powerOnEnd

/-- STORE_COMPLETION (R196). -/
def execStoreCompletion (ok : Bool) (s : State) : Outcome State Fault Refusal :=
  .next (s.begin.endStore ok)

/-- STORE_TIMEOUT: 400 ms without completion, the store FAILED (R196). -/
def execStoreTimeout (s : State) : Outcome State Fault Refusal := .next (s.begin.endStore false)

/-- RECALL_COMPLETION (R197). -/
def execRecallCompletion (s : State) : Outcome State Fault Refusal := .next s.begin.endRecall

/-- CELL_WRITE_COMPLETION (R198). -/
def execCellWriteCompletion (ok : Bool) (s : State) : Outcome State Fault Refusal :=
  .next { s.begin with scene := s.scene.endCellWrite ok }

end Sys2Proof.Machine
end

