-- ==== Sys2Proof/Machine/TimerEvents.lean ====
section
/-! DEFINITION. The expiries of the blocks' timers, and the check cycle. An expiry of a timer that is not
running does not occur; presented all the same, it changes nothing. -/

namespace Sys2Proof.Machine

open Host

/-- An expiry acts only while its timer runs. -/
def State.expire (s : State) (t : Timer) (act : State → State) : State := if t.isRunning then act s else s

/-- LENS_SILENCE_TIMER_EXPIRY (R23). -/
def execLensSilenceTimerExpiry (s : State) : Outcome State Fault Refusal :=
  .next (s.begin.expire s.zoom.lensSilence fun s =>
    { s with zoom := { s.zoom with lensSilence := .expired, lensSilentPresent := true } })

/-- ROCKER_LAPSE_TIMER_EXPIRY (R10, R16). -/
def execRockerLapseTimerExpiry (s : State) : Outcome State Fault Refusal :=
  .next (s.begin.expire s.zoom.rockerLapse State.rockerLapse)

/-- The timer of the active move; with no move it does not run (R13, R15). -/
def Zoom.moveTimer (z : Zoom) : Timer :=
  match z.move with
  | some m => m.timeout
  | none => .stopped

/-- PRESET_TIMEOUT_EXPIRY (R15). -/
def execPresetTimeoutExpiry (s : State) : Outcome State Fault Refusal :=
  .next (s.begin.expire s.zoom.moveTimer fun s => (s.endMove .timedOut).arbitrate)

/-- REFRESH_TIMER_EXPIRY (R21). -/
def execRefreshTimerExpiry (s : State) : Outcome State Fault Refusal :=
  .next (s.begin.expire s.zoom.refresh State.sendZoom)

/-- GYRO_SILENCE_TIMER_EXPIRY (R47). -/
def execGyroSilenceTimerExpiry (s : State) : Outcome State Fault Refusal :=
  .next (s.begin.expire s.stab.gyroSilence fun s =>
    { s with stab := { s.stab with gyroSilence := .expired, hold := true, gyroLost := true } })

/-- LONG_GAP_TIMER_EXPIRY (R47). -/
def execLongGapTimerExpiry (s : State) : Outcome State Fault Refusal :=
  .next (s.begin.expire s.stab.longGap fun s => { s with stab := { s.stab with longGap := .expired } })

/-- AUDIO_SILENCE_TIMER_EXPIRY (R57). -/
def execAudioSilenceTimerExpiry (s : State) : Outcome State Fault Refusal :=
  .next (s.begin.expire s.audio.silence fun s =>
    { s with audio := { s.audio with silence := .expired, gapPresent := true } })

/-- METER_LAPSE_TIMER_EXPIRY (R66). -/
def execMeterLapseTimerExpiry (s : State) : Outcome State Fault Refusal :=
  .next (s.begin.expire s.audio.meterLapse fun s => { s with audio := s.audio.lapse })

/-- MARK_SILENCE_TIMER_EXPIRY (R84). -/
def execMarkSilenceTimerExpiry (s : State) : Outcome State Fault Refusal :=
  .next (s.begin.expire s.recorder.markSilence State.markSilenceExpires)

/-- LINE_SILENCE_TIMER_EXPIRY (R131). -/
def execLineSilenceTimerExpiry (s : State) : Outcome State Fault Refusal :=
  .next (s.begin.expire s.vf.lineSilence State.lineSilenceExpires)

/-- CHECK_CYCLE (R155). -/
def execCheckCycle (s : State) : Outcome State Fault Refusal :=
  .next (s.begin.expire s.sup.timer State.checkCycle)

end Sys2Proof.Machine
end

