-- ==== Sys2Proof/Machine/Dispatch.lean ====
section
/-! DEFINITION. The dispatch: one arm for each command, each one direct call of its meaning. -/

namespace Sys2Proof.Machine

def exec (i : Instr) (s : State) : Host.Outcome State Fault Refusal :=
  match i with
  | .powerOnReset => Sys2Proof.Machine.execPowerOnReset s
  | .powerOnResetEnd => Sys2Proof.Machine.execPowerOnResetEnd s
  | .motion seq yaw pitch => Sys2Proof.Machine.execMotion seq yaw pitch s
  | .lensReport seq z shiftYaw shiftPitch status => Sys2Proof.Machine.execLensReport seq z shiftYaw shiftPitch status s
  | .panel seq rocker buttons => Sys2Proof.Machine.execPanel seq rocker buttons s
  | .audioIn seq samples => Sys2Proof.Machine.execAudioIn seq samples s
  | .frameMark seq frame tc rate => Sys2Proof.Machine.execFrameMark seq frame tc rate s
  | .essence seq frame stream last offset bytes => Sys2Proof.Machine.execEssence seq frame stream last offset bytes s
  | .vfLine seq line pixels => Sys2Proof.Machine.execVfLine seq line pixels s
  | .linkReset link epoch => Sys2Proof.Machine.execLinkReset link epoch s
  | .inboundCrcFailure link => Sys2Proof.Machine.execInboundCrcFailure link s
  | .foreignPacket link => Sys2Proof.Machine.execForeignPacket link s
  | .rejectedPacket link => Sys2Proof.Machine.execRejectedPacket link s
  | .lossOfFraming link => Sys2Proof.Machine.execLossOfFraming link s
  | .resendTimerExpiry link => Sys2Proof.Machine.execResendTimerExpiry link s
  | .transmitLineReady link => Sys2Proof.Machine.execTransmitLineReady link s
  | .get seq src tag item => Sys2Proof.Machine.execGet seq src tag item s
  | .set seq src tag item value => Sys2Proof.Machine.execSet seq src tag item value s
  | .select seq src tag table index => Sys2Proof.Machine.execSelect seq src tag table index s
  | .write seq src tag n data => Sys2Proof.Machine.execWrite seq src tag n data s
  | .read seq src tag n => Sys2Proof.Machine.execRead seq src tag n s
  | .undefinedCommand seq tag => Sys2Proof.Machine.execUndefinedCommand seq tag s
  | .recStart seq src tag => Sys2Proof.Machine.execRecStart seq src tag s
  | .recStop seq src tag => Sys2Proof.Machine.execRecStop seq src tag s
  | .mark seq src tag => Sys2Proof.Machine.execMark seq src tag s
  | .zoomPreset seq src tag n => Sys2Proof.Machine.execZoomPreset seq src tag n s
  | .zoomStop seq src tag => Sys2Proof.Machine.execZoomStop seq src tag s
  | .stabOn seq src tag => Sys2Proof.Machine.execStabOn seq src tag s
  | .stabOff seq src tag => Sys2Proof.Machine.execStabOff seq src tag s
  | .baselineReset seq src tag => Sys2Proof.Machine.execBaselineReset seq src tag s
  | .enterSetup seq src tag => Sys2Proof.Machine.execEnterSetup seq src tag s
  | .enterRun seq src tag => Sys2Proof.Machine.execEnterRun seq src tag s
  | .lensTableClear seq src tag => Sys2Proof.Machine.execLensTableClear seq src tag s
  | .clearHold seq src tag slot => Sys2Proof.Machine.execClearHold seq src tag slot s
  | .clearFault seq src tag scope group detail => Sys2Proof.Machine.execClearFault seq src tag scope group detail s
  | .storeScene seq src tag area => Sys2Proof.Machine.execStoreScene seq src tag area s
  | .recallScene seq src tag area => Sys2Proof.Machine.execRecallScene seq src tag area s
  | .recallFactory seq src tag => Sys2Proof.Machine.execRecallFactory seq src tag s
  | .storeFixed seq src tag => Sys2Proof.Machine.execStoreFixed seq src tag s
  | .cardInsertion slot => Sys2Proof.Machine.execCardInsertion slot s
  | .cardRemoval slot => Sys2Proof.Machine.execCardRemoval slot s
  | .mountCompletion slot number ok free => Sys2Proof.Machine.execMountCompletion slot number ok free s
  | .partOpenCompletion slot number ok => Sys2Proof.Machine.execPartOpenCompletion slot number ok s
  | .unitWriteCompletion slot number ok => Sys2Proof.Machine.execUnitWriteCompletion slot number ok s
  | .partCloseCompletion slot number ok => Sys2Proof.Machine.execPartCloseCompletion slot number ok s
  | .mountTimeout slot => Sys2Proof.Machine.execMountTimeout slot s
  | .slowTimerExpiry slot => Sys2Proof.Machine.execSlowTimerExpiry slot s
  | .requestTimeout slot => Sys2Proof.Machine.execRequestTimeout slot s
  | .lensSilenceTimerExpiry => Sys2Proof.Machine.execLensSilenceTimerExpiry s
  | .rockerLapseTimerExpiry => Sys2Proof.Machine.execRockerLapseTimerExpiry s
  | .presetTimeoutExpiry => Sys2Proof.Machine.execPresetTimeoutExpiry s
  | .refreshTimerExpiry => Sys2Proof.Machine.execRefreshTimerExpiry s
  | .gyroSilenceTimerExpiry => Sys2Proof.Machine.execGyroSilenceTimerExpiry s
  | .longGapTimerExpiry => Sys2Proof.Machine.execLongGapTimerExpiry s
  | .audioSilenceTimerExpiry => Sys2Proof.Machine.execAudioSilenceTimerExpiry s
  | .meterLapseTimerExpiry => Sys2Proof.Machine.execMeterLapseTimerExpiry s
  | .markSilenceTimerExpiry => Sys2Proof.Machine.execMarkSilenceTimerExpiry s
  | .lineSilenceTimerExpiry => Sys2Proof.Machine.execLineSilenceTimerExpiry s
  | .checkCycle => Sys2Proof.Machine.execCheckCycle s
  | .storeCompletion ok => Sys2Proof.Machine.execStoreCompletion ok s
  | .storeTimeout => Sys2Proof.Machine.execStoreTimeout s
  | .recallCompletion => Sys2Proof.Machine.execRecallCompletion s
  | .cellWriteCompletion ok => Sys2Proof.Machine.execCellWriteCompletion ok s

end Sys2Proof.Machine
end

