-- ==== Sys2Proof/Machine/Step.lean ====
section
/-! DEFINITION. One step: the command at the front of the queue, or idling on an empty queue. -/

namespace Sys2Proof.Machine

/-- The part takes its commands one at a time, first in first out. With none waiting it idles: what time
brings about is a command of its own, the expiry of a timer (DESIGN CHOICE, log entry 9; one sender, log
entry 36). -/
def step (s : State) : Host.Outcome State Fault Refusal :=
  match s.pending with
  | [] => .next s
  | i :: rest => exec i { s with pending := rest }

/-- A command put at the front of the queue. -/
def State.push (s : State) (i : Instr) : State := { s with pending := i :: s.pending }

/-- The command a table word spells put at the front of the queue; the table gives no row bits, so no
word spells one. -/
def State.withFetchWord (s : State) (nbits w : Nat) : State :=
  match Sys2Proof.decodeTableWord nbits w with
  | some i => s.push i
  | none => s

end Sys2Proof.Machine
end

