-- ==== Sys2Proof/Safety.lean ====
section
/-! DEFINITION. The terms statements use: when a packet is taken and what the link is then, which blocks a
command may change, and the properties of a state that every step keeps. -/

namespace Sys2Proof

/-! ### What a command row carries -/

/-- A packet row's inbound kind and sequence; other rows carry no checked sequence (R172, R173). -/
def Instr.sequenced : Instr → Option (Machine.InKind × Byte)
  | .motion seq _ _ => some (.motion, seq)
  | .lensReport seq _ _ _ _ => some (.lensReport, seq)
  | .panel seq _ _ => some (.panel, seq)
  | .audioIn seq _ => some (.audioIn, seq)
  | .frameMark seq _ _ _ => some (.frameMark, seq)
  | .essence seq _ _ _ _ _ => some (.essence, seq)
  | .vfLine seq _ _ => some (.vfLine, seq)
  | .get seq _ _ _ | .set seq _ _ _ _ | .select seq _ _ _ _ | .write seq _ _ _ _ | .read seq _ _ _
  | .undefinedCommand seq _ | .recStart seq _ _ | .recStop seq _ _ | .mark seq _ _
  | .zoomPreset seq _ _ _ | .zoomStop seq _ _ | .stabOn seq _ _ | .stabOff seq _ _
  | .baselineReset seq _ _ | .enterSetup seq _ _ | .enterRun seq _ _ | .lensTableClear seq _ _
  | .clearHold seq _ _ _ | .clearFault seq _ _ _ _ _ | .storeScene seq _ _ _ | .recallScene seq _ _ _
  | .recallFactory seq _ _ | .storeFixed seq _ _ => some (.command, seq)
  | _ => none

/-- An ACTION row's sequence, source and tag, and the item numbers and 255 + table ids it touches
(R188, R190). -/
def Instr.asks : Instr → Option (Byte × Source × Byte × List Nat)
  | .recStart seq src tag => some (seq, src, tag, [128, 129])
  | .recStop seq src tag => some (seq, src, tag, [136])
  | .mark seq src tag => some (seq, src, tag, [139])
  | .zoomPreset seq src tag _ => some (seq, src, tag, [258])
  | .zoomStop seq src tag => some (seq, src, tag, [42])
  | .stabOn seq src tag | .stabOff seq src tag | .baselineReset seq src tag => some (seq, src, tag, [80, 81])
  | .enterSetup seq src tag | .enterRun seq src tag => some (seq, src, tag, [40, 256, 257])
  | .lensTableClear seq src tag => some (seq, src, tag, [256])
  | .clearHold seq src tag slot =>
    some (seq, src, tag, if slot = 0 then [166] else if slot = 1 then [167] else [])
  | .clearFault seq src tag _ _ _ => some (seq, src, tag, [229])
  | .storeScene seq src tag _ => some (seq, src, tag, [28])
  | .storeFixed seq src tag => some (seq, src, tag, [28, 256, 257, 259, 261, 262, 263])
  | .recallScene seq src tag _ | .recallFactory seq src tag =>
    some (seq, src, tag, 28 :: Machine.itemSpecs.map Machine.ItemSpec.number ++ [258, 260])
  | _ => none

end Sys2Proof

namespace Sys2Proof.Machine

/-! ### A packet taken (R173, R174) -/

/-- An ALIGNED link takes a packet of this kind and sequence with `n` missed; power-on reset is over. -/
def State.takes (s : State) (k : InKind) (seq : Byte) (n : Nat) : Bool :=
  !s.inReset && decide ((s.link k.link).state = .aligned)
    && match (s.link k.link).expect.get k.place with
      | none => decide (n = 0)
      | some e => decide (n = (seq - e).toNat) && decide (n ≠ 255)

/-- The link's own changes at a packet it takes with `n` missed: no CRC failure in a row, the next
sequence expected, MISSED counted. Nothing is yet on the ports. -/
def State.taken (s : State) (k : InKind) (seq : Byte) (n : Nat) : State :=
  let c := s.link k.link
  { s with out := [] }.setLink k.link
    { c with
      crcFails := 0, expect := c.expect.set k.place (some (seq + 1)), missed := sat16 (c.missed + n) }

/-- A COMMAND taken with `n` missed, from a source allowed everything it touches. -/
def State.takesCommand (s : State) (seq : Byte) (src : Source) (touched : List Nat) (n : Nat) : Bool :=
  s.takes .command seq n && s.permits src touched

/-- The line number of a composed line on the viewfinder port. -/
def Emission.lineNumber : Emission → Option Nat
  | .viewfinderLine _ line _ => some line
  | .packet _ _ | .linkReset _ _ _ | .slotRequest _ _ _ => none

/-! ### Blocks -/

/-- The parts of State, by name. -/
inductive Block where
  | head | body | zoom | stab | audio | recorder | slotA | slotB | vf | sup | mgmt | scene | items
  | portSeq | inReset | out | pending
  deriving DecidableEq, Repr

/-- Two states agree on a block. -/
def Block.same (s t : State) : Block → Prop
  | .head => t.head = s.head
  | .body => t.body = s.body
  | .zoom => t.zoom = s.zoom
  | .stab => t.stab = s.stab
  | .audio => t.audio = s.audio
  | .recorder => t.recorder = s.recorder
  | .slotA => t.slotA = s.slotA
  | .slotB => t.slotB = s.slotB
  | .vf => t.vf = s.vf
  | .sup => t.sup = s.sup
  | .mgmt => t.mgmt = s.mgmt
  | .scene => t.scene = s.scene
  | .items => t.items = s.items
  | .portSeq => t.portSeq = s.portSeq
  | .inReset => t.inReset = s.inReset
  | .out => t.out = s.out
  | .pending => t.pending = s.pending

/-- Two states agree on every block not listed. -/
def sameOutside (bs : List Block) (s t : State) : Prop := ∀ b, b ∉ bs → Block.same s t b

def linkBlock : LinkId → Block
  | .head => .head
  | .body => .body

def slotBlock : SlotId → Block
  | .a => .slotA
  | .b => .slotB

/-- What any good packet on a link may change, taken or not (R168, R170, R175). -/
def packetBlocks : LinkId → List Block
  | .head => [.out, .head, .zoom]
  | .body => [.out, .body]

/-- What a link reset of a link may change (R169, R175). -/
def linkResetBlocks : LinkId → List Block
  | .head => [.out, .head, .zoom, .stab, .recorder]
  | .body => [.out, .body, .mgmt]

/-- What a COMMAND may change whatever it asks: its link, and DENIED_COUNT and the cursors. -/
def commandBlocks : List Block := [.out, .body, .mgmt]

/-- What a change of the recording may change. -/
def recordingBlocks : List Block := [.out, .head, .body, .recorder, .slotA, .slotB]

/-- What the zoom arbiter may change (R21). -/
def zoomBlocks : List Block := [.out, .head, .body, .zoom, .stab]

/-- What a loading of scene contents may change (R197). -/
def loadBlocks : List Block := [.out, .head, .body, .zoom, .stab, .audio, .recorder, .vf, .items]

/-- The blocks each command may change; all else it leaves as it was. -/
def touches : Instr → List Block
  | .powerOnReset =>
    [.head, .body, .zoom, .stab, .audio, .recorder, .slotA, .slotB, .vf, .sup, .mgmt, .scene, .items,
     .portSeq, .inReset, .out]
  | .powerOnResetEnd => [.head, .body, .zoom, .stab, .audio, .slotA, .slotB, .vf, .sup, .inReset, .out]
  | .motion _ _ _ | .lensReport _ _ _ _ _ => zoomBlocks
  | .panel _ _ _ => .scene :: zoomBlocks ++ recordingBlocks
  | .audioIn _ _ => .audio :: .body :: packetBlocks .head
  | .frameMark _ _ _ _ => .audio :: recordingBlocks
  | .essence _ _ _ _ _ _ => .recorder :: linkResetBlocks .body
  | .vfLine _ _ _ => .vf :: .portSeq :: packetBlocks .body
  | .linkReset l _ | .inboundCrcFailure l | .lossOfFraming l => linkResetBlocks l
  | .foreignPacket l | .rejectedPacket l => packetBlocks l
  | .resendTimerExpiry l | .transmitLineReady l => [.out, linkBlock l]
  | .get _ _ _ _ | .select _ _ _ _ _ | .read _ _ _ _ | .undefinedCommand _ _ => commandBlocks
  | .set _ _ _ _ _ => .items :: .head :: .stab :: .audio :: .recorder :: commandBlocks
  | .write _ _ _ _ _ => .zoom :: .audio :: .vf :: .sup :: commandBlocks
  | .recStart _ _ _ => .scene :: recordingBlocks ++ commandBlocks
  | .recStop _ _ _ => recordingBlocks ++ commandBlocks
  | .mark _ _ _ => .recorder :: commandBlocks
  | .zoomPreset _ _ _ _ | .zoomStop _ _ _ | .enterSetup _ _ _ => zoomBlocks ++ commandBlocks
  | .stabOn _ _ _ | .stabOff _ _ _ | .baselineReset _ _ _ => .stab :: .head :: commandBlocks
  | .enterRun _ _ _ | .lensTableClear _ _ _ => .zoom :: commandBlocks
  | .clearHold _ _ _ _ => .slotA :: .slotB :: commandBlocks
  | .clearFault _ _ _ _ _ _ => .sup :: .vf :: zoomBlocks ++ commandBlocks
  | .storeScene _ _ _ _ | .recallScene _ _ _ _ | .storeFixed _ _ _ => .scene :: commandBlocks
  | .recallFactory _ _ _ => loadBlocks ++ commandBlocks
  | .cardInsertion x | .mountCompletion x _ _ _ | .mountTimeout x => [.out, .body, slotBlock x]
  | .cardRemoval _ | .partOpenCompletion _ _ _ | .requestTimeout _ => recordingBlocks
  | .unitWriteCompletion x _ _ => [.out, .body, .recorder, slotBlock x]
  | .partCloseCompletion x _ _ => [.out, .head, .body, .recorder, slotBlock x]
  | .slowTimerExpiry x => [.out, slotBlock x]
  | .lensSilenceTimerExpiry => [.out, .zoom]
  | .rockerLapseTimerExpiry | .presetTimeoutExpiry => zoomBlocks
  | .refreshTimerExpiry => [.out, .head, .zoom]
  | .gyroSilenceTimerExpiry | .longGapTimerExpiry => [.out, .stab]
  | .audioSilenceTimerExpiry | .meterLapseTimerExpiry => [.out, .audio]
  | .markSilenceTimerExpiry => .audio :: recordingBlocks
  | .lineSilenceTimerExpiry => [.out, .vf, .portSeq]
  | .checkCycle => .sup :: .vf :: zoomBlocks ++ recordingBlocks
  | .storeCompletion _ | .storeTimeout => [.out, .body, .scene]
  | .recallCompletion => .scene :: loadBlocks
  | .cellWriteCompletion _ => [.out, .scene]

/-! ### Properties every step keeps -/

/-- A link controller's own bounds: 32 packets queued, fewer than four failures in a row; in RESYNC
nothing queued or expected and at most one good packet counted (R168 to R170, R176, R177). -/
def LinkCtl.sound (c : LinkCtl) : Prop :=
  c.txQueue.length ≤ txCapacity ∧ c.crcFails ≤ 3 ∧
  match c.state with
  | .resync => c.txQueue = [] ∧ c.expect = .fill none ∧ c.goodRun ≤ 1
  | .aligned => c.goodRun = 0

/-- Both links are sound, in RESYNC throughout power-on reset, and the resend timer runs in RESYNC alone
(R170, R180). -/
def State.linksSound (s : State) : Prop :=
  ∀ l, (s.link l).sound ∧
    if s.inReset then (s.link l).state = .resync
    else ((s.link l).resend.isRunning = true ↔ (s.link l).state = .resync)

/-- In RUN both lens tables pass the test of R24; in SETUP the stabiliser is OFF (R6, R25). -/
def State.opticsSound (s : State) : Prop :=
  match s.zoom.mode with
  | .run => s.zoom.tablesValid = true
  | .setup => s.stab.state = .off

/-- The sent speed is the masked class speed (R21). -/
def State.zoomSound (s : State) : Prop := s.zoom.sentSpeed = s.zoom.maskSpeed s.zoom.classSpeed

/-- An axis within its bounds (R38, R41). -/
def Axis.sound (th : Nat) (a : Axis) : Prop :=
  a.base.natAbs ≤ 1536 ∧ a.bucket.natAbs < th ∧ a.integ.natAbs ≤ 268435456

/-- Both axes within their bounds, the shift history of at most four entries (R38, R41, R44). -/
def State.stabSound (s : State) : Prop :=
  s.stab.yaw.sound s.items.stab.bucketTh ∧ s.stab.pitch.sound s.items.stab.bucketTh ∧
    s.stab.ring.length ≤ 4

/-- The four assignments map the inputs onto the tracks one to one; FIFOs hold at most 4096 samples; a
limiter gain is at most unity, and unity where the limiter is off (R53, R62, R68). -/
def State.audioSound (s : State) : Prop :=
  isPermutation s.items.audio.assign = true ∧
  ∀ t, (s.audio.fifo.get t).length ≤ 4096 ∧ s.audio.limGain.get t ≤ 65536 ∧
    (s.items.audio.limitOn.get t = false → s.audio.limGain.get t = 65536)

/-- Supervision's own bonds: a counter and a flag for each detail, a counter at most 8, the summary flag
set exactly while a detail flag is, the attention line exactly while a flagged group notifies by line
(R156, R158, R161). -/
def State.supSound (s : State) : Prop :=
  s.sup.groups.length = 12 ∧
  (∀ g, (s.sup.group g).counters.length = g.details ∧ (s.sup.group g).flags.length = g.details ∧
    (∀ c ∈ (s.sup.group g).counters, c ≤ 8) ∧
    ((s.sup.group g).summary = true ↔ true ∈ (s.sup.group g).flags)) ∧
  (s.sup.attention = true ↔
    ∃ g, (s.sup.group g).summary = true ∧ (s.sup.entry g).notify.hasLine = true)

/-- An absent number, or one in 0..9999. -/
def clipRange (n : Option Nat) : Prop := ∀ k, n = some k → k ≤ 9999

/-- The counts that wrap stay in their ranges: check cycles, viewfinder lines, stripes and blinks, meter
periods, clip numbers (R155, R129, R133, R65, R97). -/
def State.countsSound (s : State) : Prop :=
  s.sup.cycle < 840 ∧ s.vf.expected < 540 ∧ s.vf.stripe < 8 ∧ s.vf.blink < 32 ∧ s.audio.period < 10 ∧
  s.recorder.clipCounter ≤ 9999 ∧
  clipRange s.scene.cell ∧ clipRange s.scene.cellWrite ∧ clipRange s.scene.cellPending

/-- The contents of a fixed area have the sizes of their tables (9.4). -/
def FixedArea.sized (f : FixedArea) : Prop :=
  f.lens.length ≤ 32 ∧ f.curve.length = 9 ∧ f.gainTable.length = 161 ∧ f.glyphs.length = 96 ∧
  f.fault.length = 12 ∧ f.palette.length = 16

/-- The contents of a scene area have the sizes of their tables (9.4). -/
def SceneArea.sized (c : SceneArea) : Prop := c.presets.length = 4 ∧ c.display.length = 48

/-- Every table has its size, in the blocks, in the areas and in the operation in flight: the lens table
and the map's entry count at most their capacities, the others exactly theirs (9.4, R188). -/
def State.tablesSound (s : State) : Prop :=
  s.fixedCopy.sized ∧ s.sceneCopy.sized ∧ s.vf.liveList.length = 48 ∧ s.mgmt.map.length = 17 ∧
  s.mgmt.mapCount ≤ 17 ∧
  (∀ f, s.scene.fixed = some f → f.sized) ∧ (∀ n c, s.scene.scenes.get n = some c → c.sized) ∧
  match s.scene.op with
  | .idle => True
  | .storeScene _ c | .recallScene _ c _ => c.sized
  | .storeFixed f => f.sized

/-- The unit store in order: units in the order of their names, each named below the next name, each with a
holder; a unit not DROPPED has its head block, none has more than 256, and its essence fits the others; the
ring's units and the one under assembly have been opened, and that one is not in the ring (R76 to R80,
R88). -/
def State.storeSound (s : State) : Prop :=
  let st := s.recorder.store
  (st.units.map RecordUnit.id).Pairwise (· < ·) ∧
  (∀ u ∈ st.units, u.id < st.nextId ∧ 1 ≤ u.refs ∧ u.blocks.length ≤ 256 ∧
    (u.dropped = false → u.blocks ≠ []) ∧
    u.main.bytes.length + u.proxy.bytes.length ≤ (u.blocks.length - 1) * 65536) ∧
  (∀ id ∈ s.recorder.ring, id < st.nextId) ∧
  ∀ id, s.recorder.assembly = some id → id < st.nextId ∧ id ∉ s.recorder.ring

/-! ### Table entries as a WRITE takes them (R137, R153, R186, R202, R205) -/

/-- A field of an entry: its width in bytes, what is held where a value is written, and whether a change
of it makes the reply CLAMPED. -/
structure EntryField where
  width : Nat
  held : Nat → Nat
  judged : Bool

/-- A numeric field of a range. -/
def EntryField.range (width lo hi : Nat) : EntryField := ⟨width, fun v => max lo (min hi v), true⟩

/-- An enumerated byte: a value past the last defined one is taken as the first. -/
def EntryField.code (last : Nat) : EntryField := ⟨1, fun v => if last < v then 0 else v, true⟩

/-- A field the entry does not use: read back with every bit set. -/
def EntryField.unused (width : Nat) : EntryField := ⟨width, fun _ => 256 ^ width - 1, false⟩

/-- The fields of a display entry, by the kind its first byte names. -/
def displayFields (entry : List Byte) : List EntryField :=
  let kind := leNat (entry.take 1)
  let letters := leNat ((entry.drop 15).take 1)
  let used (kinds : List Nat) (f : EntryField) : EntryField :=
    if kind ∈ kinds then f else .unused f.width
  let any := [1, 2, 3, 4, 5, 6, 7]
  [.code 7, used any (.range 2 0 959), used any (.range 2 0 539), used any (.range 2 0 960),
    used any (.range 2 0 540), used any (.range 1 0 15), used [3, 4, 5, 7] (.range 1 0 15),
    used any (.code 5), used any (.code 1), used [4, 7] (.code (if kind = 4 then 3 else 5)),
    used [2] (.range 1 1 8), used [3] (.range 1 0 24)] ++
  (List.range 24).map (fun j =>
    used [3] (if j < letters then .range 1 32 127 else ⟨1, fun _ => 32, false⟩))

/-- The fields of an entry of a table, in the order of its layout. -/
def entryFields (t : TableId) (entry : List Byte) : List EntryField :=
  match t with
  | .lens => [.range 2 0 65535, .range 2 1 65535, .range 2 0 65535, .range 2 0 4095]
  | .speedCurve => [.range 2 0 1023]
  | .presets => [.range 2 0 65535, .range 2 16 1023]
  | .gain => [.range 4 0 67108863]
  | .display => displayFields entry
  | .palette => [.range 2 0 1023, .range 2 0 1023, .range 2 0 1023, .range 1 0 16]
  | .glyph => List.replicate 16 ⟨2, (· % 4096), false⟩
  | .fault => [.range 1 0 7, .range 1 0 1, .range 1 0 7, .code 3, ⟨1, (· % 32), true⟩]
  | .map => [.range 2 0 65535]

/-- The bytes held where an entry is written, and whether a field was corrected. -/
def holdFields : List EntryField → List Byte → List Byte × Bool
  | [], _ => ([], false)
  | f :: rest, bytes =>
    let v := leNat (bytes.take f.width)
    let r := holdFields rest (bytes.drop f.width)
    (leBytes f.width (f.held v) ++ r.1, (f.judged && decide (f.held v ≠ v)) || r.2)

def holdEntry (t : TableId) (entry : List Byte) : List Byte × Bool := holdFields (entryFields t entry) entry

end Sys2Proof.Machine
end

