-- ==== Sys2Proof/Certificates/Slice0/Obligations.lean ====
section
/-! DEFINITION. The statements for the provers: what the machine as a whole keeps, what each family of
commands does, and what the port's bytes mean. -/

open Sys2Proof Sys2Proof.Machine

/-! ### The machine as a whole -/

/-- A step runs the command at the front of the queue on the state with the queue's rest, and on an empty
queue changes nothing. The queue and the idling are the model's choice (log entries 1, 9 and 36): the spec
has events taken one at a time and no queue. -/
def Obligations.StepRunsTheFrontCommand : Prop :=
  (∀ (i : Instr) (s : State), step (s.push i) = exec i s) ∧ ∀ s : State, s.pending = [] → step s = .next s

/-- Every command in every state answers a next state, with the queue as it was. The queue is the model's
own (log entries 1 and 9), and that it outlives POWER_ON_RESET too is the model's choice (log entry 32). -/
def Obligations.EveryCommandCompletes : Prop :=
  ∀ (i : Instr) (s : State), ∃ t, exec i s = .next t ∧ t.pending = s.pending

/-- The frame of every command: no block changes but those `touches` lists for it. The queue `pending` is
never among them; that it outlives POWER_ON_RESET is the model's choice (log entry 32). -/
def Obligations.FrameOfEveryCommand : Prop :=
  ∀ (i : Instr) (s t : State), exec i s = .next t → sameOutside (touches i) s t

/-- The packet formed for any well-formed packet row, with every operand at every value, is read back as
that row on its link (R200, R201, R203). -/
def Obligations.PacketsReadBack : Prop :=
  ∀ (i : Instr) (l : LinkId) (bytes : List Byte),
    i.wellFormed = true → packetOf i = some (l, bytes) → receive l bytes = i

/-- Packets written out byte by byte from the layouts, with their CRC-16 worked out by hand, are read as
the commands they stand for: a PANEL, a FRAME_MARK, a GET of item 41, an ACTION REC_STOP, a LINK_RESET; the
same PANEL with a bit of its CRC turned, on channel 5, and under an outbound kind. -/
def Obligations.WrittenPacketsRead : Prop :=
  receive .head [0x03#8, 0x00#8, 0x07#8, 0x02#8, 0x00#8, 0x28#8, 0x09#8, 0x96#8, 0xBD#8] = .panel 0x07#8 0x28#8 0x09#8 ∧
  receive .body [0x10#8, 0x00#8, 0xFE#8, 0x09#8, 0x00#8, 0x04#8, 0x03#8, 0x02#8, 0x01#8,
    0x10#8, 0x3B#8, 0x14#8, 0x18#8, 0x02#8, 0x93#8, 0x59#8] =
      .frameMark 0xFE#8 0x01020304#32 ⟨16#8, 59#8, 20#8, 24#8⟩ .r25 ∧
  receive .body [0x13#8, 0x00#8, 0x01#8, 0x04#8, 0x00#8, 0x00#8, 0x2A#8, 0x01#8, 0x29#8, 0x75#8, 0x1F#8] =
      .get 0x01#8 .system 0x2A#8 41#8 ∧
  receive .body [0x13#8, 0x00#8, 0x02#8, 0x04#8, 0x00#8, 0x01#8, 0x2B#8, 0x06#8, 0x02#8, 0xED#8, 0x8A#8] =
      .recStop 0x02#8 .panel 0x2B#8 ∧
  receive .head [0x7F#8, 0x00#8, 0x33#8, 0x01#8, 0x00#8, 0x11#8, 0x9A#8, 0x0C#8] = .linkReset .head 0x11#8 ∧
  receive .head [0x03#8, 0x00#8, 0x07#8, 0x02#8, 0x00#8, 0x28#8, 0x09#8, 0xD6#8, 0xBD#8] = .inboundCrcFailure .head ∧
  receive .head [0x03#8, 0x05#8, 0x07#8, 0x02#8, 0x00#8, 0x28#8, 0x09#8, 0x97#8, 0xFE#8] = .foreignPacket .head ∧
  receive .head [0x06#8, 0x00#8, 0x07#8, 0x01#8, 0x00#8, 0x01#8, 0xCD#8, 0xF5#8] = .rejectedPacket .head

/-- The state after reset has every property that the statements below say a step keeps. That the state
after reset has a blank scene memory and the presence lines absent is the model's choice (log entry 5), and
that it stands inside the power-on reset, with POWER_ON_RESET_END to come, is the model's reading (log
entry 6). -/
def Obligations.SoundAtReset : Prop :=
  State.reset.linksSound ∧ State.reset.opticsSound ∧ State.reset.zoomSound ∧ State.reset.stabSound ∧
  State.reset.audioSound ∧ State.reset.supSound ∧ State.reset.countsSound ∧ State.reset.tablesSound ∧
  State.reset.storeSound

/-- Every step keeps both links sound: at most 32 packets queued, fewer than four CRC failures in a row,
nothing queued or expected in RESYNC, RESYNC throughout power-on reset, the resend timer running in RESYNC
alone. That a link takes nothing and stays in RESYNC while power-on reset is in progress is the model's
choice (log entry 12). -/
def Obligations.LinksStaySound : Prop :=
  ∀ s t : State, step s = .next t → s.linksSound → t.linksSound

/-- Every step keeps valid tables in RUN, the stabiliser OFF in SETUP, and the sent speed at the masked
class speed. -/
def Obligations.OpticsAndZoomStaySound : Prop :=
  ∀ s t : State, step s = .next t → (s.opticsSound → t.opticsSound) ∧ (s.zoomSound → t.zoomSound)

/-- Every step keeps each axis within its bounds: baseline in −1536..1536, bucket below BUCKET_TH in
magnitude, integrator within ±2^28, and at most four entries of shift history. -/
def Obligations.StabiliserStaysBounded : Prop :=
  ∀ s t : State, step s = .next t → s.stabSound → t.stabSound

/-- Every step keeps the assignments one to one, the FIFOs at 4096 samples at most, the limiter gains at
most unity, and unity where the limiter is off. -/
def Obligations.AudioStaysBounded : Prop :=
  ∀ s t : State, step s = .next t → s.audioSound → t.audioSound

/-- Every step keeps supervision's bonds: a summary flag is set exactly while a detail flag of its group
is, the attention line is asserted exactly while a flagged group notifies by line, no counter passes 8. -/
def Obligations.SupervisionStaysBounded : Prop :=
  ∀ s t : State, step s = .next t → s.supSound → t.supSound

/-- Every step keeps the counts that wrap in their ranges, the clip numbers among them, and the unit store
in order: each unit below the next name and listed once, with a holder and at most 256 blocks, its head
block unless it is DROPPED, its essence within its other blocks; the ring's units opened, the unit under
assembly outside the ring (R76 to R80, R88). The names of units are the model's own (log entry 1). -/
def Obligations.CountsStayInRange : Prop :=
  ∀ s t : State, step s = .next t →
    (s.countsSound → t.countsSound) ∧ (s.storeSound → t.storeSound)

/-- Every step keeps the size of every table, in the blocks and in scene memory. -/
def Obligations.TablesKeepTheirSizes : Prop :=
  ∀ s t : State, step s = .next t → s.tablesSound → t.tablesSound

/-! ### Power-on reset -/

/-- POWER_ON_RESET in any state answers the state that steps 1 to 6 of R199 make: every block at its
power-on values (R27, R51, R74, R103, R127, R149, R165, R180, R192), the fixed area's tables and scene 0
where they are valid, the clip counter from its cell, RUN exactly where the loaded tables are valid,
SETTLING exactly where STAB_ENABLE is on in RUN. Of the zoom drive only the tables and the mode, and of the
viewfinder only the list, the palette and the glyphs, are not those of a part that never ran. The areas,
the presence lines and the queue outlive it. That the queue and the lines outlive it is the model's reading
(log entry 32), and so are the ranges by which scene 0's items are loaded (log entry 20) and that the zero
SHIFT_CMD of the SETTLING entry is discarded and counted by a link not yet aligned (log entry 12). -/
def Obligations.PowerOnReset : Prop :=
  ∀ s : State, ∃ t, exec .powerOnReset s = .next t ∧
    t.inReset = true ∧ t.out = [] ∧ t.pending = s.pending ∧ t.portSeq = 0#8 ∧
    t.body = .powerOn ∧ t.mgmt = .powerOn ∧
    t.slotA = .powerOn s.slotA.line ∧ t.slotB = .powerOn s.slotB.line ∧
    t.scene = { s.scene with op := .idle, cellWrite := none, cellPending := none } ∧
    t.recorder =
      { Recorder.powerOn with
        clipCounter := s.scene.cell.getD 0
        state := if t.items.record.preRecSeconds = 0 then .idle else .standby } ∧
    t.zoom =
      { Zoom.powerOn with
        lens := t.zoom.lens, curve := t.zoom.curve, presets := t.zoom.presets
        mode := if lensTableValid t.zoom.lens = true ∧ curveValid t.zoom.curve = true then .run else .setup } ∧
    t.vf =
      { Viewfinder.powerOn with
        palette := t.vf.palette, glyphs := t.vf.glyphs, editList := t.vf.editList
        editChanged := s.scene.scenes.q1.isSome } ∧
    (if t.zoom.mode = .run ∧ t.items.stab.enable = true then
      t.stab = { Stabiliser.powerOn with state := .settling } ∧
      t.head = { LinkCtl.powerOn with outDiscarded := 1 }
    else t.stab = .powerOn ∧ t.head = .powerOn) ∧
    t.audio = { Audio.powerOn with gainTable := t.audio.gainTable, gainNow := t.items.audio.inGain } ∧
    t.sup = { Supervision.powerOn with table := t.sup.table } ∧
    (match s.scene.fixed with
    | none =>
      t.zoom.lens = [] ∧ t.zoom.curve = List.replicate 9 none ∧ t.audio.gainTable = factoryGain ∧
      t.vf.glyphs = factoryGlyphs ∧ t.vf.palette = factoryPalette ∧ t.sup.table = factoryFault
    | some f => t.fixedCopy = f) ∧
    match s.scene.scenes.q1 with
    | none =>
      t.items = defaultItems ∧ t.zoom.presets = factoryPresets ∧ t.vf.editList = List.replicate 48 .none
    | some c =>
      t.items = loadItems c.items defaultItems ∧ t.zoom.presets = c.presets ∧
      t.vf.editList = c.display.map DisplayEntry.taken

/-- POWER_ON_RESET_END, during a power-on reset with both links in RESYNC, starts the timers, sends one
LINK_RESET with the own epoch on each link and starts its resend timer, and gives an insertion to each
EMPTY slot whose presence line shows a card. The order of the two LINK_RESETs in `out`, and their
sequence, are the model's (log entries 1 and 25). -/
def Obligations.PowerOnResetEnd : Prop :=
  ∀ s : State, s.inReset = true → s.head.state = .resync → s.body.state = .resync →
    ∃ t, exec .powerOnResetEnd s = .next t ∧ t.inReset = false ∧
      t.head = { s.head with outSeq := s.head.outSeq.set .i4 (s.head.outSeq.q4 + 1), resend := .running 2 } ∧
      t.body.state = .resync ∧ t.body.resend = .running 2 ∧ t.body.linkResets = s.body.linkResets ∧
      t.out.take 2 =
        [.linkReset .head s.head.outSeq.q4 s.head.ownEpoch, .linkReset .body s.body.outSeq.q4 s.body.ownEpoch] ∧
      t.zoom = { s.zoom with lensSilence := .running 20, refresh := .running 20 } ∧
      t.stab = { s.stab with gyroSilence := .running 5, longGap := .running 100 } ∧
      t.audio = { s.audio with silence := .running 5, meterLapse := .running 100 } ∧
      t.vf = { s.vf with lineSilence := .running 40 } ∧
      t.sup = { s.sup with timer := .running s.items.supPeriod } ∧
      ∀ x,
        if (s.slot x).line = true ∧ (s.slot x).state = .empty then
          t.slot x =
            { s.slot x with
              cardPresent := true, state := .mounting, requestNumber := (s.slot x).requestNumber + 1
              request := some ⟨.mount, (s.slot x).requestNumber + 1⟩, mountTimer := .running 5000 } ∧
          .slotRequest x ((s.slot x).requestNumber + 1) .mount ∈ t.out
        else t.slot x = s.slot x

/-! ### Links -/

/-- A packet of an inbound kind at an ALIGNED link is checked against the expectation of its kind: with
none it is taken with 0 missed, one less than expected is a repeat that changes only REPEATS, any other is
taken with the difference modulo 256 missed. -/
def Obligations.SequenceIsChecked : Prop :=
  ∀ (i : Instr) (k : InKind) (seq : Byte) (s : State),
    i.wellFormed = true → i.sequenced = some (k, seq) → s.inReset = false →
    (s.link k.link).state = .aligned →
    ∃ t, exec i s = .next t ∧
      match (s.link k.link).expect.get k.place with
      | none =>
        (t.link k.link).expect = (s.link k.link).expect.set k.place (some (seq + 1)) ∧
        (t.link k.link).missed = sat16 (s.link k.link).missed ∧
        (t.link k.link).repeats = (s.link k.link).repeats ∧ (t.link k.link).crcFails = 0
      | some e =>
        if seq + 1 = e then
          t = { s with out := [] }.setLink k.link
            { s.link k.link with crcFails := 0, repeats := sat16 ((s.link k.link).repeats + 1) }
        else
          (t.link k.link).expect = (s.link k.link).expect.set k.place (some (seq + 1)) ∧
          (t.link k.link).missed = sat16 ((s.link k.link).missed + (seq - e).toNat) ∧
          (t.link k.link).repeats = (s.link k.link).repeats ∧ (t.link k.link).crcFails = 0

/-- CRC failures and loss of framing. A failure counts, sets LINK_CRC present and empties the good run;
the fourth in a row in ALIGNED, and a loss of framing in ALIGNED, are a link reset with changes 1 to 8 of
R169; in RESYNC the count of four becomes 0 and a loss of framing changes nothing. That LINK_RESET takes
its sequence from a count of its own is the model's reading (log entry 25). -/
def Obligations.AlignmentIsLost : Prop :=
  ∀ (l : LinkId) (s : State), s.inReset = false →
    let c := s.link l
    let failed : LinkCtl := { c with crcErrors := sat16 (c.crcErrors + 1), crcPresent := true }
    let lost (d : LinkCtl) : LinkCtl :=
      { d with
        state := .resync, ownEpoch := c.ownEpoch + 1, expect := .fill none, txQueue := []
        outDiscarded := sat16 (c.outDiscarded + c.txQueue.length)
        outSeq := ⟨0#8, 0#8, 0#8, 1#8⟩, crcFails := 0, goodRun := 0
        linkResets := sat16 (c.linkResets + 1), resend := .running 2 }
    let down : State :=
      match l with
      | .head =>
        { s with
          zoom := { s.zoom with p1 := .unknown, p2 := .unknown }
          stab := { s.stab with button := .unknown }
          recorder := { s.recorder with recButton := .unknown, markButton := .unknown } }
      | .body => { s with mgmt := { s.mgmt with cursor0 := none, cursor1 := none } }
    let reset (d : LinkCtl) : State :=
      { down with out := [.linkReset l 0#8 (c.ownEpoch + 1)] }.setLink l (lost d)
    match c.state with
    | .resync =>
      exec (.inboundCrcFailure l) s = .next ({ s with out := [] }.setLink l
        { failed with goodRun := 0, crcFails := if 4 ≤ c.crcFails + 1 then 0 else c.crcFails + 1 }) ∧
      exec (.lossOfFraming l) s = .next { s with out := [] }
    | .aligned =>
      exec (.inboundCrcFailure l) s = .next (
        if c.crcFails < 3 then
          { s with out := [] }.setLink l { failed with crcFails := c.crcFails + 1 }
        else reset failed) ∧
      exec (.lossOfFraming l) s = .next (reset c)

/-- LINK_RESET taken. In RESYNC a new epoch, or the second good packet in a row, aligns the link with the
link-aligned report: on the head link a ZOOM_CMD, a zero SHIFT_CMD unless the stabiliser runs, and a
TALLY. In ALIGNED the partner's recorded epoch changes nothing, and a new one is a link reset answered at
once. The order of those three, and a sequence of its own for LINK_RESET, are the model's readings (log
entries 10 and 25). -/
def Obligations.LinkResetTaken : Prop :=
  ∀ (l : LinkId) (epoch : Byte) (s : State), s.inReset = false →
    let c := s.link l
    let report (u : State) (d : LinkCtl) : State :=
      match l with
      | .body => { u with body := d }
      | .head =>
        let d := d.hand (.zoomCmd s.zoom.sentSpeed)
        let d := if s.stab.state = .running then d else d.hand (.shiftCmd ⟨0, 0⟩)
        { u with
          head := d.hand (.tally s.recorder.lamp), zoom := { u.zoom with refresh := .running 20 } }
    match c.state with
    | .resync =>
      exec (.linkReset l epoch) s = .next (
        if c.partnerEpoch ≠ some epoch then
          report { s with out := [] }
            { c with
              crcFails := 0, partnerEpoch := some epoch, state := .aligned, resend := .stopped, goodRun := 0 }
        else if c.goodRun = 0 then
          { s with out := [] }.setLink l { c with crcFails := 0, goodRun := 1 }
        else
          report { s with out := [] }
            { c with crcFails := 0, state := .aligned, resend := .stopped, goodRun := 0 })
    | .aligned =>
      exec (.linkReset l epoch) s = .next (
        if c.partnerEpoch = some epoch then { s with out := [] }.setLink l { c with crcFails := 0 }
        else
          let down : State :=
            match l with
            | .head =>
              { s with
                zoom := { s.zoom with p1 := .unknown, p2 := .unknown }
                stab := { s.stab with button := .unknown }
                recorder := { s.recorder with recButton := .unknown, markButton := .unknown } }
            | .body => { s with mgmt := { s.mgmt with cursor0 := none, cursor1 := none } }
          report { down with out := [.linkReset l 0#8 (c.ownEpoch + 1)] }
            { c with
              partnerEpoch := some epoch, ownEpoch := c.ownEpoch + 1, expect := .fill none, txQueue := []
              outDiscarded := sat16 (c.outDiscarded + c.txQueue.length)
              outSeq := ⟨0#8, 0#8, 0#8, 1#8⟩, crcFails := 0, goodRun := 0
              linkResets := sat16 (c.linkResets + 1) })

/-- Good packets that no block takes, with the whole next state of each case. In ALIGNED a foreign packet
changes FOREIGN alone and a rejected one REJECTED alone. In RESYNC each of them, and every packet of an
inbound kind, adds one to the good run, and the second aligns the link, with no CRC failure counted, the
resend timer stopped and the good run 0: on the body link nothing else changes; on the head link the
link-aligned report goes out, a ZOOM_CMD of the sent speed, a zero SHIFT_CMD unless the stabiliser runs, a
TALLY, and the refresh timer restarts. The order of those three packets is the model's reading (log entry
10). -/
def Obligations.GoodPacketsNotTaken : Prop :=
  ∀ (l : LinkId) (s : State), s.inReset = false →
    let c := s.link l
    match c.state with
    | .aligned =>
      exec (.foreignPacket l) s = .next ({ s with out := [] }.setLink l
        { c with crcFails := 0, foreign := sat16 (c.foreign + 1) }) ∧
      exec (.rejectedPacket l) s = .next ({ s with out := [] }.setLink l
        { c with crcFails := 0, rejected := sat16 (c.rejected + 1) })
    | .resync =>
      let d : LinkCtl := { c with crcFails := 0, state := .aligned, resend := .stopped, goodRun := 0 }
      let shifted : LinkCtl := d.hand (.zoomCmd s.zoom.sentSpeed)
      let shifted : LinkCtl := if s.stab.state = .running then shifted else shifted.hand (.shiftCmd ⟨0, 0⟩)
      let next : State :=
        if c.goodRun = 0 then { s with out := [] }.setLink l { c with crcFails := 0, goodRun := 1 }
        else
          match l with
          | .body => { s with out := [], body := d }
          | .head =>
            { s with
              out := [], head := shifted.hand (.tally s.recorder.lamp)
              zoom := { s.zoom with refresh := .running 20 } }
      exec (.foreignPacket l) s = .next next ∧ exec (.rejectedPacket l) s = .next next ∧
        ∀ i k seq, i.wellFormed = true → i.sequenced = some (k, seq) → k.link = l → exec i s = .next next

/-- What a handed packet does, and what leaves the link. In RESYNC it is discarded and counted and takes
no sequence; in ALIGNED it takes the next sequence of its kind, and joins the queue as its newest or, at
32, is dropped and counted. A ready line sends the oldest packet; the resend timer's expiry sends one
LINK_RESET with the own epoch. That LINK_RESET takes its sequence from a count of its own is the model's
reading (log entry 25). -/
def Obligations.HandingAndSending : Prop :=
  (∀ (c : LinkCtl) (m : OutMsg),
    match c.state with
    | .resync => c.hand m = { c with outDiscarded := sat16 (c.outDiscarded + 1) }
    | .aligned =>
      (c.hand m).outSeq = c.outSeq.set m.place (c.outSeq.get m.place + 1) ∧
      if c.txQueue.length < 32 then
        (c.hand m).txQueue = c.txQueue ++ [⟨c.outSeq.get m.place, m⟩] ∧ (c.hand m).outDropped = c.outDropped
      else (c.hand m).txQueue = c.txQueue ∧ (c.hand m).outDropped = sat16 (c.outDropped + 1)) ∧
  ∀ (l : LinkId) (s : State),
    exec (.transmitLineReady l) s = .next (
      match (s.link l).txQueue with
      | [] => { s with out := [] }
      | p :: rest => { s with out := [.packet l p] }.setLink l { s.link l with txQueue := rest }) ∧
    (∀ ms, (s.link l).resend = .running ms →
      exec (.resendTimerExpiry l) s = .next (
        { s with out := [.linkReset l (s.link l).outSeq.q4 (s.link l).ownEpoch] }.setLink l
          { s.link l with
            outSeq := (s.link l).outSeq.set .i4 ((s.link l).outSeq.q4 + 1), resend := .running 2 }))

/-! ### Image stabiliser -/

/-- MOTION taken in OFF and in SETTLING with `n` missed, and the end of a long gap. In OFF: the last raw
samples, the timers, and a count-down of the drop window for the packet and each missed packet that is
filled. In SETTLING: the missed packets of a short gap are filled with the last raw sample (R46), fills and
packet join the settle sums, and the 64th sample completes the settle on both axes with a MODE notice (R35);
where a fill completes it, the rest is what the same MOTION does in the running state so reached. With gyro
hold set or five or more missed, nothing is filled and the packet is the next sample (R47, R48). Where
besides the long-gap timer has expired, SETTLING is entered anew, also from running: a zero SHIFT_CMD, a
MODE notice GYRO_GAP, and the packet is the first settle sample. The model's readings: both pan states are
STEADY in SETTLING (log entry 23); a fill after the completing one is a running sample (log entry 37); a
sample in SETTLING leaves the hold-off counts (log entry 38). -/
def Obligations.MotionOffAndSettling : Prop :=
  ∀ (s : State) (seq : Byte) (yaw pitch : BitVec 16) (n : Nat), s.takes .motion seq n = true →
    let u := s.taken .motion seq n
    let gap : Prop := s.stab.hold = true ∨ 5 ≤ n
    let fills : Nat := if s.stab.hold = true ∨ 5 ≤ n then 0 else n
    let timed : Stabiliser :=
      { s.stab with
        hold := false, gyroLost := decide (5 ≤ n), gyroSilence := .running 5, longGap := .running 100
        dropWindow := s.stab.dropWindow - (fills + 1) }
    (s.stab.state = .off →
      exec (.motion seq yaw pitch) s = .next { u with
        stab :=
          { timed with
            yaw := { s.stab.yaw with lastRaw := yaw.toInt }
            pitch := { s.stab.pitch with lastRaw := pitch.toInt } } }) ∧
    (s.stab.state = .settling → ¬(gap ∧ s.stab.longGap = .expired) →
      let joined (a : Axis) (r : Int) : Axis :=
        { a with settleSum := a.settleSum + fills * a.lastRaw + r, lastRaw := r }
      let finished (a : Axis) (r : Int) : Axis :=
        { joined a r with
          base := max (-1536) (min 1536 (Int.tdiv (a.settleSum + fills * a.lastRaw + r) 64))
          bucket := 0, integ := 0, debounce := 0, clampCount := 0, holdOff := 0, window := [], pan := false }
      let settled : LinkCtl := s.body.hand (.notice (.mode s.zoom.mode .running .settled))
      (s.stab.settleCount + fills < 63 →
        exec (.motion seq yaw pitch) s = .next { u with
          stab :=
            { timed with
              settleCount := s.stab.settleCount + fills + 1
              yaw := joined s.stab.yaw yaw.toInt, pitch := joined s.stab.pitch pitch.toInt } }) ∧
      (s.stab.settleCount + fills = 63 →
        exec (.motion seq yaw pitch) s = .next { u with
          stab :=
            { timed with
              state := .running, settleCount := 64
              yaw := finished s.stab.yaw yaw.toInt, pitch := finished s.stab.pitch pitch.toInt }
          body := settled }) ∧
      (63 < s.stab.settleCount + fills → s.stab.settleCount ≤ 63 →
        let used : Nat := 64 - s.stab.settleCount
        let done (a : Axis) : Axis :=
          { a with
            settleSum := a.settleSum + used * a.lastRaw
            base := max (-1536) (min 1536 (Int.tdiv (a.settleSum + used * a.lastRaw) 64))
            bucket := 0, integ := 0, debounce := 0, clampCount := 0, holdOff := 0, window := [], pan := false }
        exec (.motion seq yaw pitch) s = exec (.motion seq yaw pitch) { s with
          stab :=
            { s.stab with
              state := .running, settleCount := 64, yaw := done s.stab.yaw, pitch := done s.stab.pitch
              dropWindow := s.stab.dropWindow - used }
          head :=
            { s.head with
              expect := s.head.expect.set .i1 (some (seq - BitVec.ofNat 8 (n - used)))
              missed := sat16 (s.head.missed + used) }
          body := settled })) ∧
    (s.stab.state ≠ .off → gap → s.stab.longGap = .expired →
      let again (a : Axis) (r : Int) : Axis :=
        { a with
          settleSum := r, lastRaw := r, integ := 0, clampCount := 0, window := [], pan := false, mismatch := false }
      exec (.motion seq yaw pitch) s = .next { u with
        stab :=
          { timed with
            state := .settling, settleCount := 1, ring := []
            yaw := again s.stab.yaw yaw.toInt, pitch := again s.stab.pitch pitch.toInt }
        head := u.head.hand (.shiftCmd ⟨0, 0⟩)
        body := s.body.hand (.notice (.mode s.zoom.mode .settling .gyroGap)) })

/-- MOTION taken while running, with the whole next state, save after a long gap. Each missed packet of a
short gap is filled with the last raw sample and takes stages 1 to 4 of R36; the packet takes all of them.
The stages on each axis: the average of the last AVG_COUNT of at most eight samples (R37); the bucket and
the baseline, moved by one at BUCKET_TH, in STEADY outside the drop window and the hold-off (R38, R39); PAN
entered after PAN_DEBOUNCE samples beyond PAN_TH + PAN_HYST and left below PAN_TH − PAN_HYST with a
hold-off of 20 (R40); the integrator with the leak of the new pan state, within ±2^28 (R41); the correction
−(A × G / 32,768,000), rounded, held within the travel limit, and PAN forced by the clamp counter (R43).
One SHIFT_CMD goes out and enters the shift history of four (R44). With gyro hold set or five or more
missed nothing is filled (R47, R48). -/
def Obligations.MotionRunning : Prop :=
  ∀ (s : State) (seq : Byte) (yaw pitch : BitVec 16) (n : Nat), s.takes .motion seq n = true →
    s.stab.state = .running → ¬((s.stab.hold = true ∨ 5 ≤ n) ∧ s.stab.longGap = .expired) →
    let it := s.items.stab
    let v := lensValues s.zoom.lens s.zoom.report.z
    let fills : Nat := if s.stab.hold = true ∨ 5 ≤ n then 0 else n
    let stages (drop : Nat) (r : Int) (a : Axis) : Axis :=
      let window : List Int := (a.window ++ [r]).drop (a.window.length - 7)
      let k : Nat := min it.avgCount window.length
      let dev : Int := Int.tdiv (window.drop (window.length - k)).sum k - a.base
      let q : Int := a.bucket + dev
      let tracks : Prop := a.pan = false ∧ drop = 0 ∧ a.holdOff = 0 ∧ dev.natAbs ≤ it.noiseTh
      let beyond : Prop := a.pan = false ∧ it.panTh + it.panHyst < dev.natAbs
      let enters : Prop := beyond ∧ it.panDebounce ≤ a.debounce + 1
      let leaves : Prop := a.pan = true ∧ (dev.natAbs : Int) < (it.panTh : Int) - it.panHyst
      let pan : Bool := (a.pan && !decide leaves) || decide enters
      let leak : Int := Int.tdiv a.integ (2 ^ (if pan then it.leakPan else it.leakSteady))
      { a with
        window := window, pan := pan
        base :=
          if tracks ∧ (it.bucketTh : Int) ≤ q then min 1536 (a.base + 1)
          else if tracks ∧ q ≤ -(it.bucketTh : Int) then max (-1536) (a.base - 1)
          else a.base
        bucket := if tracks then (if it.bucketTh ≤ q.natAbs then 0 else q) else a.bucket
        debounce := if a.pan = true then a.debounce else if beyond ∧ ¬enters then a.debounce + 1 else 0
        integ := max (-268435456) (min 268435456 (a.integ + (r - a.base) - leak))
        holdOff := if leaves then 20 else a.holdOff - 1 }
    let filled (a : Axis) : Axis :=
      (List.range fills).foldl (fun a j => stages (s.stab.dropWindow - j) a.lastRaw a) a
    let shift (a : Axis) : Int :=
      max (-(v.travel : Int)) (min (v.travel : Int) (-(roundDiv (a.integ * v.gain) 32768000)))
    let own (r : Int) (a : Axis) : Axis :=
      let b := stages (s.stab.dropWindow - fills) r a
      if v.travel < (roundDiv (b.integ * v.gain) 32768000).natAbs then
        if it.clampPanCount ≤ b.clampCount + 1 then
          { b with lastRaw := r, pan := true, clampCount := 0, debounce := 0 }
        else { b with lastRaw := r, clampCount := b.clampCount + 1 }
      else { b with lastRaw := r, clampCount := 0 }
    let y : Axis := own yaw.toInt (filled s.stab.yaw)
    let p : Axis := own pitch.toInt (filled s.stab.pitch)
    exec (.motion seq yaw pitch) s = .next { s.taken .motion seq n with
      stab :=
        { s.stab with
          hold := false, gyroLost := decide (5 ≤ n), gyroSilence := .running 5, longGap := .running 100
          dropWindow := s.stab.dropWindow - (fills + 1), yaw := y, pitch := p
          ring := List.drop (s.stab.ring.length - 3) (s.stab.ring ++ [⟨shift y, shift p⟩]) }
      head := (s.taken .motion seq n).head.hand (.shiftCmd ⟨shift y, shift p⟩) }

/-- The stabiliser's three actions, from a source that the map allows, in the order of their checks:
STAB_ON, STAB_OFF and BASELINE_RESET by optics mode and stabiliser state (R32). The STAB button of a PANEL
(R33): its kept level follows the packet; a rising edge turns the stabiliser on from OFF in RUN, and off
from SETTLING and running, with the zero SHIFT_CMD and the MODE notice; in OFF in SETUP, and without an
edge, nothing else of it changes but the drop window that a changed zoom speed loads. That the pan states
are STEADY in SETTLING and OFF is the model's reading (log entry 23), and so is that the zoom drive acts
before the stabiliser on one PANEL (log entries 8 and 10). -/
def Obligations.StabiliserActions : Prop :=
  ∀ s : State,
    let zero (h : LinkCtl) : LinkCtl := h.hand (.shiftCmd ⟨0, 0⟩)
    let settleAxis (a : Axis) : Axis :=
      { a with settleSum := 0, integ := 0, clampCount := 0, window := [], pan := false, mismatch := false }
    let settling (b : Stabiliser) : Stabiliser :=
      { b with
        state := .settling, settleCount := 0, ring := [], yaw := settleAxis b.yaw, pitch := settleAxis b.pitch }
    let offAxis (a : Axis) : Axis :=
      { a with
        integ := 0, bucket := 0, debounce := 0, clampCount := 0, holdOff := 0, window := [], pan := false
        mismatch := false }
    let off (b : Stabiliser) : Stabiliser :=
      { b with
        state := .off, reason := .operator, hold := false, ring := [], yaw := offAxis b.yaw
        pitch := offAxis b.pitch }
    (∀ (seq : Byte) (src : Source) (tag : Byte) (n : Nat), s.takesCommand seq src [80, 81] n = true →
      let u := s.taken .command seq n
      let reply (status : Status) (b : LinkCtl) : LinkCtl := b.hand (.reply tag status [])
      let mode (st : StabState) (r : ModeReason) : LinkCtl := u.body.hand (.notice (.mode .run st r))
      exec (.stabOn seq src tag) s = .next (
        match s.zoom.mode, s.stab.state with
        | .setup, _ => { u with body := reply .wrongMode u.body }
        | .run, .off =>
          { u with stab := settling s.stab, head := zero s.head, body := reply .ok (mode .settling .operator) }
        | .run, _ => { u with body := reply .ok u.body }) ∧
      exec (.stabOff seq src tag) s = .next (
        match s.zoom.mode, s.stab.state with
        | .setup, _ | .run, .off => { u with body := reply .ok u.body }
        | .run, _ =>
          { u with stab := off s.stab, head := zero s.head, body := reply .ok (mode .off .operator) }) ∧
      exec (.baselineReset seq src tag) s = .next (
        match s.zoom.mode, s.stab.state with
        | .setup, _ => { u with body := reply .wrongMode u.body }
        | .run, .off => { u with body := reply .refusedState u.body }
        | .run, _ =>
          { u with stab := settling s.stab, head := zero s.head, body := reply .ok (mode .settling .baseline) })) ∧
    ∀ (seq rocker buttons : Byte) (n : Nat), s.takes .panel seq n = true →
      ∃ t, exec (.panel seq rocker buttons) s = .next t ∧
        let kept : Stabiliser :=
          { s.stab with
            button := if buttons.getLsbD 2 = true then .pressed else .released
            dropWindow :=
              if t.zoom.sentSpeed = s.zoom.sentSpeed then s.stab.dropWindow else s.items.stab.dropWindow }
        let edge : Prop := s.stab.button = .released ∧ buttons.getLsbD 2 = true
        let turnsOn : Prop := edge ∧ s.stab.state = .off ∧ s.zoom.mode = .run
        let turnsOff : Prop := edge ∧ s.stab.state ≠ .off
        let head : LinkCtl :=
          if t.zoom.sentSpeed = s.zoom.sentSpeed then (s.taken .panel seq n).head
          else (s.taken .panel seq n).head.hand (.zoomCmd t.zoom.sentSpeed)
        t.stab = (if turnsOn then settling kept else if turnsOff then off kept else kept) ∧
        (buttons.getLsbD 0 = false → t.head = if turnsOn ∨ turnsOff then zero head else head) ∧
        (buttons.getLsbD 0 = false → buttons.getLsbD 3 = false → buttons.getLsbD 4 = false →
          s.zoom.move = none → s.zoom.pendingPreset = none →
          t.body =
            if turnsOn then s.body.hand (.notice (.mode .run .settling .operator))
            else if turnsOff then s.body.hand (.notice (.mode s.zoom.mode .off .operator))
            else s.body)

/-! ### Zoom drive -/

/-- LENS_REPORT taken, with the whole next state: the last report and its timer (R22), the cross-check against
the oldest of four commands while running with gyro hold clear, the arrival test and the new speed of an
active move (R14, R15), and the stop claim that a lens fault raises (R19). An arrival ends the move ARRIVED;
a claim that arises ends a move that has not arrived STOPPED, and a pending preset STOPPED, each with a
PRESET notice. The sent speed is the masked class speed (R20); a changed one gives one ZOOM_CMD and loads
the drop window, the same one gives neither (R21). That the arrival is judged before the fault is the
model's reading (log entry 19). -/
def Obligations.LensReportTaken : Prop :=
  ∀ (s : State) (seq : Byte) (z yaw pitch : BitVec 16) (status : Byte) (n : Nat),
    s.takes .lensReport seq n = true →
    let u := s.taken .lensReport seq n
    let arises : Prop :=
      status.getLsbD 2 = true ∧ s.zoom.report.fault = false ∧ s.zoom.stopGroups = []
    let far (m : Move) : Int := (m.target : Int) - z.toNat
    let arrives (m : Move) : Prop := (far m).natAbs ≤ s.items.zoom.arriveWindow
    ∃ t, exec (.lensReport seq z yaw pitch status) s = .next t ∧
      t = { u with zoom := t.zoom, stab := t.stab, head := t.head, body := t.body } ∧
      t.zoom =
        { s.zoom with
          report :=
            ⟨z.toNat, ⟨yaw.toInt, pitch.toInt⟩, status.getLsbD 0, status.getLsbD 1, status.getLsbD 2⟩
          lensSilence := .running 20
          lensSilentPresent := false
          move := t.zoom.move
          pendingPreset := if arises then none else s.zoom.pendingPreset
          stopFresh := decide arises || s.zoom.stopFresh
          sentSpeed := t.zoom.sentSpeed
          refresh := t.zoom.refresh } ∧
      (match s.zoom.move with
      | none => t.zoom.move = none
      | some m =>
        if arrives m ∨ arises then t.zoom.move = none
        else
          let mag : Int :=
            if s.items.zoom.approach ≤ (far m).natAbs then m.speed
            else max 16 (m.speed * (far m).natAbs / s.items.zoom.approach : Nat)
          t.zoom.move = some { m with current := if far m < 0 then -mag else mag }) ∧
      (let moved : LinkCtl :=
        match s.zoom.move with
        | none => u.body
        | some m =>
          if arrives m then u.body.hand (.notice (.preset .arrived))
          else if arises then u.body.hand (.notice (.preset .stopped))
          else u.body
      t.body =
        if arises ∧ s.zoom.pendingPreset.isSome = true then moved.hand (.notice (.preset .stopped))
        else moved) ∧
      t.zoom.sentSpeed =
        (let v := t.zoom.classSpeed
         if (0 < v ∧ status.getLsbD 1 = true) ∨ (v < 0 ∧ status.getLsbD 0 = true) then 0 else v) ∧
      (if t.zoom.sentSpeed = s.zoom.sentSpeed then
        t.head = u.head ∧ t.zoom.refresh = s.zoom.refresh ∧ t.stab.dropWindow = s.stab.dropWindow
      else
        t.head = u.head.hand (.zoomCmd t.zoom.sentSpeed) ∧
        t.zoom.refresh = .running 20 ∧ t.stab.dropWindow = s.items.stab.dropWindow) ∧
      t.stab =
        { s.stab with
          dropWindow := t.stab.dropWindow
          yaw := { s.stab.yaw with mismatch := t.stab.yaw.mismatch }
          pitch := { s.stab.pitch with mismatch := t.stab.pitch.mismatch } } ∧
      (match s.stab.state, s.stab.hold, s.stab.ring with
      | .running, false, [o, _, _, _] =>
        t.stab.yaw.mismatch = decide (s.items.stab.mismatchTol < (yaw.toInt - o.yaw).natAbs) ∧
        t.stab.pitch.mismatch = decide (s.items.stab.mismatchTol < (pitch.toInt - o.pitch).natAbs)
      | _, _, _ =>
        t.stab.yaw.mismatch = s.stab.yaw.mismatch ∧ t.stab.pitch.mismatch = s.stab.pitch.mismatch)

/-- A PANEL at the zoom drive, with its whole next state, and the rocker lapse. The demand is that of R9,
found from k of 0..7 alone. Outside the dead band its claim holds the speed, the active move ends PREEMPTED
and a stop claim may count ZOOM_IGNORED; inside it the claim is withdrawn and a pending preset starts
unless the stop claim stands (R10, R16, R19). The lapse timer restarts for 12 ms, and its expiry withdraws
the claim and ends a pending preset CANCELLED (R10). A rising edge of P1 or P2 asks for preset 1 or 2 in
RUN: ignored and counted under the stop claim, pending under the rocker's claim, else started after the
active move ends CANCELLED (R12, R13). The sent speed is the masked speed of the claim that then holds the
grant (R18, R23). The order P1 before P2, and one judgement of the arbiter after both, are the model's
readings (log entries 8 and 24). -/
def Obligations.PanelDemand : Prop :=
  ∀ s : State,
    (∀ (seq rocker buttons : Byte) (n : Nat), s.takes .panel seq n = true →
      let d : Int := if rocker.toInt = -128 then -127 else rocker.toInt
      let m : Nat := d.natAbs
      let k : Nat := m / 16
      let speedAt (j : Nat) : Int := (((s.zoom.curve.getD j none).getD 0 : Nat) : Int)
      let base : Int := speedAt k + Int.tdiv ((speedAt (k + 1) - speedAt k) * ((m : Int) - 16 * k)) 16
      let scaled : Int := min (Int.tdiv (base * s.items.zoom.scale) 256) 1023
      let demand : Option Int :=
        if m ≤ s.items.zoom.deadband then none else some (if 0 ≤ d then scaled else -scaled)
      let stop : Prop := s.zoom.report.fault = true ∨ s.zoom.stopGroups ≠ []
      let ended (z : Zoom) (b : LinkCtl) (e : MoveEnd) : LinkCtl :=
        if z.move.isSome = true then b.hand (.notice (.preset e)) else b
      let started (z : Zoom) (b : LinkCtl) (j : Nat) : Zoom × LinkCtl :=
        let p := z.presets.getD (j - 1) ⟨0, 0⟩
        let far : Int := (p.target : Int) - z.report.z
        let mag : Nat :=
          if s.items.zoom.approach ≤ far.natAbs then p.speed
          else max 16 (p.speed * far.natAbs / s.items.zoom.approach)
        if far.natAbs ≤ s.items.zoom.arriveWindow then
          ({ z with move := none }, b.hand (.notice (.preset .arrived)))
        else
          ({ z with
              move := some ⟨j, p.target, p.speed, if far < 0 then -(mag : Int) else mag,
                .running (s.items.zoom.presetTimeout * 1000)⟩ }, b)
      let kept : Zoom :=
        { s.zoom with
          rocker := demand, rockerLapse := .running 12, stopFresh := false
          p1 := if buttons.getLsbD 3 = true then .pressed else .released
          p2 := if buttons.getLsbD 4 = true then .pressed else .released }
      let demanded : Zoom × LinkCtl :=
        if demand.isSome = true then
          ({ kept with
              move := none
              ignored :=
                if stop ∧ (s.zoom.rocker = none ∨ s.zoom.stopFresh = true) then sat16 (s.zoom.ignored + 1)
                else s.zoom.ignored }, ended s.zoom s.body .preempted)
        else
          match s.zoom.pendingPreset with
          | none => (kept, s.body)
          | some j =>
            if stop then (kept, s.body) else started { kept with pendingPreset := none } s.body j
      let pressed (edge : Prop) [Decidable edge] (j : Nat) (w : Zoom × LinkCtl) : Zoom × LinkCtl :=
        if edge ∧ s.zoom.mode = .run then
          if stop then ({ w.1 with ignored := sat16 (w.1.ignored + 1) }, w.2)
          else if demand.isSome = true then
            ({ w.1 with pendingPreset := some j },
              if w.1.pendingPreset.isSome = true then w.2.hand (.notice (.preset .cancelled)) else w.2)
          else started w.1 (ended w.1 w.2 .cancelled) j
        else w
      let w := pressed (s.zoom.p2 = .released ∧ buttons.getLsbD 4 = true) 2
        (pressed (s.zoom.p1 = .released ∧ buttons.getLsbD 3 = true) 1 demanded)
      let speed : Int :=
        if stop then 0
        else match demand, w.1.move with
          | some v, _ => v
          | none, some mv => mv.current
          | none, none => 0
      let sent : Int :=
        if (0 < speed ∧ s.zoom.report.tele = true) ∨ (speed < 0 ∧ s.zoom.report.wide = true) then 0
        else speed
      k ≤ 7 ∧
      ∃ t, exec (.panel seq rocker buttons) s = .next t ∧
        t.zoom =
          { w.1 with
            sentSpeed := sent
            refresh := if sent = s.zoom.sentSpeed then s.zoom.refresh else .running 20 } ∧
        (buttons.getLsbD 0 = false → buttons.getLsbD 2 = false →
          t.body = w.2 ∧
          t.head =
            (let h := (s.taken .panel seq n).head
             if sent = s.zoom.sentSpeed then h else h.hand (.zoomCmd sent)))) ∧
    ∀ ms, s.zoom.rockerLapse = .running ms →
      ∃ t, exec .rockerLapseTimerExpiry s = .next t ∧
        t.zoom.rocker = none ∧ t.zoom.pendingPreset = none ∧ t.zoom.move = s.zoom.move ∧
        t.body = (match s.zoom.pendingPreset with
          | some _ => s.body.hand (.notice (.preset .cancelled))
          | none => s.body)

/-- ACTION ZOOM_PRESET n, allowed and with the sent speed at the masked class speed, in the order of R12: n
outside 1..4, SETUP, the stop claim, the rocker's grant (the pending slot), and otherwise a started move,
shown for a grant of none and a target outside the window. -/
def Obligations.ZoomPresetJudged : Prop :=
  ∀ (s : State) (seq : Byte) (src : Source) (tag k : Byte) (n : Nat),
    s.takesCommand seq src [258] n = true → s.zoomSound →
    let u := s.taken .command seq n
    let refused (status : Status) : Host.Outcome State Fault Refusal :=
      .next { u with body := u.body.hand (.reply tag status []) }
    if k.toNat < 1 ∨ 4 < k.toNat then exec (.zoomPreset seq src tag k) s = refused .badCommand
    else if s.zoom.mode = .setup then exec (.zoomPreset seq src tag k) s = refused .wrongMode
    else if s.zoom.report.fault = true ∨ s.zoom.stopGroups ≠ [] then
      exec (.zoomPreset seq src tag k) s = refused .refusedState
    else if s.zoom.rocker.isSome = true then
      exec (.zoomPreset seq src tag k) s = .next { u with
        zoom := { s.zoom with pendingPreset := some k.toNat }
        body :=
          (match s.zoom.pendingPreset with
          | some _ => u.body.hand (.notice (.preset .cancelled))
          | none => u.body).hand (.reply tag .ok []) }
    else
      ∀ p : Preset, s.zoom.move = none → s.zoom.presets[k.toNat - 1]? = some p →
        let d : Int := (p.target : Int) - s.zoom.report.z
        s.items.zoom.arriveWindow < d.natAbs →
        let mag : Int :=
          if s.items.zoom.approach ≤ d.natAbs then p.speed
          else max 16 (p.speed * d.natAbs / s.items.zoom.approach : Nat)
        let v : Int := if d < 0 then -mag else mag
        let sent : Int :=
          if (0 < v ∧ s.zoom.report.tele = true) ∨ (v < 0 ∧ s.zoom.report.wide = true) then 0 else v
        ∃ t, exec (.zoomPreset seq src tag k) s = .next t ∧
          t.zoom.move =
            some ⟨k.toNat, p.target, p.speed, v, .running (s.items.zoom.presetTimeout * 1000)⟩ ∧
          t.zoom.sentSpeed = sent ∧
          (sent ≠ s.zoom.sentSpeed → t.head = s.head.hand (.zoomCmd sent)) ∧
          t.body = u.body.hand (.reply tag .ok []) ∧ sameOutside [.out, .head, .body, .zoom, .stab] s t

/-- ACTION ZOOM_STOP, allowed: the active move and the pending preset, whichever exist, each end CANCELLED
with a PRESET notice; the reply is OK also when neither exists; the rocker claim and the stop claim stand
as they were, and a rocker claim keeps the grant. -/
def Obligations.ZoomStopEndsPresets : Prop :=
  ∀ (s : State) (seq : Byte) (src : Source) (tag : Byte) (n : Nat),
    s.takesCommand seq src [42] n = true →
    let u := s.taken .command seq n
    let cancelled (b : LinkCtl) (ends : Bool) : LinkCtl :=
      if ends then b.hand (.notice (.preset .cancelled)) else b
    ∃ t, exec (.zoomStop seq src tag) s = .next t ∧
      t.zoom.move = none ∧ t.zoom.pendingPreset = none ∧
      t.body =
        (cancelled (cancelled u.body s.zoom.move.isSome) s.zoom.pendingPreset.isSome).hand
          (.reply tag .ok []) ∧
      t.zoom.rocker = s.zoom.rocker ∧ t.zoom.stopGroups = s.zoom.stopGroups ∧
      t.zoom.report = s.zoom.report ∧
      t.zoom.grant =
        (if s.zoom.report.fault = true ∨ s.zoom.stopGroups ≠ [] then .stop
         else if s.zoom.rocker.isSome = true then .rocker else .none) ∧
      t.zoom.sentSpeed = t.zoom.maskSpeed t.zoom.classSpeed ∧ sameOutside [.out, .head, .body, .zoom, .stab] s t

/-- The zoom drive's timers. The rocker lapse withdraws the rocker claim and ends a pending preset
CANCELLED, without starting it; the preset timeout ends the move TIMED_OUT; the refresh sends the sent
speed again and gives the stabiliser no signal. -/
def Obligations.ZoomTimers : Prop :=
  ∀ (s : State) (ms : Nat),
    (s.zoom.rockerLapse = .running ms →
      ∃ t, exec .rockerLapseTimerExpiry s = .next t ∧
        t.zoom.rocker = none ∧ t.zoom.pendingPreset = none ∧ t.zoom.move = s.zoom.move ∧
        t.zoom.rockerLapse = .expired ∧ t.zoom.sentSpeed = t.zoom.maskSpeed t.zoom.classSpeed ∧
        t.body = (match s.zoom.pendingPreset with
          | some _ => s.body.hand (.notice (.preset .cancelled))
          | none => s.body)) ∧
    (∀ m, s.zoom.move = some m → m.timeout = .running ms →
      ∃ t, exec .presetTimeoutExpiry s = .next t ∧
        t.zoom.move = none ∧ t.zoom.pendingPreset = s.zoom.pendingPreset ∧
        t.zoom.sentSpeed = t.zoom.maskSpeed t.zoom.classSpeed ∧
        t.body = s.body.hand (.notice (.preset .timedOut))) ∧
    (s.zoom.refresh = .running ms →
      exec .refreshTimerExpiry s = .next { s with
        out := [], head := s.head.hand (.zoomCmd s.zoom.sentSpeed)
        zoom := { s.zoom with refresh := .running 20 } })

/-- ENTER_RUN and ENTER_SETUP, allowed. ENTER_RUN in SETUP is taken exactly where both tables pass R24.
ENTER_SETUP in RUN is refused in a recording or during a move; taken, it cancels a pending preset, turns the
stabiliser OFF with reason SETUP, and keeps the claims and the sent speed. Each in its own mode changes
nothing. -/
def Obligations.OpticsModeActions : Prop :=
  ∀ (s : State) (seq : Byte) (src : Source) (tag : Byte) (n : Nat),
    s.takesCommand seq src [40, 256, 257] n = true →
    let u := s.taken .command seq n
    let replied (status : Status) (b : LinkCtl) : LinkCtl := b.hand (.reply tag status [])
    let valid : Prop :=
      2 ≤ s.zoom.lens.length ∧
      (∀ i e f, s.zoom.lens[i]? = some e → s.zoom.lens[i + 1]? = some f → e.z < f.z) ∧
      s.zoom.curve.length = 9 ∧ (∀ v ∈ s.zoom.curve, v.isSome = true) ∧
      ∀ i a b, s.zoom.curve[i]? = some (some a) → s.zoom.curve[i + 1]? = some (some b) → a ≤ b
    (s.zoom.mode = .run → exec (.enterRun seq src tag) s = .next { u with body := replied .ok u.body }) ∧
    (s.zoom.mode = .setup →
      (valid →
        exec (.enterRun seq src tag) s = .next { u with
          zoom := { s.zoom with mode := .run }
          body := replied .ok (u.body.hand (.notice (.mode .run s.stab.state .run))) }) ∧
      (¬valid →
        exec (.enterRun seq src tag) s = .next { u with body := replied .tableInvalid u.body }) ∧
      exec (.enterSetup seq src tag) s = .next { u with body := replied .ok u.body }) ∧
    (s.zoom.mode = .run →
      if s.recorder.state ∈ [RecState.starting, .recording, .stopping] ∨ s.zoom.move.isSome = true then
        exec (.enterSetup seq src tag) s = .next { u with body := replied .refusedState u.body }
      else
        ∃ t, exec (.enterSetup seq src tag) s = .next t ∧
          t.zoom = { s.zoom with mode := .setup, pendingPreset := none } ∧
          t.stab.state = .off ∧ t.stab.reason = .setup ∧
          t.stab.yaw.base = s.stab.yaw.base ∧ t.stab.pitch.base = s.stab.pitch.base ∧
          t.head = (if s.stab.state = .off then s.head else s.head.hand (.shiftCmd ⟨0, 0⟩)) ∧
          t.body = replied .ok
            ((match s.zoom.pendingPreset with
              | some _ => u.body.hand (.notice (.preset .cancelled))
              | none => u.body).hand (.notice (.mode .setup .off .setup))) ∧
          sameOutside [.out, .head, .body, .zoom, .stab] s t)

/-- ACTION LENS_TABLE_CLEAR, allowed (R5). In SETUP it empties the lens table, whose entry count becomes 0,
with the reply OK; both cursors keep their values, a later READ ends at index 0 and a later WRITE fits at
index 0 alone. In RUN it is refused with WRONG_MODE and the table is unchanged. -/
def Obligations.LensTableClear : Prop :=
  ∀ (s : State) (seq : Byte) (src : Source) (tag : Byte) (n : Nat),
    s.takesCommand seq src [256] n = true →
    let u := s.taken .command seq n
    match s.zoom.mode with
    | .run =>
      exec (.lensTableClear seq src tag) s = .next { u with body := u.body.hand (.reply tag .wrongMode []) }
    | .setup =>
      ∃ t, exec (.lensTableClear seq src tag) s = .next t ∧
        t = { u with zoom := { s.zoom with lens := [] }, body := u.body.hand (.reply tag .ok []) } ∧
        t.mgmt.cursor0 = s.mgmt.cursor0 ∧ t.mgmt.cursor1 = s.mgmt.cursor1 ∧
        t.tableEnd .lens = 0 ∧ ∀ c m, t.writeFits .lens c m = true ↔ c = 0 ∧ m ≤ 32

/-- The interpolation service over a valid lens table: an entry's own values at its position, the first
entry's below the table and the last's above it, and between two entries gain and focal length plus a
truncated increment and the smaller travel limit, each result between its two entry values. -/
def Obligations.LensInterpolation : Prop :=
  ∀ (l : List LensEntry) (z : Nat), lensTableValid l = true →
    (∀ e, l.head? = some e → z < e.z → lensValues l z = ⟨e.gain, e.focal, e.travel⟩) ∧
    (∀ e, l.getLast? = some e → e.z < z → lensValues l z = ⟨e.gain, e.focal, e.travel⟩) ∧
    (∀ e ∈ l, e.z = z → lensValues l z = ⟨e.gain, e.focal, e.travel⟩) ∧
    ∀ i e f, l[i]? = some e → l[i + 1]? = some f → e.z < z → z < f.z →
      let between (a b : Nat) : Int :=
        (a : Int) + Int.tdiv (((b : Int) - a) * ((z : Int) - e.z)) ((f.z : Int) - e.z)
      ((lensValues l z).gain : Int) = between e.gain f.gain ∧
      ((lensValues l z).focal : Int) = between e.focal f.focal ∧
      (lensValues l z).travel = min e.travel f.travel ∧
      min e.gain f.gain ≤ (lensValues l z).gain ∧ (lensValues l z).gain ≤ max e.gain f.gain ∧
      min e.focal f.focal ≤ (lensValues l z).focal ∧ (lensValues l z).focal ≤ max e.focal f.focal

/-! ### Audio unit -/

/-- AUDIO_IN taken with `n` missed: `n` packets of zeros while the silence timer runs (R56), then the
packet, each processed by R55: on every track the gain of its input, rounded and saturated, with the clip
flag set by a saturation (R59); the limiter alone or in its linked pair, which only lowers the gain (R62,
R64); the output appended to the FIFO, the oldest of 4096 lost and counted (R68); the meter accumulator,
and at the tenth packet the level, found from the thresholds' formula, and the peak hold with its hold and
rise counts (R65, R67); then one step of each gain index (R61), the release of each limiter (R63), and one
MONITOR packet of the 48 mixed pairs (R71). The timers restart, the gap indicator and count follow `n`
(R57), and the clip indicators are those of the packet taken (R60). Nothing else changes. -/
def Obligations.AudioInTaken : Prop :=
  ∀ (s : State) (seq : Byte) (samples : List InputSamples) (n : Nat),
    samples.length = 48 → s.takes .audioIn seq n = true →
    let it := s.items.audio
    let input (t : Four) : Four := Four.ofIdx (it.assign.get t - 1)
    let other (t : Four) : Four := match t with | .i1 => .i2 | .i2 => .i1 | .i3 => .i4 | .i4 => .i3
    let linked (t : Four) : Bool :=
      (match t with | .i1 | .i2 => it.link12 | .i3 | .i4 => it.link34) && it.limitOn.get t &&
        it.limitOn.get (other t)
    let held (v : Int) : Int := max (-8388608) (min 8388607 v)
    let cut (g : Nat) (y : Int) : Nat :=
      if (Int.tdiv (y * g) 65536).natAbs ≤ it.limitTh then g else it.limitTh * 65536 / y.natAbs
    let meterOf (peak : Nat) : Nat :=
      ((List.range 60).filter (fun j => decide ((peak + 1) ^ 20 * 10 ^ (j + 1) ≤ 8388607 ^ 20))).length
    let processed (a b : Audio) (x : Nat → Quad Int) (pairs : List (Int × Int)) : Prop :=
      ∃ g : Nat → Four → Nat,
        let staged (k : Nat) (t : Four) : Int :=
          roundDiv ((x k).get (input t) * (a.gainTable.getD (a.gainNow.get (input t)) 0 : Nat)) 65536
        let y (k : Nat) (t : Four) : Int := held (staged k t)
        let z (k : Nat) (t : Four) : Int :=
          if it.limitOn.get t = true then Int.tdiv (y k t * g (k + 1) t) 65536 else y k t
        let peak (t : Four) : Nat :=
          (List.range 48).foldl (fun p k => max p (z k t).natAbs) (a.peakAcc.get t)
        let mix (gain : Quad Nat) (k : Nat) : Int :=
          held (roundDiv (z k .i1 * gain.q1 + z k .i2 * gain.q2 + z k .i3 * gain.q3 + z k .i4 * gain.q4)
            65536)
        let lost (t : Four) : Nat := (a.fifo.get t).length + 48 - 4096
        (∀ t, g 0 t = a.limGain.get t) ∧
        (∀ k t, k < 48 → g (k + 1) t =
          if linked t = true then
            let m := min (g k t) (g k (other t))
            min (cut m (y k t)) (cut m (y k (other t)))
          else if it.limitOn.get t = true then cut (g k t) (y k t)
          else g k t) ∧
        b =
          { a with
            gainNow := b.gainNow, limGain := b.limGain, clip := b.clip, peakAcc := b.peakAcc
            period := b.period, meter := b.meter, peak := b.peak, holdCount := b.holdCount
            riseCount := b.riseCount, fifo := b.fifo, overflow := b.overflow } ∧
        (∀ j, b.gainNow.get j =
          if a.gainNow.get j < it.inGain.get j then a.gainNow.get j + 1
          else if it.inGain.get j < a.gainNow.get j then a.gainNow.get j - 1
          else a.gainNow.get j) ∧
        (∀ t,
          b.limGain.get t =
            (if it.limitOn.get t = true then min 65536 (g 48 t + it.limitRel) else g 48 t) ∧
          (b.clip.get t = true ↔ ∃ k, k < 48 ∧ y k t ≠ staged k t) ∧
          ((a.fifo.get t).length ≤ 4096 →
            b.fifo.get t = (a.fifo.get t ++ (List.range 48).map (fun k => z k t)).drop (lost t) ∧
            b.overflow.get t =
              (if lost t = 0 then a.overflow.get t else min 65535 (a.overflow.get t + lost t))) ∧
          if a.period < 9 then
            b.period = a.period + 1 ∧ b.peakAcc.get t = peak t ∧ b.meter.get t = a.meter.get t ∧
            b.peak.get t = a.peak.get t ∧ b.holdCount.get t = a.holdCount.get t ∧
            b.riseCount.get t = a.riseCount.get t
          else
            let m := meterOf (peak t)
            b.period = 0 ∧ b.peakAcc.get t = 0 ∧ b.meter.get t = some m ∧
            (b.peak.get t, b.holdCount.get t, b.riseCount.get t) =
              match a.peak.get t with
              | none => (some m, 100, 5)
              | some h =>
                if m < h then (some m, 100, 5)
                else if a.holdCount.get t ≠ 0 then (some h, a.holdCount.get t - 1, a.riseCount.get t)
                else if a.riseCount.get t ≤ 1 then (some (min (h + 1) m), 0, 5)
                else (some h, 0, a.riseCount.get t - 1)) ∧
        pairs = (List.range 48).map (fun k => (mix it.monL k, mix it.monR k))
    let fills : Nat := if s.audio.silence.isRunning = true then n else 0
    ∃ (a : Nat → Audio) (pairs : Nat → List (Int × Int)),
      a 0 = s.audio ∧
      (∀ k, k < fills → processed (a k) (a (k + 1)) (fun _ => .fill 0) (pairs k)) ∧
      processed (a fills) (a (fills + 1)) (fun k => (samples.getD k (.fill 0#24)).map BitVec.toInt)
        (pairs fills) ∧
      exec (.audioIn seq samples) s = .next { s.taken .audioIn seq n with
        audio :=
          { a (fills + 1) with
            clipPresent := (a (fills + 1)).clip, silence := .running 5, meterLapse := .running 100
            gapPresent := decide (0 < n), gapCount := sat16 (s.audio.gapCount + n) }
        body := (List.range (fills + 1)).foldl (fun b k => b.hand (.monitor (pairs k))) s.body }

/-- The limiter of one track on one sample, from any gain: an output never beyond the
threshold, a gain that only falls, left as it is where no reduction is needed; a limiter that is off
passes the sample and keeps its gain. -/
def Obligations.LimiterHoldsThreshold : Prop :=
  ∀ (th g : Nat) (y : Int),
    limitOne false th g y = (g, y) ∧
    (limitOne true th g y).2.natAbs ≤ th ∧ (limitOne true th g y).1 ≤ g ∧
    (limitOne true th g y).2 = Int.tdiv (y * (limitOne true th g y).1) 65536 ∧
    if (Int.tdiv (y * g) 65536).natAbs ≤ th then (limitOne true th g y).1 = g
    else (limitOne true th g y).1 = th * 65536 / y.natAbs

/-- The cadence (R69): for each rate code the samples of one frame at each phase, the phase being the frame
number mod 5, and their sum over any five frames in a row. -/
def Obligations.CadenceTable : Prop :=
  (∀ (r : RateCode) (f : Nat),
    cadence r f =
      (match r with
        | .r23976 => [2002, 2002, 2002, 2002, 2002]
        | .r24 => [2000, 2000, 2000, 2000, 2000]
        | .r25 => [1920, 1920, 1920, 1920, 1920]
        | .r2997 => [1602, 1601, 1602, 1601, 1602]
        | .r30 => [1600, 1600, 1600, 1600, 1600]
        | .r50 => [960, 960, 960, 960, 960]
        | .r5994 => [801, 801, 801, 801, 800]
        | .r60 => [800, 800, 800, 800, 800]).getD (f % 5) 0) ∧
  ∀ (r : RateCode) (f : Nat),
    cadence r f + cadence r (f + 1) + cadence r (f + 2) + cadence r (f + 3) + cadence r (f + 4) =
      match r with
      | .r23976 => 10010
      | .r24 => 10000
      | .r25 => 9600
      | .r2997 => 8008
      | .r30 => 8000
      | .r50 => 4800
      | .r5994 => 4004
      | .r60 => 4000

/-! ### Record assembler -/

/-- FRAME_MARK taken, and the mark silence timer's expiry (R81, R84, R86, R87). A gap in the numbers at one
rate sets ESSENCE_GAP and is marked in every open part. The open frame closes: its cadence of samples
leaves every FIFO, and its unit, where one is open, takes them padded, AUDIO_SHORT, INCOMPLETE, and the
metadata as they stand (R83). The unit is disposed of by record state (R85): in STANDBY it joins the ring
at its capacity, the oldest leaving (R88); in STARTING and RECORDING it is offered to each open part, A
first, or, DROPPED, marks a GAP of 1; else it is released. In RECORDING the essence loss count follows
(R96). A pending stop, the loss limit, and a discontinuity, in that order of precedence, stop the recording
now that the close is complete (R93); without one the parts and slots stand as the offers left them. A
discontinuity empties the ring. Outside IDLE a new unit with one block is open; in IDLE, with no unit and
no break, the mark and the samples are all that changes. After the timer's expiry no frame is open. The
order of these steps is the model's reading (log entry 13), and so is the wait of a stop for a frame
without a unit (log entry 14). -/
def Obligations.FrameMarksAndSilence : Prop :=
  ∀ s : State,
    let taken (f : OpenFrame) : Audio :=
      { s.audio with fifo := s.audio.fifo.map (List.drop (cadence f.rate f.frame)) }
    let closed (f : OpenFrame) (u : RecordUnit) : RecordUnit :=
      let count := cadence f.rate f.frame
      { u with
        audio :=
          if u.dropped = true then u.audio
          else s.audio.fifo.map (fun z => (z ++ List.replicate count 0).take count)
        audioShort :=
          u.audioShort || (!u.dropped && Four.all.any (fun t => decide ((s.audio.fifo.get t).length < count)))
        incomplete := u.incomplete || !u.main.last || (decide (u.proxy.bytes ≠ []) && !u.proxy.last)
        z := s.zoom.report.z
        focal := s.zoom.focalNow
        stab := s.stab.live
        faults := Group.all.filter (fun g => (s.sup.group g).summary) }
    let stopped (r : RecReason) (t : State) : Prop :=
      t.recorder.pendingStop = none ∧ t.recorder.stopReason = some r ∧ (∀ x, t.partOpened x = false) ∧
      t.recorder.state =
        if ∀ q ∈ t.recorder.parts, q.phase = .ended then
          if s.items.record.preRecSeconds = 0 then .idle else .standby
        else .stopping
    let active : Prop := s.recorder.state = .starting ∨ s.recorder.state = .recording
    let goesOn (w t : State) (reason : Option RecReason) : Prop :=
      match reason with
      | some r => stopped r t
      | none =>
        t.recorder.state = s.recorder.state ∧ t.recorder.pendingStop = w.recorder.pendingStop ∧
        t.recorder.stopReason = s.recorder.stopReason ∧ t.recorder.parts = w.recorder.parts ∧
        t.slotA = w.slotA ∧ t.slotB = w.slotB
    let closes (b : State) (f : OpenFrame) (broken : Bool) (t : State) : Prop :=
      t.audio = taken f ∧
      let after (r : Option RecReason) : Option RecReason :=
        if broken = true then some (r.getD .frameDiscontinuity) else r
      match s.recorder.assembly.bind s.recorder.store.find with
      | none =>
        t.recorder.lossCount = s.recorder.lossCount ∧
        goesOn b t (if s.recorder.state = .starting ∨ s.recorder.state = .recording then
          after s.recorder.pendingStop else none)
      | some u =>
        (s.storeSound → u.refs = 1 →
          s.recorder.state = .idle ∨ s.recorder.state = .stopping ∨ u.dropped = true →
          t.recorder.store.find u.id = none) ∧
        (¬active → t.recorder.lossCount = s.recorder.lossCount ∧ goesOn b t none) ∧
        (active →
          let w : State :=
            if u.dropped = true then
              { b with
                recorder :=
                  { b.recorder with
                    parts := b.recorder.parts.map (fun p =>
                      if p.phase = .opened then p.addMark ⟨.gap 1, u.frame⟩ else p) } }
            else
              ([SlotId.a, .b].filter b.partOpened).foldl (fun v x => v.offer u.id x)
                { b with
                  audio := taken f
                  recorder :=
                    { b.recorder with store := b.recorder.store.modify u.id (fun _ => closed f u) } }
          let loss : Nat :=
            if s.recorder.state = .starting then s.recorder.lossCount
            else if u.tookEssence = true then 0
            else s.recorder.lossCount + 1
          t.recorder.lossCount = loss ∧
          goesOn w t (after (match w.recorder.pendingStop with
            | some r => some r
            | none =>
              if s.recorder.state = .recording ∧ u.tookEssence = false ∧
                  s.items.record.essenceLossFrames ≤ loss then some .essenceLost
              else none))) ∧
        (s.recorder.state = .standby → broken = false → u.dropped = false →
          let room := (match b.recorder.lastMark with
            | some m => s.items.record.preRecSeconds * nominalRate m.rate
            | none => 0) - 1
          s.storeSound → 0 < s.recorder.store.freeCount →
            t.recorder.state = .standby ∧
            t.recorder.ring = s.recorder.ring.drop (s.recorder.ring.length - room) ++ [u.id] ∧
            t.recorder.store.find u.id = some (closed f u) ∧
            ∀ j ∈ s.recorder.ring.take (s.recorder.ring.length - room), ∀ v,
              s.recorder.store.find j = some v → v.refs = 1 → t.recorder.store.find j = none)
    (∀ (seq : Byte) (frame : BitVec 32) (tc : Timecode) (rate : RateCode) (n : Nat),
      s.takes .frameMark seq n = true →
      let mark : OpenFrame := ⟨frame.toNat, tc, rate⟩
      let broken : Bool :=
        match s.recorder.lastMark with
        | some l => decide (rate ≠ l.rate ∨ frame.toNat ≤ l.frame)
        | none => false
      let gap : Nat :=
        match s.recorder.lastMark with
        | some l => if rate = l.rate then frame.toNat - l.frame - 1 else 0
        | none => 0
      let b : State :=
        { s.taken .frameMark seq n with
          recorder :=
            { s.recorder with
              lastMark := some mark, markSilence := .running 200
              essenceGap := s.recorder.essenceGap || decide (0 < gap)
              parts :=
                if gap = 0 then s.recorder.parts
                else s.recorder.parts.map (fun p =>
                  if p.phase = .opened then p.addMark ⟨.gap gap, frame.toNat⟩ else p) } }
      ∃ t, exec (.frameMark seq frame tc rate) s = .next t ∧
        t.recorder.lastMark = some mark ∧ t.recorder.openFrame = some mark ∧
        t.recorder.markSilence = .running 200 ∧ t.recorder.essenceGap = b.recorder.essenceGap ∧
        (match s.recorder.openFrame with
          | some f => closes b f broken t
          | none =>
            t.audio = s.audio ∧ t.recorder.lossCount = s.recorder.lossCount ∧
            goesOn b t (if broken = true ∧ active ∧ s.recorder.pendingStop = none then
              some .frameDiscontinuity else none)) ∧
        (broken = true → t.recorder.ring = []) ∧
        (t.recorder.state ≠ .idle → t.recorder.assembly = some s.recorder.store.nextId ∧
          (s.storeSound → 0 < s.recorder.store.freeCount →
            ∃ block, t.recorder.store.find s.recorder.store.nextId =
              some ⟨s.recorder.store.nextId, frame.toNat, tc, rate, ⟨[], 0, false⟩, ⟨[], 0, false⟩, .fill [], 0,
                none, .off, [], false, false, false, false, false, [block], 1⟩)) ∧
        (s.recorder.state = .idle → s.recorder.assembly = none → broken = false → gap = 0 →
          t = { b with
            audio := match s.recorder.openFrame with | some f => taken f | none => s.audio
            recorder := { b.recorder with openFrame := some mark } })) ∧
    ∀ ms, s.recorder.markSilence = .running ms →
      let b : State := { s with out := [], recorder := { s.recorder with markSilence := .expired } }
      ∃ t, exec .markSilenceTimerExpiry s = .next t ∧
        t.recorder.openFrame = none ∧ t.recorder.markSilence = .expired ∧
        t.recorder.lastMark = s.recorder.lastMark ∧
        match s.recorder.openFrame with
        | none => t = b
        | some f =>
          closes b f false t ∧
          (∀ id u, s.recorder.assembly = some id → s.recorder.store.find id = some u →
            t.recorder.assembly = none)

/-- ESSENCE taken, by the steps of R82. In IDLE nothing is kept. Outside it, with no unit open, for another
frame, after the stream's last flag or below its count, the packet is discarded and counted; into a DROPPED
or OVERSIZE unit it is passed over. A report of missed packets flags the unit INCOMPLETE unless it is
DROPPED. Else the bytes join the stream's own, and count, last flag and INCOMPLETE follow: within the
blocks held; in a new block from the free list; in one freed by evicting the oldest ring unit (R78); cut,
with OVERSIZE, at 256 blocks (R80); or, where no block can be had, the unit becomes DROPPED, its blocks
return and its essence is gone. Other units keep what they hold. That a packet whose storing drops its unit
does not count as taken is the model's reading (log entry 16). -/
def Obligations.EssenceTaken : Prop :=
  ∀ (s : State) (seq : Byte) (frame : BitVec 32) (st : Stream) (last : Bool) (offset : BitVec 32)
    (bytes : List Byte) (n : Nat), bytes.length ≤ 4086 → s.takes .essence seq n = true →
    let r := s.recorder
    let discarded : Nat := sat16 (r.essenceDiscarded + 1)
    (r.state = .idle → n = 0 ∨ r.assembly = none →
      exec (.essence seq frame st last offset bytes) s = .next (s.taken .essence seq n)) ∧
    (r.state ≠ .idle →
      (r.assembly = none →
        exec (.essence seq frame st last offset bytes) s = .next { s.taken .essence seq n with
          recorder := { r with essenceDiscarded := discarded } }) ∧
      ∀ id u, r.assembly = some id → r.store.find id = some u →
        let missed : RecordUnit := { u with incomplete := u.incomplete || (!u.dropped && decide (0 < n)) }
        let holed : RecordUnit :=
          { missed with incomplete := missed.incomplete || decide ((u.stream st).count < offset.toNat) }
        let filled (k : Nat) (ended : Bool) : RecordUnit :=
          { holed.setStream st ⟨(u.stream st).bytes ++ bytes.take k, offset.toNat + k, ended⟩ with
            tookEssence := true }
        ∃ t, exec (.essence seq frame st last offset bytes) s = .next t ∧
          t = { s.taken .essence seq n with
            recorder :=
              { r with
                store := t.recorder.store, essenceDiscarded := t.recorder.essenceDiscarded
                ring := t.recorder.ring, ringEvicted := t.recorder.ringEvicted
                droppedUnits := t.recorder.droppedUnits } } ∧
          let unitIs (v : RecordUnit) : Prop := t.recorder.store.find id = some v
          let noEviction : Prop := t.recorder.ring = r.ring ∧ t.recorder.ringEvicted = r.ringEvicted
          let others (gone : List Nat) : Prop :=
            ∀ j, j ≠ id → j ∉ gone → t.recorder.store.find j = r.store.find j
          let freeIs (k : Nat) : Prop := t.recorder.store.freeCount = k
          if frame.toNat ≠ u.frame then
            t.recorder.essenceDiscarded = discarded ∧ unitIs missed ∧ others [] ∧
            freeIs r.store.freeCount ∧ noEviction ∧ t.recorder.droppedUnits = r.droppedUnits
          else if u.dropped = true ∨ u.oversize = true then
            t.recorder.essenceDiscarded = r.essenceDiscarded ∧ unitIs missed ∧ others [] ∧
            freeIs r.store.freeCount ∧ noEviction ∧ t.recorder.droppedUnits = r.droppedUnits
          else if (u.stream st).last = true ∨ offset.toNat < (u.stream st).count then
            t.recorder.essenceDiscarded = discarded ∧ unitIs missed ∧ others [] ∧
            freeIs r.store.freeCount ∧ noEviction ∧ t.recorder.droppedUnits = r.droppedUnits
          else
            t.recorder.essenceDiscarded = r.essenceDiscarded ∧
            if bytes.length ≤ u.space then
              unitIs (filled bytes.length last) ∧ others [] ∧ freeIs r.store.freeCount ∧ noEviction ∧
              t.recorder.droppedUnits = r.droppedUnits
            else if 256 ≤ u.blocks.length then
              unitIs { filled u.space false with oversize := true } ∧ others [] ∧
              freeIs r.store.freeCount ∧ noEviction ∧ t.recorder.droppedUnits = r.droppedUnits
            else
              s.storeSound →
              let grown : Prop :=
                t.recorder.droppedUnits = r.droppedUnits ∧
                ∃ b, unitIs { filled bytes.length last with blocks := u.blocks ++ [b] }
              let dropped : Prop :=
                t.recorder.droppedUnits = sat16 (r.droppedUnits + 1) ∧
                unitIs
                  { holed with
                    dropped := true, blocks := [], main := { u.main with bytes := [] }
                    proxy := { u.proxy with bytes := [] } }
              if 0 < r.store.freeCount then
                grown ∧ others [] ∧ freeIs (r.store.freeCount - 1) ∧ noEviction
              else
                match r.ring with
                | [] => dropped ∧ others [] ∧ freeIs u.blocks.length ∧ noEviction
                | old :: rest =>
                  t.recorder.ring = rest ∧ t.recorder.ringEvicted = sat16 (r.ringEvicted + 1) ∧
                  others [old] ∧
                  ∀ v, r.store.find old = some v →
                    if v.refs = 1 ∧ v.blocks ≠ [] then
                      grown ∧ t.recorder.store.find old = none ∧ freeIs (v.blocks.length - 1)
                    else
                      dropped ∧ freeIs u.blocks.length ∧
                      (v.refs ≠ 1 → t.recorder.store.find old = some { v with refs := v.refs - 1 }))

/-- A record start at rest, by ACTION REC_START, allowed, and by a rising edge of the REC button (R90), each
with its next state. With no participating slot ready the action is refused, and the button sends a RECORD
notice NO_MEDIA and changes nothing of the recording. Else steps 1 to 3 of R91 are made: the clip counter
advances, 9999 to 1, its number goes to the cell write (R97, R198), one part numbered 1 is open on each
participating slot, OPENING with its PART_OPEN on the port (R111), the state is STARTING and the lamp
blinks. Step 4 then passes the units of the ring, oldest first, each offered to every part and then
released, and the ring is empty. The action's reply is OK. That the part of a slot that does not join is
discarded too is the model's reading (log entry 31), and so is that the units go on being offered after a
stop (log entry 15), and that a PANEL reaches the zoom drive and the stabiliser first (log entry 8). -/
def Obligations.RecordStart : Prop :=
  ∀ s : State, (s.recorder.state = .idle ∨ s.recorder.state = .standby) →
    let ready (x : SlotId) : Prop := (s.slot x).state = .ready ∧ (s.slot x).hold = false
    let joins (x : SlotId) : Prop :=
      ready x ∧ (s.items.record.mode = .dual ∨ x = s.items.record.activeSlot)
    let clip : Nat := if s.recorder.clipCounter = 9999 then 1 else s.recorder.clipCounter + 1
    let opened (x : SlotId) : Slot :=
      let c := s.slot x
      if joins x then
        { c with
          state := .opening
          part := some ⟨clip, 1, 0, 0, 0, false, false, .stop, none, none⟩
          requestNumber := c.requestNumber + 1
          request := some ⟨.partOpen, c.requestNumber + 1⟩
          slowTimer := .running 500
          requestTimer := .running 2000 }
      else { c with part := none }
    let request (x : SlotId) : List Emission :=
      if joins x then [.slotRequest x ((s.slot x).requestNumber + 1) (.partOpen clip 1)] else []
    let part (x : SlotId) : List ClipPart := if joins x then [⟨clip, 1, x, .opened, 0, [], 0⟩] else []
    let told (x : SlotId) (b : LinkCtl) : LinkCtl :=
      if joins x then b.hand (.notice (.slot x .opening .partOpen)) else b
    let begun (u : State) : State :=
      { u with
        slotA := opened .a
        slotB := opened .b
        out := request .a ++ request .b
        recorder :=
          { u.recorder with
            clipCounter := clip, parts := part .b ++ part .a, ring := [], state := .starting, lamp := .blink }
        scene :=
          { s.scene with
            cell := if s.scene.cellWrite = none then none else s.scene.cell
            cellWrite := if s.scene.cellWrite = none then some clip else s.scene.cellWrite
            cellPending := if s.scene.cellWrite = none then s.scene.cellPending else some clip
            op := match s.scene.op with
              | .recallScene k c _ => .recallScene k c true
              | op => op }
        body := (told .b (told .a u.body)).hand (.notice (.record .starting clip .start))
        head := if s.recorder.lamp = .blink then u.head else u.head.hand (.tally .blink) }
    let started (u : State) : State := s.recorder.ring.foldl State.passRingUnit (begun u)
    let kept (u : State) : Prop :=
      (started u).recorder.ring = [] ∧ (started u).recorder.clipCounter = clip ∧
      (started u).scene = (begun u).scene
    (∀ (seq : Byte) (src : Source) (tag : Byte) (n : Nat), s.takesCommand seq src [128, 129] n = true →
      let u := s.taken .command seq n
      if ¬joins .a ∧ ¬joins .b then
        exec (.recStart seq src tag) s = .next { u with body := u.body.hand (.reply tag .refusedState []) }
      else
        exec (.recStart seq src tag) s =
          .next { started u with body := (started u).body.hand (.reply tag .ok []) } ∧ kept u) ∧
    ∀ (seq rocker buttons : Byte) (n : Nat), s.takes .panel seq n = true →
      s.recorder.recButton = .released → buttons.getLsbD 0 = true → buttons.getLsbD 1 = false →
      ∃ u : State,
        u = { s with zoom := u.zoom, stab := u.stab, head := u.head, body := u.body, out := []
                     recorder := { s.recorder with recButton := .pressed, markButton := .released } } ∧
        if ¬joins .a ∧ ¬joins .b then
          exec (.panel seq rocker buttons) s = .next { u with
            body := u.body.hand (.notice (.record s.recorder.state s.recorder.clipCounter .noMedia)) }
        else exec (.panel seq rocker buttons) s = .next (started u) ∧ kept u

/-- A stop in RECORDING with none pending, by ACTION REC_STOP, allowed, and by a rising edge of the REC
button (R93): with a frame open the stop waits for its close; with none open STOPPING is entered at once,
every open part begins to close, FULL where it was refused for space and STOP otherwise (R119), and a
recording whose parts have all ended ends in its rest state (R94). The action's reply is OK either way.
That the stop waits also for an open frame that holds no unit is the model's reading (log entry 14), and so
is that a PANEL reaches the zoom drive and the stabiliser first (log entry 8). -/
def Obligations.RecordStop : Prop :=
  ∀ s : State, s.recorder.state = .recording → s.recorder.pendingStop = none →
    let stopped (t : State) : Prop :=
      t.recorder.stopReason = some .operator ∧ t.recorder.pendingStop = none ∧
      t.recorder.state =
        (if s.recorder.parts.all (fun p => p.phase == .ended) then
          if s.items.record.preRecSeconds = 0 then .idle else .standby
         else .stopping) ∧
      (t.recorder.state = .stopping → t.recorder.lamp = .blink) ∧
      (t.recorder.state ≠ .stopping → t.recorder.lamp = .off) ∧
      (∀ x q, s.recorder.partOn x = some q → t.recorder.partOn x =
        some (if q.phase = .opened then { q with phase := .closing } else q)) ∧
      (∀ x, s.partOpened x = true → (s.slot x).state = .writing → (t.slot x).state = .closing) ∧
      ∀ x p, s.partOpened x = true → (s.slot x).part = some p →
        (t.slot x).part = some { p with closeReason := if p.spaceRefused = true then .full else .stop }
    (∀ (seq : Byte) (src : Source) (tag : Byte) (n : Nat), s.takesCommand seq src [136] n = true →
      let u := s.taken .command seq n
      (∀ f, s.recorder.openFrame = some f →
        exec (.recStop seq src tag) s = .next { u with
          recorder := { s.recorder with pendingStop := some .operator }
          body := u.body.hand (.reply tag .ok []) }) ∧
      (s.recorder.openFrame = none →
        ∃ t, exec (.recStop seq src tag) s = .next t ∧ stopped t ∧
          ∃ b, t.body = (b : LinkCtl).hand (.reply tag .ok []) ∧ b.state = .aligned ∧
            b.outSeq.q1 = s.body.outSeq.q1)) ∧
    ∀ (seq rocker buttons : Byte) (n : Nat), s.takes .panel seq n = true →
      s.recorder.recButton = .released → buttons.getLsbD 0 = true → buttons.getLsbD 1 = false →
      ∃ t, exec (.panel seq rocker buttons) s = .next t ∧
        (s.recorder.openFrame.isSome = true →
          t.recorder =
            { s.recorder with
              recButton := .pressed, markButton := .released, pendingStop := some .operator } ∧
          t.slotA = s.slotA ∧ t.slotB = s.slotB) ∧
        (s.recorder.openFrame = none → stopped t ∧ t.recorder.recButton = .pressed)

/-- A SHOT mark at the last mark's frame in every open part, by ACTION MARK, allowed, and by a rising edge
of the MARK button (R100). With no part open or no mark taken the action is refused and neither places a
mark. A PANEL with no edge of REC changes the kept levels and these marks alone of the recording. A list
takes a new mark after every mark whose frame number is not greater; a SHOT or FAULT mark it already holds
is not added again, and at 64 marks the new one is dropped and counted (R99). That REC is judged before
MARK is the model's reading (log entry 8). -/
def Obligations.MarkPlaced : Prop :=
  ∀ s : State,
    let marked (m : OpenFrame) : List ClipPart :=
      s.recorder.parts.map (fun p => if p.phase = .opened then p.addMark ⟨.shot, m.frame⟩ else p)
    let nowhere : Prop := s.recorder.lastMark = none ∨ ∀ p ∈ s.recorder.parts, p.phase ≠ .opened
    (∀ (seq : Byte) (src : Source) (tag : Byte) (n : Nat), s.takesCommand seq src [139] n = true →
      let u := s.taken .command seq n
      (∀ m, s.recorder.lastMark = some m → (∃ p ∈ s.recorder.parts, p.phase = .opened) →
        exec (.mark seq src tag) s = .next { u with
          recorder := { s.recorder with parts := marked m }, body := u.body.hand (.reply tag .ok []) }) ∧
      (nowhere →
        exec (.mark seq src tag) s = .next { u with body := u.body.hand (.reply tag .refusedState []) })) ∧
    (∀ (seq rocker buttons : Byte) (n : Nat), s.takes .panel seq n = true →
      let recEdge : Prop := s.recorder.recButton = .released ∧ buttons.getLsbD 0 = true
      let markEdge : Prop := s.recorder.markButton = .released ∧ buttons.getLsbD 1 = true
      ¬recEdge →
      ∃ t, exec (.panel seq rocker buttons) s = .next t ∧ t.slotA = s.slotA ∧ t.slotB = s.slotB ∧
        t.scene = s.scene ∧
        t.recorder =
          { s.recorder with
            recButton := if buttons.getLsbD 0 = true then .pressed else .released
            markButton := if buttons.getLsbD 1 = true then .pressed else .released
            parts := t.recorder.parts } ∧
        (∀ m, markEdge → s.recorder.lastMark = some m → t.recorder.parts = marked m) ∧
        (¬markEdge ∨ nowhere → t.recorder.parts = s.recorder.parts)) ∧
    ∀ (p : ClipPart) (m : ClipMark),
      let once : Bool := match m.kind with
        | .shot | .fault _ => true
        | .gap _ | .relay _ | .writeSkip _ _ => false
      (once = true ∧ m ∈ p.marks → p.addMark m = p) ∧
      (¬(once = true ∧ m ∈ p.marks) →
        (64 ≤ p.marks.length → p.addMark m = { p with marksLost := min (p.marksLost + 1) 65535 }) ∧
        (p.marks.length < 64 →
          ∃ before later, p.marks = before ++ later ∧ p.addMark m = { p with marks := before ++ m :: later } ∧
            (∀ k ∈ before, k.frame ≤ m.frame) ∧
            (p.marks.Pairwise (fun a b => a.frame ≤ b.frame) → ∀ k ∈ later, m.frame < k.frame)))

/-- Record triggers ignored (R95): in STARTING and STOPPING, and in RECORDING with a stop pending, a rising
edge of the REC button and each of the two actions count in TRIGGER_IGNORED and leave the recording as it
was, the actions replied REFUSED_STATE. Outside those states REC_START in RECORDING and REC_STOP in IDLE or
STANDBY are refused and not counted. -/
def Obligations.TriggersIgnored : Prop :=
  ∀ s : State,
    let ignoring : Prop :=
      s.recorder.state = .starting ∨ s.recorder.state = .stopping ∨
      (s.recorder.state = .recording ∧ s.recorder.pendingStop.isSome = true)
    let counted : Nat := min (s.recorder.triggerIgnored + 1) 65535
    (∀ (seq : Byte) (src : Source) (tag : Byte) (n : Nat),
      let u := s.taken .command seq n
      let refused : State := { u with body := u.body.hand (.reply tag .refusedState []) }
      (s.takesCommand seq src [128, 129] n = true →
        (ignoring →
          exec (.recStart seq src tag) s =
            .next { refused with recorder := { s.recorder with triggerIgnored := counted } }) ∧
        (s.recorder.state = .recording → s.recorder.pendingStop = none →
          exec (.recStart seq src tag) s = .next refused)) ∧
      (s.takesCommand seq src [136] n = true →
        (ignoring →
          exec (.recStop seq src tag) s =
            .next { refused with recorder := { s.recorder with triggerIgnored := counted } }) ∧
        (s.recorder.state = .idle ∨ s.recorder.state = .standby →
          exec (.recStop seq src tag) s = .next refused))) ∧
    ∀ (seq rocker buttons : Byte) (n : Nat), s.takes .panel seq n = true → ignoring →
      s.recorder.recButton = .released → buttons.getLsbD 0 = true →
      ∃ t, exec (.panel seq rocker buttons) s = .next t ∧
        t.recorder.triggerIgnored = counted ∧ t.recorder.state = s.recorder.state ∧
        t.recorder.pendingStop = s.recorder.pendingStop ∧ t.recorder.stopReason = s.recorder.stopReason ∧
        t.recorder.clipCounter = s.recorder.clipCounter ∧ t.slotA = s.slotA ∧ t.slotB = s.slotB

/-! ### Card slots -/

/-- The presence line of a slot (R109, R121, R123). A level already held is ignored. An insertion in EMPTY
issues MOUNT and enters MOUNTING with reason INSERTED. A removal empties the slot. With a part active on
it, hold is set, the write in flight and the queue are released and count as lost, nothing is reserved, the
part is DAMAGED and has ended; a continuation lost before it opened is the second relay failure. When that
leaves every part ended the recording ends in its rest state with the reason that its state gives; else it
goes on, save that the relay failure stops it, at once or, with a frame open, at its close (log entry 14
for a frame without a unit). -/
def Obligations.CardLines : Prop :=
  ∀ (s : State) (x : SlotId), s.inReset = false →
    let c := s.slot x
    (c.line = true → exec (.cardInsertion x) s = .next { s with out := [] }) ∧
    (c.line = false → exec (.cardRemoval x) s = .next { s with out := [] }) ∧
    (c.line = false → c.state = .empty →
      exec (.cardInsertion x) s = .next ({ s with
        out := [.slotRequest x (c.requestNumber + 1) .mount]
        body := s.body.hand (.notice (.slot x .mounting .inserted)) }.setSlot x
        { c with
          line := true, cardPresent := true, state := .mounting, requestNumber := c.requestNumber + 1
          request := some ⟨.mount, c.requestNumber + 1⟩, mountTimer := .running 5000 })) ∧
    (c.line = true →
      let gone : Slot :=
        { c with
          line := false, cardPresent := false, free := 0, state := .empty, request := none
          slowTimer := .stopped, requestTimer := .stopped, mountTimer := .stopped, slowPresent := false }
      match c.state with
      | .empty => exec (.cardRemoval x) s = .next ({ s with out := [] }.setSlot x gone)
      | .mounting | .ready | .full =>
        exec (.cardRemoval x) s = .next ({ s with
          out := [], body := s.body.hand (.notice (.slot x .empty .removed)) }.setSlot x gone)
      | .opening | .writing | .closing =>
        let exhausted : Prop :=
          c.state = .opening ∧ 1 < (c.part.map SlotPart.number).getD 0 ∧
          (s.recorder.state = .starting ∨ s.recorder.state = .recording) ∧ s.recorder.pendingStop = none
        ∃ t, exec (.cardRemoval x) s = .next t ∧
          t.slot x =
            { gone with
              hold := true, queue := [], reserved := 0, inFlight := none
              part := c.part.map (fun p =>
                { p with
                  damaged := true
                  lost := p.lost + c.queue.length + (if c.inFlight.isSome = true then 1 else 0)
                  closeReason :=
                    if exhausted ∧ s.recorder.openFrame = none ∧ s.partOpened x = true then
                      if p.spaceRefused = true then .full else .stop
                    else p.closeReason }) } ∧
          t.partOpened x = false ∧
          (∀ q, s.recorder.partOn x = some q → t.recorder.partOn x = some { q with phase := .ended }) ∧
          (t.recorder.assembly = s.recorder.assembly →
            t.recorder.store =
              (match c.inFlight with
                | some id => s.recorder.store.release id
                | none => s.recorder.store).releaseAll c.queue) ∧
          (s.recorder.state.recording? = true →
            if ∀ q ∈ t.recorder.parts, q.phase = .ended then
              t.recorder.state = (if s.items.record.preRecSeconds = 0 then .idle else .standby) ∧
              t.recorder.lamp = .off ∧ t.recorder.pendingStop = none ∧
              t.recorder.stopReason =
                some (if exhausted then .relayExhausted
                  else match s.recorder.state with
                    | .starting => s.recorder.pendingStop.getD .openFailed
                    | .recording => s.recorder.pendingStop.getD .mediaLost
                    | _ => s.recorder.stopReason.getD .operator)
            else if ¬exhausted then
              t.recorder.state = s.recorder.state ∧ t.recorder.pendingStop = s.recorder.pendingStop
            else if s.recorder.openFrame.isSome = true then
              t.recorder.state = s.recorder.state ∧ t.recorder.pendingStop = some .relayExhausted
            else t.recorder.state = .stopping ∧ t.recorder.stopReason = some .relayExhausted))

/-- The end of a MOUNT, and CLEAR_HOLD. MOUNT completed OK gives the free blocks, and READY from 288 of
them up, else FULL (R110); ended by ERROR or by the mount timeout (R106) it leaves the slot EMPTY with hold
(R108) and MEDIA_ERROR (R124) set. CLEAR_HOLD of slot 0 or 1, allowed (R190), clears the flag, and mounts
again a card in an EMPTY slot (R108); any other slot is refused with BAD_COMMAND. -/
def Obligations.MountsAndHolds : Prop :=
  ∀ (s : State) (x : SlotId),
    let c := s.slot x
    let ended : Slot :=
      { c with
        request := none, slowTimer := .stopped, requestTimer := .stopped, mountTimer := .stopped
        slowPresent := false }
    let failed : State :=
      { s with out := [], body := s.body.hand (.notice (.slot x .empty .mountFailed)) }.setSlot x
        { ended with state := .empty, free := 0, hold := true, mediaError := true }
    (∀ (number : Byte) (free : BitVec 32), s.inReset = false → c.request = some ⟨.mount, number⟩ →
      let st : SlotState := if 288 ≤ free.toNat then .ready else .full
      exec (.mountCompletion x number true free) s = .next ({ s with
        out := [], body := s.body.hand (.notice (.slot x st .mounted)) }.setSlot x
        { ended with free := free.toNat, state := st }) ∧
      exec (.mountCompletion x number false free) s = .next failed) ∧
    (∀ ms, c.mountTimer = .running ms → exec (.mountTimeout x) s = .next failed) ∧
    ∀ (seq : Byte) (src : Source) (tag slot : Byte) (n : Nat),
      let u := s.taken .command seq n
      (slot.toNat = x.code → s.takesCommand seq src [166 + slot.toNat] n = true →
        exec (.clearHold seq src tag slot) s = .next (
          if c.state = .empty ∧ c.cardPresent = true then
            { u with
              out := [.slotRequest x (c.requestNumber + 1) .mount]
              body :=
                (u.body.hand (.notice (.slot x .mounting .remount))).hand (.reply tag .ok []) }.setSlot x
              { c with
                hold := false, state := .mounting, requestNumber := c.requestNumber + 1
                request := some ⟨.mount, c.requestNumber + 1⟩, mountTimer := .running 5000 }
          else { u with body := u.body.hand (.reply tag .ok []) }.setSlot x { c with hold := false })) ∧
      (2 ≤ slot.toNat → s.takesCommand seq src [] n = true →
        exec (.clearHold seq src tag slot) s = .next { u with body := u.body.hand (.reply tag .badCommand []) })

/-- PART_OPEN completed (R112). With OK a block of F goes to the opening, the slot enters WRITING where its
part is open and CLOSING where it has begun to close, STARTING moves to RECORDING (R92), and the first
queued unit, or the PART_CLOSE of a closing part with none, is issued. With ERROR the slot is READY with
MEDIA_ERROR set, its queue is released and counts as lost, the part is DAMAGED and stands as it was but for
its phase, ended. A continuation that fails is the second relay failure (R123). When every part has ended
the recording ends in its rest state with the reason that its state gives; else it goes on, save that the
relay failure stops it, at once or, with a frame open, at its close (log entry 14 for a frame without a
unit). -/
def Obligations.PartOpenEnds : Prop :=
  ∀ (s : State) (x : SlotId) (number : Byte), s.inReset = false →
    (s.slot x).request = some ⟨.partOpen, number⟩ →
    let c := s.slot x
    (∃ t, exec (.partOpenCompletion x number true) s = .next t ∧
      (t.slot x).state = (if s.partOpened x = true then .writing else .closing) ∧
      (t.slot x).free = c.free - 1 ∧ (t.slot x).slowPresent = false ∧
      (s.recorder.state = .starting →
        t.recorder.state = .recording ∧ t.recorder.lamp = .on ∧ t.recorder.lossCount = 0) ∧
      (s.recorder.state ≠ .starting → t.recorder = s.recorder) ∧
      (∀ id rest, c.queue = id :: rest →
        (t.slot x).inFlight = some id ∧ (t.slot x).queue = rest ∧
        (t.slot x).request = some ⟨.unitWrite, c.requestNumber + 1⟩) ∧
      (c.queue = [] → c.inFlight = none → c.part.isSome = true →
        (t.slot x).request =
          if s.partOpened x = true then none else some ⟨.partClose, c.requestNumber + 1⟩)) ∧
    ∃ t, exec (.partOpenCompletion x number false) s = .next t ∧
      let exhausted : Prop :=
        1 < (c.part.map SlotPart.number).getD 0 ∧
        (s.recorder.state = .starting ∨ s.recorder.state = .recording) ∧
        s.recorder.pendingStop = none
      t.slot x =
        { c with
          state := .ready, request := none, slowTimer := .stopped, requestTimer := .stopped
          mountTimer := .stopped, slowPresent := false, mediaError := true, queue := [], reserved := 0
          part := c.part.map (fun p =>
            { p with
              damaged := true, lost := p.lost + c.queue.length
              closeReason :=
                if exhausted ∧ s.recorder.openFrame = none ∧ s.partOpened x = true then
                  if p.spaceRefused = true then .full else .stop
                else p.closeReason }) } ∧
      t.partOpened x = false ∧
      (∀ q, s.recorder.partOn x = some q → t.recorder.partOn x = some { q with phase := .ended }) ∧
      (t.recorder.assembly = s.recorder.assembly →
        t.recorder.store = s.recorder.store.releaseAll c.queue) ∧
      (s.recorder.state.recording? = true →
        if ∀ q ∈ t.recorder.parts, q.phase = .ended then
          t.recorder.state = (if s.items.record.preRecSeconds = 0 then .idle else .standby) ∧
          t.recorder.lamp = .off ∧ t.recorder.pendingStop = none ∧
          t.recorder.stopReason =
            some (if exhausted then .relayExhausted
              else match s.recorder.state with
                | .starting => s.recorder.pendingStop.getD .openFailed
                | .recording => s.recorder.pendingStop.getD .mediaLost
                | _ => s.recorder.stopReason.getD .operator)
        else if ¬exhausted then
          t.recorder.state = s.recorder.state ∧ t.recorder.pendingStop = s.recorder.pendingStop
        else if s.recorder.openFrame.isSome = true then
          t.recorder.state = s.recorder.state ∧ t.recorder.pendingStop = some .relayExhausted
        else t.recorder.state = .stopping ∧ t.recorder.stopReason = some .relayExhausted)

/-- UNIT_WRITE completed for the unit in flight, of size b, in WRITING and in CLOSING. With OK F and
reserved fall by b, the part's written count rises, its first and last frame follow and the size joins the
recent 64 (R116). With ERROR under SKIP reserved alone falls by b, the skipped count rises, and a
WRITE_SKIP mark of the slot that ends at the frame grows by one or a new one is added (R117, R113). After
both the unit is released and the next queued unit is in flight, or, in CLOSING with none left, PART_CLOSE
is issued. Under ABORT the unit and the queue are released and lost, the part is DAMAGED with close reason
ABORT, an open part begins to close, and PART_CLOSE is issued (R118, R119). -/
def Obligations.UnitWriteEnds : Prop :=
  ∀ (s : State) (x : SlotId) (number : Byte) (id : Nat) (p : SlotPart), s.inReset = false →
    (s.slot x).request = some ⟨.unitWrite, number⟩ → (s.slot x).inFlight = some id →
    (s.slot x).part = some p → ((s.slot x).state = .writing ∨ (s.slot x).state = .closing) →
    let c := s.slot x
    let size := s.recorder.store.sizeOf id
    let frame := s.recorder.store.frameOf id
    let goesOn (t : State) : Prop :=
      (t.slot x).state = c.state ∧ (t.slot x).inFlight = c.queue.head? ∧ (t.slot x).queue = c.queue.tail ∧
      (t.slot x).request =
        (if c.queue ≠ [] then some ⟨.unitWrite, c.requestNumber + 1⟩
         else if c.state = .closing then some ⟨.partClose, c.requestNumber + 1⟩
         else none) ∧
      t.recorder.store = s.recorder.store.release id
    (∃ t, exec (.unitWriteCompletion x number true) s = .next t ∧ goesOn t ∧
      (t.slot x).free = c.free - size ∧ (t.slot x).reserved = c.reserved - size ∧
      (t.slot x).part = some
        { p with
          written := p.written + 1, firstFrame := some (p.firstFrame.getD frame), lastFrame := some frame } ∧
      (t.slot x).recent = (c.recent ++ [size]).drop (c.recent.length - 63) ∧
      t.recorder.parts = s.recorder.parts) ∧
    if s.items.slots.policy x = .skip then
      ∃ t, exec (.unitWriteCompletion x number false) s = .next t ∧ goesOn t ∧
        (t.slot x).free = c.free ∧ (t.slot x).reserved = c.reserved - size ∧
        (t.slot x).part = some { p with skipped := p.skipped + 1 } ∧ (t.slot x).mediaError = true ∧
        ∀ q, s.recorder.partOn x = some q →
          (∀ before later g k, q.marks = before ++ ⟨.writeSkip k x, g⟩ :: later → g + k = frame →
            (∀ h ∈ before, ∀ j, h.kind = .writeSkip j x → h.frame + j ≠ frame) →
            t.recorder.partOn x = some
              { q with marks := before ++ ⟨.writeSkip (min (k + 1) 65535) x, g⟩ :: later }) ∧
          ((∀ h ∈ q.marks, ∀ j, h.kind = .writeSkip j x → h.frame + j ≠ frame) →
            t.recorder.partOn x = some (q.addMark ⟨.writeSkip 1 x, frame⟩))
    else
      ∃ t, exec (.unitWriteCompletion x number false) s = .next t ∧
        (t.slot x).free = c.free ∧ (t.slot x).reserved = 0 ∧ (t.slot x).queue = [] ∧
        (t.slot x).inFlight = none ∧ (t.slot x).mediaError = true ∧
        (t.slot x).part = some
          { p with damaged := true, closeReason := .abort, lost := p.lost + 1 + c.queue.length } ∧
        t.recorder.store = (s.recorder.store.release id).releaseAll c.queue ∧ t.partOpened x = false ∧
        (∀ q, s.recorder.partOn x = some q → t.recorder.partOn x =
          some { q with phase := if q.phase = .opened then .closing else q.phase }) ∧
        (c.state = .closing ∨ s.partOpened x = true →
          (t.slot x).state = .closing ∧ (t.slot x).request = some ⟨.partClose, c.requestNumber + 1⟩)

/-- PART_CLOSE completed (R120), with the whole next state. With OK a block of F goes to the record on the card;
with ERROR F stands, the part is DAMAGED and MEDIA_ERROR is set. In both cases the slot enters READY from
288 free blocks up and FULL below, hold is set where the close reason is ABORT, the SLOT notice says so, and
the part has ended. Where every part of the clip has then ended, the recording ends (R92, R94): its rest
state by PRE_REC_SECONDS, the lamp off with a TALLY, the RECORD notice and the stop reason that its state
gives, no stop pending, and no unit under assembly in IDLE (R85). Else the record state and a pending stop
stand. -/
def Obligations.PartCloseEnds : Prop :=
  ∀ (s : State) (x : SlotId) (number : Byte) (ok : Bool) (p : SlotPart), s.inReset = false →
    (s.slot x).request = some ⟨.partClose, number⟩ → (s.slot x).part = some p →
    let free := if ok then (s.slot x).free - 1 else (s.slot x).free
    let left : SlotState := if 288 ≤ free then .ready else .full
    let said : LinkCtl :=
      s.body.hand (.notice (.slot x left
        (if p.closeReason = .abort then .aborted else if ok = true then .closed else .closeFailed)))
    let home : RecState := if s.items.record.preRecSeconds = 0 then .idle else .standby
    let reason : RecReason :=
      match s.recorder.state with
      | .starting => s.recorder.pendingStop.getD .openFailed
      | .recording => s.recorder.pendingStop.getD .mediaLost
      | _ => s.recorder.stopReason.getD .operator
    ∃ t, exec (.partCloseCompletion x number ok) s = .next t ∧
      t.slot x =
        { s.slot x with
          state := left
          free := free
          hold := (s.slot x).hold || decide (p.closeReason = .abort)
          part := some { p with damaged := p.damaged || !ok }
          mediaError := (s.slot x).mediaError || !ok
          request := none
          slowTimer := .stopped
          requestTimer := .stopped
          mountTimer := .stopped
          slowPresent := false } ∧
      (∀ q, s.recorder.partOn x = some q → t.recorder.partOn x = some { q with phase := .ended }) ∧
      t.recorder.partOn x.other = s.recorder.partOn x.other ∧
      t = { s with
        out := [], head := t.head, body := t.body, recorder := t.recorder }.setSlot x (t.slot x) ∧
      if s.recorder.state.recording? = true ∧ ∀ q ∈ t.recorder.parts, q.phase = .ended then
        t.recorder =
          { s.recorder with
            parts := t.recorder.parts
            state := home
            lamp := .off
            pendingStop := none
            stopReason := some reason
            assembly := if home = .idle then none else s.recorder.assembly
            store :=
              match home, s.recorder.assembly with
              | .idle, some id => s.recorder.store.release id
              | _, _ => s.recorder.store } ∧
        t.body = said.hand (.notice (.record home s.recorder.clipCounter reason)) ∧
        t.head = (if s.recorder.lamp = .off then s.head else s.head.hand (.tally .off))
      else
        t.recorder = { s.recorder with parts := t.recorder.parts } ∧ t.body = said ∧ t.head = s.head

/-- Completions that match no request are discarded and counted in STALE_COMPLETIONS alone; the slow timer
sets SLOT_SLOW present alone; the request timeout answers what the request's completion with ERROR
answers, with MEDIA_ERROR set. -/
def Obligations.StaleAndTimeouts : Prop :=
  ∀ (s : State) (x : SlotId),
    let stale : Host.Outcome State Fault Refusal :=
      .next ({ s with out := [] }.setSlot x { s.slot x with stale := sat16 ((s.slot x).stale + 1) })
    (∀ (number : Byte) (ok : Bool) (free : BitVec 32), s.inReset = false →
      ((s.slot x).request ≠ some ⟨.mount, number⟩ → exec (.mountCompletion x number ok free) s = stale) ∧
      ((s.slot x).request ≠ some ⟨.partOpen, number⟩ → exec (.partOpenCompletion x number ok) s = stale) ∧
      ((s.slot x).request ≠ some ⟨.unitWrite, number⟩ → exec (.unitWriteCompletion x number ok) s = stale) ∧
      ((s.slot x).request ≠ some ⟨.partClose, number⟩ →
        exec (.partCloseCompletion x number ok) s = stale)) ∧
    ∀ ms,
      ((s.slot x).slowTimer = .running ms →
        exec (.slowTimerExpiry x) s = .next ({ s with out := [] }.setSlot x
          { s.slot x with slowTimer := .expired, slowPresent := true })) ∧
      ((s.slot x).requestTimer = .running ms → s.inReset = false → ∀ number,
        let timedOut (i : Instr) : Prop :=
          ∃ t, exec (.requestTimeout x) s = .next t ∧ exec i s = .next t ∧ (t.slot x).mediaError = true
        ((s.slot x).request = some ⟨.partOpen, number⟩ → timedOut (.partOpenCompletion x number false)) ∧
        ((s.slot x).request = some ⟨.unitWrite, number⟩ → timedOut (.unitWriteCompletion x number false)) ∧
        ((s.slot x).request = some ⟨.partClose, number⟩ → timedOut (.partCloseCompletion x number false)))

/-- A unit offered to a part (R98, R113): the offered count and exactly one of lost, skipped, queued and in
flight rise by one; it is refused for space where the flag is set or fewer than 32 blocks would be left,
and queued otherwise. A refusal by the test of space has its outcome by REC_MODE (R114): in SINGLE, and in
RELAY with a stop pending, the part closes FULL with the stop MEDIA_FULL; in DUAL it begins to close FULL,
and the stop is taken when no part is left open; in RELAY it begins to close RELAY, and the other slot,
ready and below part 255, opens the next part, whose first unit is the one refused, with a RELAY mark at
its frame (R122), or the stop RELAY_EXHAUSTED is taken (R123). A stop waits for an open frame's close (log
entry 14 for a frame without a unit). A release takes one holder, and the last one returns the unit's
blocks (R77). -/
def Obligations.OfferedUnitsAreAccounted : Prop :=
  ∀ (s : State) (x : SlotId) (id : Nat) (p : SlotPart) (q : ClipPart),
    (s.slot x).part = some p → s.recorder.partOn x = some q →
    let c := s.slot x
    let size := s.recorder.store.sizeOf id
    let frame := s.recorder.store.frameOf id
    let noRoom : Prop := c.free < c.reserved + size + 32
    ((c.request = none → c.inFlight = none) →
      let count (c : Slot) (r : SlotPart) : Nat :=
        r.lost + r.skipped + c.queue.length + (if c.inFlight.isSome = true then 1 else 0)
      let refused : Bool := p.spaceRefused || decide (c.free < c.reserved + size + 32)
      ∃ r o, ((s.offerOnce x id).1.slot x).part = some r ∧
        (s.offerOnce x id).1.recorder.partOn x = some o ∧
        o.offered = q.offered + 1 ∧ r.written = p.written ∧
        count ((s.offerOnce x id).1.slot x) r = count c p + 1 ∧
        r.spaceRefused = refused ∧ r.lost = p.lost + (if refused then 1 else 0) ∧
        ((s.offerOnce x id).1.slot x).reserved =
          (if refused = false ∧ c.queue.length < 1024 then c.reserved + size else c.reserved)) ∧
    (q.phase = .opened →
      let t := s.offer id x
      let asks (r : RecReason) : Prop :=
        if (s.recorder.state = .starting ∨ s.recorder.state = .recording) ∧ s.recorder.pendingStop = none then
          if s.recorder.openFrame.isSome = true then
            t.recorder.pendingStop = some r ∧ t.recorder.state = s.recorder.state
          else t.recorder.stopReason = some r ∧ t.recorder.pendingStop = none
        else t.recorder.pendingStop = s.recorder.pendingStop ∧ t.recorder.state = s.recorder.state
      let closes (r : CloseReason) : Prop :=
        t.recorder.partOn x = some { q with phase := .closing, offered := q.offered + 1 } ∧
        (t.slot x).part = some { p with lost := p.lost + 1, spaceRefused := true, closeReason := r } ∧
        (t.slot x).state = (if c.state = .writing then .closing else c.state)
      let y := x.other
      if p.spaceRefused = true ∨ ¬noRoom then t = (s.offerOnce x id).1
      else
        match s.items.record.mode, s.recorder.pendingStop with
        | .single, _ | .relay, some _ =>
          (t.slot x).part = some { p with lost := p.lost + 1, spaceRefused := true, closeReason := .full } ∧
          asks .mediaFull ∧
          (s.recorder.openFrame.isSome = true →
            t.recorder.partOn x = some { q with offered := q.offered + 1 } ∧ (t.slot x).state = c.state)
        | .dual, _ =>
          closes .full ∧
          if s.partOpened y = true then
            t.recorder.pendingStop = s.recorder.pendingStop ∧ t.recorder.state = s.recorder.state
          else asks .mediaFull
        | .relay, none =>
          closes .relay ∧
          if (s.slot y).state = .ready ∧ (s.slot y).hold = false ∧ q.number < 255 then
            t.recorder.pendingStop = none ∧ t.recorder.state = s.recorder.state ∧
            (t.slot y).state = .opening ∧
            (t.slot y).request = some ⟨.partOpen, (s.slot y).requestNumber + 1⟩ ∧
            .slotRequest y ((s.slot y).requestNumber + 1) (.partOpen q.clip (q.number + 1)) ∈ t.out ∧
            ((s.slot y).queue = [] → (s.slot y).reserved + size + 32 ≤ (s.slot y).free →
              (t.slot y).part = some ⟨q.clip, q.number + 1, 0, 0, 0, false, false, .stop, none, none⟩ ∧
              t.recorder.partOn y = some ⟨q.clip, q.number + 1, y, .opened, 1, [⟨.relay x, frame⟩], 0⟩ ∧
              (t.slot y).queue = [id] ∧ (t.slot y).reserved = (s.slot y).reserved + size)
          else asks .relayExhausted) ∧
    ∀ (st : UnitStore) (i : Nat) (u : RecordUnit), st.find i = some u →
      (st.release i).find i = (if u.refs ≤ 1 then none else some { u with refs := u.refs - 1 }) ∧
      (st.release i).freeCount = (if u.refs ≤ 1 then st.freeCount + u.blocks.length else st.freeCount) ∧
      ∀ j, j ≠ i → (st.release i).find j = st.find j

/-! ### Viewfinder -/

/-- VF_LINE taken, and line silence. A line in order is sent and becomes the last good line; a later one is sent
after one replaced line for each number left out, and line 0 after the rest of the frame; a line of 540 or
more, or one gone by, is dropped and counted (R129 to R132). That line 0 repeated by the body, with line 1
expected, completes the frame is the model's reading (log entry 39). Each line takes the next port sequence,
and its pixels are composed; at line 0 the frame's list, snapshot, stripe and blink are taken, and at no
other line (R133, R134). A composed pixel is its starting pixel after zebra by its own luma (R140) and then
each live entry in index order (R138): an entry draws where it is visible (R141, R147) and the pixel is in
its rectangle, blending the palette entry of its ink (R139): boxes and frames (R142), glyph cells (R143),
the rows of VALUE figure by figure (R144), the bars of METER (R145) and ZOOM_BAR (R146), the border of
TALLY_BORDER (R147). A pixel that no step draws is sent as it started. -/
def Obligations.ViewfinderLines : Prop :=
  (∀ s : State, s.vf.expected < 540 →
    let e := s.vf.expected
    let good : List Pixel := s.vf.lastGood.getD (List.replicate 960 ⟨64, 512, 512⟩)
    let replaced (w : Viewfinder) (stop : Nat) : List Emission :=
      (List.range (stop - e)).map (fun j =>
        .viewfinderLine (s.portSeq + BitVec.ofNat 8 j) (e + j) (w.composeLine (e + j) good))
    let own (t : State) (k line : Nat) (pixels : List (BitVec 32)) : Emission :=
      .viewfinderLine (s.portSeq + BitVec.ofNat 8 k) line (t.vf.composeLine line (pixels.map Pixel.ofWord))
    let sameFrame (t : State) : Prop :=
      t.vf.liveList = s.vf.liveList ∧ t.vf.snapshot = s.vf.snapshot ∧ t.vf.stripe = s.vf.stripe ∧
      t.vf.blink = s.vf.blink ∧ t.vf.editChanged = s.vf.editChanged
    let newFrame (t : State) : Prop :=
      t.vf.liveList = (if s.vf.editChanged = true then s.vf.editList else s.vf.liveList) ∧
      t.vf.snapshot = some s.latch ∧ t.vf.stripe = (s.vf.stripe + 1) % 8 ∧
      t.vf.blink = (s.vf.blink + 1) % 32 ∧ t.vf.editChanged = false
    let sent (t : State) (es : List Emission) : Prop :=
      t.out = es ∧ t.portSeq = s.portSeq + BitVec.ofNat 8 es.length
    (∀ (seq : Byte) (line : BitVec 16) (pixels : List (BitVec 32)) (n : Nat),
      pixels.length = 960 → s.takes .vfLine seq n = true →
      ∃ t, exec (.vfLine seq line pixels) s = .next t ∧ t.vf.lineSilence = .running 40 ∧
        if 540 ≤ line.toNat ∨ (line.toNat < e ∧ line.toNat ≠ 0) then
          sent t [] ∧ sameFrame t ∧ t.vf.expected = e ∧ t.vf.dropped = sat16 (s.vf.dropped + 1) ∧
          t.vf.lossPresent = true ∧ t.vf.lastGood = s.vf.lastGood ∧ t.vf.repeated = s.vf.repeated
        else
          t.vf.lastGood = some (pixels.map Pixel.ofWord) ∧ t.vf.dropped = s.vf.dropped ∧
          t.vf.expected = (if line.toNat = 539 then 0 else line.toNat + 1) ∧
          (if e = 0 ∨ line.toNat = 0 then newFrame t else sameFrame t) ∧
          if line.toNat = e then
            sent t [own t 0 e pixels] ∧ t.vf.lossPresent = false ∧ t.vf.repeated = s.vf.repeated
          else
            t.vf.lossPresent = true ∧
            if line.toNat = 0 then
              sent t (replaced s.vf 540 ++ [own t (540 - e) 0 pixels]) ∧
              t.vf.repeated = sat16 (s.vf.repeated + (540 - e))
            else
              sent t (replaced t.vf line.toNat ++ [own t (line.toNat - e) line.toNat pixels]) ∧
              t.vf.repeated = sat16 (s.vf.repeated + (line.toNat - e))) ∧
    ∀ ms, s.vf.lineSilence = .running ms →
      ∃ t, exec .lineSilenceTimerExpiry s = .next t ∧
        t.vf.lineSilence = .expired ∧ t.vf.lossPresent = true ∧ t.vf.expected = 0 ∧
        t.vf.lastGood = s.vf.lastGood ∧ sameFrame t ∧
        (if e = 0 then sent t [] ∧ t.vf.repeated = s.vf.repeated
         else sent t (replaced s.vf 540) ∧ t.vf.repeated = sat16 (s.vf.repeated + (540 - e)))) ∧
  ∀ (f : Viewfinder) (sn : Snapshot) (v u : Nat) (pixels : List Pixel), f.snapshot = some sn →
    let mixed (a base ink : Nat) : Nat := (base * (16 - a) + ink * a) / 16
    let drawn (k : Nat) (p : Pixel) : Pixel :=
      let c := f.palette.getD k ⟨0, 0, 0, 0⟩
      ⟨mixed c.opacity p.y c.y, mixed c.opacity p.cb c.cb, mixed c.opacity p.cr c.cr⟩
    let zebra (p : Pixel) : Pixel :=
      if sn.zebraOn = false then p
      else if sn.zebra1Base ≤ p.y ∧ p.y ≤ sn.zebra1Limit then
        if (u + v + f.stripe) / 4 % 2 = 0 then drawn 15 p else p
      else if sn.zebra2Base ≤ p.y ∧ p.y ≤ sn.zebra2Limit then
        if (u + 1000 - v + f.stripe) / 4 % 2 = 0 then drawn 14 p else p
      else p
    let recording : Prop := sn.recState = .starting ∨ sn.recState = .recording ∨ sn.recState = .stopping
    let visible (b : DisplayBase) (kind : DisplayKind) : Prop :=
      (match b.condition, kind with
        | .always, _ => True
        | .onRec, _ => recording
        | .notRec, _ => ¬recording
        | .warning, _ => sn.warning = true
        | .pan, _ => ∃ yaw pitch, sn.stab = .running yaw pitch ∧ (yaw = true ∨ pitch = true)
        | .limit, .meter _ track => sn.limiting.get track = true
        | .limit, _ => sn.travelLimit.yaw = true ∨ sn.travelLimit.pitch = true) ∧
      (b.blink = true → f.blink ≤ 15) ∧
      (kind = .tallyBorder → sn.recState = .recording ∨
        ((sn.recState = .starting ∨ sn.recState = .stopping) ∧ f.blink ≤ 15))
    let inside (b : DisplayBase) : Prop := b.x ≤ u ∧ u < b.x + b.w ∧ b.y ≤ v ∧ v < b.y + b.h
    let edge (b : DisplayBase) (lw : Nat) : Prop :=
      u < b.x + lw ∨ b.x + b.w ≤ u + lw ∨ v < b.y + lw ∨ b.y + b.h ≤ v + lw
    let figures (blank : Bool) (w k : Nat) : List Nat :=
      (List.range w).map (fun j =>
        if blank = true ∧ j + 1 < w ∧ k < 10 ^ (w - 1 - j) then 32 else 48 + k / 10 ^ (w - 1 - j) % 10)
    let remain (x : SlotLive) : List Nat :=
      (if x.hold = true then [72, 79, 76, 68]
       else if x.state = .full then [70, 85, 76, 76]
       else match x.remaining with
         | none => [45, 45, 45, 45]
         | some k => figures true 4 (min k 9999)) ++ [if x.busy = true then 42 else 32]
    let row : ValueSource → List Nat
      | .timecode =>
        match sn.timecode with
        | none => [45, 45, 58, 45, 45, 58, 45, 45, 58, 45, 45]
        | some tc =>
          figures false 2 (tc.hh.toNat % 100) ++ [58] ++ figures false 2 (tc.mm.toNat % 100) ++ [58] ++
            figures false 2 (tc.ss.toNat % 100) ++ [58] ++ figures false 2 (tc.ff.toNat % 100)
      | .focal =>
        match sn.focal with
        | none => [45, 45, 45, 45, 46, 45]
        | some k => figures true 4 (k / 10) ++ [46, 48 + k % 10]
      | .zoomPct => match sn.zoomPct with | none => [45, 45, 45] | some k => figures true 3 k
      | .clip => match sn.clip with | none => [45, 45, 45, 45] | some k => figures false 4 k
      | .remainA => remain sn.slotA
      | .remainB => remain sn.slotB
    let glyphs (b : DisplayBase) (alternate : Nat) (codes : List Nat) : Option Nat :=
      if v - b.y < 16 then
        (codes[(u - b.x) / 12]?).map (fun code =>
          if ((f.glyphs.getD (code - 32) ⟨[]⟩).rows.getD (v - b.y) 0#12).getLsbD ((u - b.x) % 12) = true then
            b.colour
          else alternate)
      else none
    let fill (b : DisplayBase) (level : Nat) : Nat := b.h * (60 - level) / 60
    let ink (b : DisplayBase) : DisplayKind → Option Nat
      | .box => some b.colour
      | .frame lw => if edge b lw then some b.colour else none
      | .tallyBorder => if edge b 4 then some b.colour else none
      | .text alternate codes => glyphs b alternate codes
      | .value alternate source => glyphs b alternate (row source)
      | .zoomBar alternate =>
        match sn.zoomPct with
        | none => some alternate
        | some pc => some (if u < b.x + b.w * pc / 100 then b.colour else alternate)
      | .meter alternate track =>
        let below := b.h - 1 - (v - b.y)
        match sn.meter.get track, sn.peak.get track with
        | none, _ => none
        | some m, peak =>
          if below < fill b m then some (if m ≤ 6 then alternate else b.colour)
          else match peak with
            | none => none
            | some h =>
              if 1 ≤ fill b h ∧ below + 1 = fill b h then some (if h ≤ 6 then alternate else b.colour)
              else none
    (f.composeLine v pixels).length = pixels.length ∧
    ∀ p, pixels[u]? = some p → ∃ stages : List Pixel,
      stages.length = f.liveList.length + 1 ∧ stages.head? = some (zebra p) ∧
      (f.composeLine v pixels)[u]? = stages.getLast? ∧
      ∀ i e q r, f.liveList[i]? = some e → stages[i]? = some q → stages[i + 1]? = some r →
        match e with
        | .none => r = q
        | .item b kind =>
          (visible b kind ∧ inside b → r = (match ink b kind with | some k => drawn k q | none => q)) ∧
          (¬(visible b kind ∧ inside b) → r = q)

/-! ### Fault supervision -/

/-- CHECK_CYCLE counts (R155, R156). The cycle count advances, 839 to 0, and the timer restarts with
SUP_PERIOD. In each group whose CHECK_DIV makes it due an indicator set (R152) adds one to its detail's
counter, at most to 8, and one clear makes it 0, whatever its flag holds; a group not due keeps its
counters. -/
def Obligations.CheckCounts : Prop :=
  ∀ (s : State) (ms : Nat), s.sup.timer = .running ms → s.supSound →
    ∃ t, exec .checkCycle s = .next t ∧
      t.sup.cycle = (s.sup.cycle + 1) % 840 ∧ t.sup.timer = .running s.items.supPeriod ∧
      ∀ (g : Group) (d : Nat), d < g.details →
        (t.sup.group g).counters[d]? =
          if (s.sup.cycle + 1) % 840 % ((s.sup.entry g).checkDiv + 1) = 0 then
            if (s.present g)[d]? = some true then
              ((s.sup.group g).counters[d]?).map (fun c => min 8 (c + 1))
            else some 0
          else (s.sup.group g).counters[d]?

/-- CHECK_CYCLE flags and what follows (R155, R157 to R161). In a due group a flag stands once set, and is
set where the indicator is seen set and the new counter is greater than NR or COUNT_BYPASS is on; the
summary follows the flags, each rising counts in FAULT_RISINGS, and the attention line follows summary and
NOTIFY. A rising runs the group's actions (R159): STAB_OFF turns SETTLING or running OFF with reason FAULT;
ZOOM_STOP joins the stop-claiming groups, and where the stop claim arises ends move and pending preset
STOPPED; MARK_CLIP adds the group's FAULT mark to every open part, before its own STOP_REC; VF_WARN joins
the warning groups; STOP_REC stops a recording with reason FAULT, at the close of an open frame. While the
body link's queue has room it gains one FAULT notice for each detail newly set whose group notifies so, in
order (R160), with the PRESET and MODE notices of the actions. ESSENCE_GAP, LINK_CRC and MEDIA_ERROR
present are clear after a check that sampled them, and stand otherwise (R152). That a stop waits also for a
frame without a unit is the model's reading (log entry 14). -/
def Obligations.CheckFlags : Prop :=
  ∀ (s : State) (ms : Nat), s.sup.timer = .running ms → s.supSound →
    let due (g : Group) : Bool :=
      decide ((s.sup.cycle + 1) % 840 % ((s.sup.entry g).checkDiv + 1) = 0)
    ∃ t, exec .checkCycle s = .next t ∧ t.supSound ∧ t.sup.table = s.sup.table ∧
      (∀ (g : Group) (d : Nat), d < g.details →
        (t.sup.group g).flags[d]? =
          if due g = true ∧ (s.present g)[d]? = some true ∧
              ((s.sup.entry g).countBypass = true ∨
                ∃ c ∈ (t.sup.group g).counters[d]?, (s.sup.entry g).nr < c) then some true
          else (s.sup.group g).flags[d]?) ∧
      let risen (does : Actions → Bool) : List Group :=
        Group.all.filter (fun g =>
          !(s.sup.group g).summary && (t.sup.group g).summary && does (s.sup.entry g).actions)
      (s.sup.risings ≤ 65535 →
        t.sup.risings = sat16 (s.sup.risings + (risen (fun _ => true)).length)) ∧
      (∀ g, g ∈ t.vf.warnGroups ↔ g ∈ s.vf.warnGroups ∨ g ∈ risen Actions.vfWarn) ∧
      (if risen Actions.stabOff = [] ∨ s.stab.state = .off then
        t.stab = { s.stab with dropWindow := t.stab.dropWindow }
      else
        let offAxis (a : Axis) : Axis :=
          { a with
            integ := 0, bucket := 0, debounce := 0, clampCount := 0, holdOff := 0, window := [], pan := false
            mismatch := false }
        t.stab =
          { s.stab with
            state := .off, reason := .fault, hold := false, ring := [], yaw := offAxis s.stab.yaw
            pitch := offAxis s.stab.pitch, dropWindow := t.stab.dropWindow }) ∧
      (let stops := risen Actions.zoomStop
       let arises : Prop := stops ≠ [] ∧ s.zoom.report.fault = false ∧ s.zoom.stopGroups = []
       if stops = [] then t.zoom = s.zoom ∧ t.stab.dropWindow = s.stab.dropWindow
       else
        (∀ g, g ∈ t.zoom.stopGroups ↔ g ∈ s.zoom.stopGroups ∨ g ∈ stops) ∧
        t.zoom =
          { s.zoom with
            stopGroups := t.zoom.stopGroups, sentSpeed := 0
            move := if arises then none else s.zoom.move
            pendingPreset := if arises then none else s.zoom.pendingPreset
            stopFresh := s.zoom.stopFresh || decide arises
            refresh := if s.zoom.sentSpeed = 0 then s.zoom.refresh else .running 20 } ∧
        t.stab.dropWindow =
          if s.zoom.sentSpeed = 0 then s.stab.dropWindow else s.items.stab.dropWindow) ∧
      (let stops := risen Actions.stopRec
       let marking := risen Actions.markClip
       let canStop : Prop :=
        (s.recorder.state = .starting ∨ s.recorder.state = .recording) ∧ s.recorder.pendingStop = none
       (if stops = [] ∨ ¬canStop then
          t.recorder.state = s.recorder.state ∧ t.recorder.pendingStop = s.recorder.pendingStop ∧
          t.recorder.stopReason = s.recorder.stopReason
        else if s.recorder.openFrame.isSome = true then
          t.recorder.state = s.recorder.state ∧ t.recorder.pendingStop = some .fault ∧
          t.recorder.stopReason = s.recorder.stopReason
        else
          t.recorder.pendingStop = none ∧ t.recorder.stopReason = some .fault ∧
          (∀ x, t.partOpened x = false) ∧
          t.recorder.state =
            if ∀ q ∈ t.recorder.parts, q.phase = .ended then
              if s.items.record.preRecSeconds = 0 then .idle else .standby
            else .stopping) ∧
       (¬canStop ∨ s.recorder.openFrame.isSome = true ∨
          (∀ g ∈ marking, ∀ h ∈ stops, g.number ≤ h.number) →
        t.recorder.parts.map (fun p => (p.marks, p.marksLost)) = s.recorder.parts.map (fun p =>
          let q : ClipPart :=
            match s.recorder.lastMark with
            | some m =>
              if p.phase = .opened then
                marking.foldl (fun q g => q.addMark ⟨.fault g, m.frame⟩) p
              else p
            | none => p
          (q.marks, q.marksLost)))) ∧
      (s.body.state = .aligned → t.body.txQueue.length < 32 →
        let noticed {α : Type} (pick : Notice → Option α) : List α :=
          (t.body.txQueue.drop s.body.txQueue.length).filterMap (fun p =>
            match p.msg with
            | .notice k => pick k
            | _ => none)
        t.body.txQueue.take s.body.txQueue.length = s.body.txQueue ∧
        noticed (fun k => match k with | .fault g d => some (g, d) | _ => none) =
          Group.all.flatMap (fun g =>
            if (s.sup.entry g).notify = .notice ∨ (s.sup.entry g).notify = .both then
              ((List.range g.details).filter (fun d =>
                decide ((s.sup.group g).flags[d]? = some false ∧
                  (t.sup.group g).flags[d]? = some true))).map (fun d => (g, d))
            else []) ∧
        noticed (fun k => match k with | .preset e => some e | _ => none) =
          (if risen Actions.zoomStop ≠ [] ∧ s.zoom.report.fault = false ∧ s.zoom.stopGroups = [] then
            List.replicate (s.zoom.move.toList.length + s.zoom.pendingPreset.toList.length) .stopped
          else []) ∧
        noticed (fun k => match k with | .mode o st r => some (o, st, r) | _ => none) =
          if risen Actions.stabOff = [] ∨ s.stab.state = .off then [] else [(s.zoom.mode, .off, .fault)]) ∧
      t.recorder.essenceGap = (s.recorder.essenceGap && !due .essenceGap) ∧
      (∀ l, (t.link l).crcPresent = ((s.link l).crcPresent && !due .linkCrc)) ∧
      ∀ x, (t.slot x).mediaError = ((s.slot x).mediaError && !due .mediaError)

/-- ACTION CLEAR_FAULT, allowed (R162), with the whole next state: scope 0 clears one detail's flag and counter,
1 those of a group, 2 all 22; an undefined scope, group or detail is refused with BAD_COMMAND. What is left
of a group decides its summary. A group leaves the stop-claiming and the warning groups exactly where its
summary falls, so nothing leaves them where another detail of the group stays set; the attention line then
follows the summaries that are left and their NOTIFY (R158, R161). The present indicators stand as they
were. A sent speed that the stop claim's release changes gives one ZOOM_CMD (R19, R21). -/
def Obligations.ClearFault : Prop :=
  ∀ (s : State) (seq : Byte) (src : Source) (tag scope group detail : Byte) (n : Nat),
    s.takesCommand seq src [229] n = true → s.supSound →
    let u := s.taken .command seq n
    let names (g : Group) (d : Nat) : Prop :=
      match scope.toNat with
      | 0 => group.toNat = g.number ∧ detail.toNat = d
      | 1 => group.toNat = g.number
      | _ => True
    let defined : Prop := scope.toNat ≤ 2 ∧ ∃ (g : Group) (d : Nat), d < g.details ∧ names g d
    (defined →
      ∃ t, exec (.clearFault seq src tag scope group detail) s = .next t ∧
        t = { u with
          head := t.head, zoom := t.zoom, stab := t.stab
          vf := { s.vf with warnGroups := t.vf.warnGroups }
          sup := { s.sup with groups := t.sup.groups, attention := t.sup.attention }
          body := u.body.hand (.reply tag .ok []) } ∧
        (∀ (g : Group) (d : Nat), d < g.details →
          (names g d →
            (t.sup.group g).flags[d]? = some false ∧ (t.sup.group g).counters[d]? = some 0) ∧
          (¬names g d →
            (t.sup.group g).flags[d]? = (s.sup.group g).flags[d]? ∧
            (t.sup.group g).counters[d]? = (s.sup.group g).counters[d]?)) ∧
        (∀ g, (t.sup.group g).summary = true ↔ true ∈ (t.sup.group g).flags) ∧
        (∀ g,
          let falls : Prop := (s.sup.group g).summary = true ∧ (t.sup.group g).summary = false
          (g ∈ t.zoom.stopGroups ↔ g ∈ s.zoom.stopGroups ∧ ¬falls) ∧
          (g ∈ t.vf.warnGroups ↔ g ∈ s.vf.warnGroups ∧ ¬falls)) ∧
        (t.sup.attention = true ↔
          ∃ g, (t.sup.group g).summary = true ∧ (s.sup.entry g).notify.hasLine = true) ∧
        (∀ g, t.present g = s.present g) ∧
        (s.zoomSound →
          t.zoom.sentSpeed = t.zoom.maskSpeed t.zoom.classSpeed ∧
          if t.zoom.sentSpeed = s.zoom.sentSpeed then
            t.head = s.head ∧ t.stab = s.stab ∧ t.zoom = { s.zoom with stopGroups := t.zoom.stopGroups }
          else
            t.head = s.head.hand (.zoomCmd t.zoom.sentSpeed) ∧
            t.stab = { s.stab with dropWindow := s.items.stab.dropWindow } ∧
            t.zoom =
              { s.zoom with
                stopGroups := t.zoom.stopGroups, sentSpeed := t.zoom.sentSpeed, refresh := .running 20 })) ∧
    (¬defined →
      exec (.clearFault seq src tag scope group detail) s = .next { u with
        body := u.body.hand (.reply tag .badCommand []) })

/-! ### Management -/

/-- What source 1 is not allowed: an ACTION that touches an item or table whose map bit is set, or lies at
or beyond the map length; a GET and a SET of such an item; a SELECT of such a table; a READ and a WRITE at
a cursor in such a table, and any WRITE of table 9 (R188, R189). Each is refused with DENIED: DENIED_COUNT
increases, and nothing else of any block changes. That a WRITE of table 9 counts in DENIED_COUNT is the
model's reading (log entry 17). -/
def Obligations.DeniedActionsChangeNothing : Prop :=
  ∀ (s : State) (seq tag : Byte) (n : Nat), s.takes .command seq n = true →
    let u := s.taken .command seq n
    let denies (bit : Nat) : Prop :=
      16 * s.mgmt.mapCount ≤ bit ∨ (s.mgmt.map.getD (bit / 16) 0#16).getLsbD (bit % 16) = true
    let denied (i : Instr) : Prop :=
      exec i s = .next { u with
        mgmt := { s.mgmt with denied := sat16 (s.mgmt.denied + 1) }
        body := u.body.hand (.reply tag .denied []) }
    (∀ i touched, i.asks = some (seq, .panel, tag, touched) → (∃ bit ∈ touched, denies bit) → denied i) ∧
    (∀ (item : Byte) (v : BitVec 32), (u.itemValue item.toNat).isSome = true → denies item.toNat →
      denied (.get seq .panel tag item) ∧ denied (.set seq .panel tag item v)) ∧
    (∀ (table : Byte) (index : BitVec 16), 1 ≤ table.toNat → table.toNat ≤ 9 →
      denies (255 + table.toNat) → denied (.select seq .panel tag table index)) ∧
    ∀ (cur : Cursor) (m : BitVec 16) (data : List Byte),
      s.mgmt.cursor1 = some cur → m ≠ 0#16 →
      (denies (255 + cur.table.code) → denied (.read seq .panel tag m)) ∧
      (data.length = m.toNat * cur.table.entryBytes → data.length ≤ 4091 →
        (cur.table = .map ∨ denies (255 + cur.table.code)) → denied (.write seq .panel tag m data))

/-- GET: the item's value or four values as they stand, 4 bytes each, with OK; a number of no item is
refused with BAD_ITEM before permission; a denied item counts in DENIED_COUNT. Nothing else changes. -/
def Obligations.GetItem : Prop :=
  ∀ (s : State) (seq : Byte) (src : Source) (tag item : Byte) (n : Nat), s.takes .command seq n = true →
    let u := s.taken .command seq n
    match u.itemValue item.toNat with
    | none =>
      exec (.get seq src tag item) s = .next { u with body := u.body.hand (.reply tag .badItem []) }
    | some vs =>
      if s.permits src [item.toNat] = true then
        exec (.get seq src tag item) s =
          .next { u with body := u.body.hand (.reply tag .ok (vs.flatMap (intBytes 4))) }
      else
        exec (.get seq src tag item) s = .next { u with
          mgmt := { s.mgmt with denied := sat16 (s.mgmt.denied + 1) }
          body := u.body.hand (.reply tag .denied []) }

/-- SET. A number of no item is refused with BAD_ITEM; allowed, a read-only item with READ_ONLY, and items 128
to 130 during a recording with REFUSED_STATE. Of a settable item the value taken is the value sent,
saturated to the item's range, with AVG_COUNT (65) the largest of 1, 2, 4, 8 not above it or 1, PAN_TH (68)
above PAN_HYST, PAN_HYST (69) below PAN_TH, LEAK_STEADY (71) not below LEAK_PAN, LEAK_PAN (72) not above
LEAK_STEADY (R49). The item then holds it, a GET of it gives it, and the reply carries it, with CLAMPED
where it differs from the value sent. An ASSIGN swaps with the track that carried the input (R53). The owner
then acts (R184): BUCKET_TH (67) clears each bucket not below it in magnitude (R38); LIMIT_ON_Tt (104 to
107) off makes the track's limiter gain unity (R62); PRE_REC_SECONDS (130) above 0 moves IDLE to STANDBY,
and in STANDBY evicts the oldest ring units beyond its capacity; 0 empties the ring, releases the unit under
assembly and moves STANDBY to IDLE, each move with its RECORD notice (R88, R89). Nothing else changes. -/
def Obligations.SetItem : Prop :=
  ∀ (s : State) (seq : Byte) (src : Source) (tag item : Byte) (v : BitVec 32) (n : Nat),
    s.takes .command seq n = true →
    let u := s.taken .command seq n
    let refused (status : Status) : Prop :=
      exec (.set seq src tag item v) s = .next { u with body := u.body.hand (.reply tag status []) }
    (u.itemValue item.toNat = none → refused .badItem) ∧
    (s.permits src [item.toNat] = true →
      (specOf item.toNat = none → (u.itemValue item.toNat).isSome = true → refused .readOnly) ∧
      (128 ≤ item.toNat → item.toNat ≤ 130 → s.recorder.state.recording? = true → refused .refusedState) ∧
      ∀ sp, specOf item.toNat = some sp →
        (128 ≤ item.toNat → item.toNat ≤ 130 → s.recorder.state = .idle ∨ s.recorder.state = .standby) →
        let ranged : Nat := if v.toNat < sp.lo then sp.lo else if sp.hi < v.toNat then sp.hi else v.toNat
        let w : Nat :=
          match item.toNat with
          | 65 => if 8 ≤ v.toNat then 8 else if 4 ≤ v.toNat then 4 else if 2 ≤ v.toNat then 2 else 1
          | 68 => max ranged (s.items.stab.panHyst + 1)
          | 69 => min ranged (s.items.stab.panTh - 1)
          | 71 => max ranged s.items.stab.leakPan
          | 72 => min ranged s.items.stab.leakSteady
          | _ => ranged
        let its : Items := sp.put w s.items
        let cut (a : Axis) : Axis := if w ≤ a.bucket.natAbs then { a with bucket := 0 } else a
        let gain (track : Four) : Nat :=
          if its.audio.limitOn.get track = true then s.audio.limGain.get track else 65536
        let went (r : RecState) : LinkCtl :=
          u.body.hand (.notice (.record r s.recorder.clipCounter .preRec))
        let lamped : LinkCtl := if s.recorder.lamp = .off then s.head else s.head.hand (.tally .off)
        let room : Nat := match s.recorder.lastMark with | none => 0 | some m => w * nominalRate m.rate
        let st : UnitStore := s.recorder.store
        let acted : State :=
          match item.toNat with
          | 67 => { u with stab := { s.stab with yaw := cut s.stab.yaw, pitch := cut s.stab.pitch } }
          | 104 | 105 | 106 | 107 =>
            { u with audio := { s.audio with limGain := ⟨gain .i1, gain .i2, gain .i3, gain .i4⟩ } }
          | 130 =>
            if s.recorder.state = .idle then
              if w = 0 then u
              else
                { u with
                  recorder := { s.recorder with state := .standby, lamp := .off }
                  body := went .standby
                  head := lamped }
            else if w = 0 then
              let emptied := s.recorder.ring.foldl UnitStore.release st
              { u with
                recorder :=
                  { s.recorder with
                    state := .idle
                    lamp := .off
                    ring := []
                    assembly := none
                    store := match s.recorder.assembly with | none => emptied | some id => emptied.release id }
                body := went .idle
                head := lamped }
            else
              let gone : Nat := s.recorder.ring.length - room
              { u with
                recorder :=
                  { s.recorder with
                    ring := s.recorder.ring.drop gone
                    store := (s.recorder.ring.take gone).foldl UnitStore.release st } }
          | _ => u
        let t : State :=
          { acted with
            items := its
            body := acted.body.hand (.reply tag (if w = v.toNat then .ok else .clamped) (leBytes 4 w)) }
        exec (.set seq src tag item v) s = .next t ∧ t.itemValue item.toNat = some [(w : Int)] ∧
        ∀ (track other : Four), item.toNat = 96 + track.idx → s.items.audio.assign.get other = w →
          its.audio.assign.get track = w ∧
          (other ≠ track → its.audio.assign.get other = s.items.audio.assign.get track))

/-- SELECT, and a malformed COMMAND. SELECT of a table sets the source's own cursor below the capacity and
is refused with BAD_LENGTH from it up, a table id outside 1..9 with BAD_TABLE; a COMMAND of no defined form
is replied BAD_COMMAND and changes nothing. -/
def Obligations.SelectTable : Prop :=
  ∀ (s : State) (seq : Byte) (src : Source) (tag table : Byte) (index : BitVec 16) (n : Nat),
    s.takes .command seq n = true →
    let u := s.taken .command seq n
    exec (.undefinedCommand seq tag) s = .next { u with body := u.body.hand (.reply tag .badCommand []) } ∧
    (table.toNat = 0 ∨ 9 < table.toNat →
      exec (.select seq src tag table index) s =
        .next { u with body := u.body.hand (.reply tag .badTable []) }) ∧
    ∀ k, TableId.ofNumber table.toNat = some k → s.permits src [255 + table.toNat] = true →
      exec (.select seq src tag table index) s = .next (
        if index.toNat < k.capacity then
          { u with
            mgmt := match src with
              | .system => { s.mgmt with cursor0 := some ⟨k, index.toNat⟩ }
              | .panel => { s.mgmt with cursor1 := some ⟨k, index.toNat⟩ }
            body := u.body.hand (.reply tag .ok []) }
        else { u with body := u.body.hand (.reply tag .badLength []) })

/-- WRITE and READ, check by check. WRITE of 0 entries, or of data that is not its entries' length, is
BAD_COMMAND; without a cursor NO_CURSOR; not allowed, or of table 9 by source 1, DENIED; of tables 1 and 2
in RUN, WRONG_MODE; past the table's end, or leaving a hole in table 1 or 9, BAD_LENGTH. Taken, each
entry's fields are held as the table's layout takes them, a value outside a field's range at the nearest
bound, a code of no defined value as the first, a field that the kind does not use as absent (R137, R153,
R186, R202); the reply is CLAMPED exactly where such a correction was made, OK otherwise, with the new
index. The cursor moves, tables 1 and 9 grow, a WRITE of table 5 sets the edit-changed flag, one of table 8
judges the attention line again, and nothing else changes. READ of 0 entries is BAD_COMMAND, without a
cursor NO_CURSOR, not allowed DENIED, past the table's end or a reply's room BAD_LENGTH; else it replies
the entries' bytes and moves the cursor. The model's readings: NO_CURSOR whatever the data (log entry 18),
the count of a denied WRITE of table 9 (log entry 17), data beyond a payload as a CRC failure (log entry
30), a room of 4094 bytes (log entry 34). -/
def Obligations.WriteAndRead : Prop :=
  ∀ (s : State) (seq : Byte) (src : Source) (tag : Byte) (m : BitVec 16) (n : Nat),
    s.takes .command seq n = true →
    let u := s.taken .command seq n
    let replied (status : Status) : Host.Outcome State Fault Refusal :=
      .next { u with body := u.body.hand (.reply tag status []) }
    let denied : Host.Outcome State Fault Refusal :=
      .next { u with
        mgmt := { s.mgmt with denied := sat16 (s.mgmt.denied + 1) }
        body := u.body.hand (.reply tag .denied []) }
    (∀ data : List Byte,
      if 4091 < data.length then exec (.write seq src tag m data) s = exec (.inboundCrcFailure .body) s
      else if m = 0#16 then exec (.write seq src tag m data) s = replied .badCommand
      else
        match s.mgmt.cursor src with
        | none => exec (.write seq src tag m data) s = replied .noCursor
        | some ⟨k, c⟩ =>
          if data.length ≠ m.toNat * k.entryBytes then
            exec (.write seq src tag m data) s = replied .badCommand
          else if s.permits src [255 + k.code] = false ∨ (src = .panel ∧ k = .map) then
            exec (.write seq src tag m data) s = denied
          else if (k = .lens ∨ k = .speedCurve) ∧ s.zoom.mode = .run then
            exec (.write seq src tag m data) s = replied .wrongMode
          else if k.capacity < c + m.toNat ∨ (k = .lens ∧ s.zoom.lens.length < c) ∨
              (k = .map ∧ s.mgmt.mapCount < c) then
            exec (.write seq src tag m data) s = replied .badLength
          else
            s.tablesSound →
            let entries := (pieces k.entryBytes m.toNat data).map (holdEntry k)
            ∃ t, exec (.write seq src tag m data) s = .next t ∧
              t = { u with
                mgmt := Management.setCursor
                  { s.mgmt with
                    map := t.mgmt.map
                    mapCount :=
                      if k = .map then max s.mgmt.mapCount (c + m.toNat) else s.mgmt.mapCount }
                  src ⟨k, c + m.toNat⟩
                zoom := { s.zoom with lens := t.zoom.lens, curve := t.zoom.curve, presets := t.zoom.presets }
                audio := { s.audio with gainTable := t.audio.gainTable }
                vf :=
                  { s.vf with
                    editList := t.vf.editList, palette := t.vf.palette, glyphs := t.vf.glyphs
                    editChanged := decide (k = .display) || s.vf.editChanged }
                sup := { s.sup with table := t.sup.table, attention := t.sup.attention }
                body := u.body.hand (.reply tag
                  (if entries.any Prod.snd = true then .clamped else .ok) (leBytes 2 (c + m.toNat))) } ∧
              t.readTable k c m.toNat = entries.flatMap Prod.fst ∧
              (∀ k' c' m', k' ≠ k ∨ c' + m' ≤ c ∨ c + m.toNat ≤ c' →
                t.readTable k' c' m' = s.readTable k' c' m') ∧
              t.zoom.lens.length =
                (if k = .lens then max s.zoom.lens.length (c + m.toNat) else s.zoom.lens.length) ∧
              (k = .speedCurve → ∀ v ∈ (t.zoom.curve.drop c).take m.toNat, v.isSome = true) ∧
              (k ≠ .fault → t.sup.attention = s.sup.attention) ∧
              (k = .fault → (t.sup.attention = true ↔
                ∃ g, (s.sup.group g).summary = true ∧ (t.sup.entry g).notify.hasLine = true))) ∧
    if m = 0#16 then exec (.read seq src tag m) s = replied .badCommand
    else
      match s.mgmt.cursor src with
      | none => exec (.read seq src tag m) s = replied .noCursor
      | some ⟨k, c⟩ =>
        exec (.read seq src tag m) s =
          if s.permits src [255 + k.code] = false then denied
          else if s.tableEnd k < c + m.toNat ∨ 4094 < m.toNat * k.entryBytes then replied .badLength
          else
            .next { u with
              mgmt := s.mgmt.setCursor src ⟨k, c + m.toNat⟩
              body := u.body.hand (.reply tag .ok (s.readTable k c m.toNat)) }

/-! ### Scene memory -/

/-- STORE_SCENE and STORE_FIXED, allowed: an area outside 0..3 is refused with BAD_COMMAND, any store with
BUSY while an operation is in flight; taken, the area is invalid, and the operation in flight holds the copy
of the contents as they stand. -/
def Obligations.StoreActions : Prop :=
  ∀ (s : State) (seq : Byte) (src : Source) (tag area : Byte) (n : Nat),
    let u := s.taken .command seq n
    let replied (status : Status) (v : State) : Host.Outcome State Fault Refusal :=
      .next { v with body := u.body.hand (.reply tag status []) }
    (s.takesCommand seq src [28] n = true →
      (4 ≤ area.toNat → exec (.storeScene seq src tag area) s = replied .badCommand u) ∧
      (area.toNat < 4 →
        (s.scene.op ≠ .idle → exec (.storeScene seq src tag area) s = replied .busy u) ∧
        (s.scene.op = .idle → exec (.storeScene seq src tag area) s = replied .ok { u with
          scene :=
            { s.scene with
              scenes := s.scene.scenes.set (Four.ofIdx area.toNat) none
              op := .storeScene (Four.ofIdx area.toNat)
                ⟨s.items, s.zoom.presets, s.vf.editList⟩ } }))) ∧
    (s.takesCommand seq src [28, 256, 257, 259, 261, 262, 263] n = true →
      (s.scene.op ≠ .idle → exec (.storeFixed seq src tag) s = replied .busy u) ∧
      (s.scene.op = .idle → exec (.storeFixed seq src tag) s = replied .ok { u with
        scene :=
          { s.scene with
            fixed := none
            op := .storeFixed ⟨s.zoom.lens, s.zoom.curve, s.audio.gainTable, s.vf.glyphs, s.sup.table,
              s.vf.palette⟩ } }))

/-- RECALL_SCENE and RECALL_FACTORY, allowed, in the order of their checks: the area, an operation in
flight, a recording, an invalid area. A scene recall taken is in flight with the area's contents; a factory
recall loads the factory items, presets and a display list of 48 NONE entries at once. -/
def Obligations.RecallActions : Prop :=
  ∀ (s : State) (seq : Byte) (src : Source) (tag area : Byte) (n : Nat),
    s.takesCommand seq src (28 :: itemSpecs.map ItemSpec.number ++ [258, 260]) n = true →
    let u := s.taken .command seq n
    let replied (status : Status) : Host.Outcome State Fault Refusal :=
      .next { u with body := u.body.hand (.reply tag status []) }
    let atRest : Prop := s.recorder.state = .idle ∨ s.recorder.state = .standby
    (if 4 ≤ area.toNat then exec (.recallScene seq src tag area) s = replied .badCommand
     else if s.scene.op ≠ .idle then exec (.recallScene seq src tag area) s = replied .busy
     else if s.recorder.state.recording? = true then
       exec (.recallScene seq src tag area) s = replied .refusedState
     else
       match s.scene.scenes.get (Four.ofIdx area.toNat) with
       | none => exec (.recallScene seq src tag area) s = replied .tableInvalid
       | some contents =>
         exec (.recallScene seq src tag area) s = .next { u with
           scene := { s.scene with op := .recallScene (Four.ofIdx area.toNat) contents false }
           body := u.body.hand (.reply tag .ok []) }) ∧
    (s.scene.op ≠ .idle → exec (.recallFactory seq src tag) s = replied .busy) ∧
    (s.scene.op = .idle → s.recorder.state.recording? = true →
      exec (.recallFactory seq src tag) s = replied .refusedState) ∧
    (s.scene.op = .idle → atRest →
      ∃ t, exec (.recallFactory seq src tag) s = .next t ∧
        t.items = defaultItems ∧ t.zoom.presets = factoryPresets ∧
        t.vf.editList = List.replicate 48 .none ∧ t.vf.editChanged = true ∧
        t.recorder.state = .idle ∧ t.recorder.clipCounter = s.recorder.clipCounter ∧
        t.audio.limGain = .fill 65536 ∧ t.audio.gainTable = s.audio.gainTable ∧
        t.zoom.lens = s.zoom.lens ∧ t.sup = s.sup ∧ t.scene = s.scene)

/-- The ends of scene memory's operations. A store that completes makes its area valid with the copy
taken, one that fails or passes 400 ms leaves it invalid, each with a STORE notice; a recall's completion
loads the contents, keeping the three record items where a start came between, with a STORE notice; a cell
write's end makes the cell hold its number, or leaves it invalid, and a pending number starts the next
write. The ranges of a load are the model's reading (log entry 20). -/
def Obligations.SceneMemoryEnds : Prop :=
  ∀ s : State,
    (∀ n copy, s.scene.op = .storeScene n copy →
      let ended (ok : Bool) : State :=
        { s with
          out := []
          scene := { s.scene with op := .idle, scenes := s.scene.scenes.set n (if ok then some copy else none) }
          body := s.body.hand (.notice (.store (.scene n) ok)) }
      (∀ ok, exec (.storeCompletion ok) s = .next (ended ok)) ∧ exec .storeTimeout s = .next (ended false)) ∧
    (∀ copy, s.scene.op = .storeFixed copy →
      let ended (ok : Bool) : State :=
        { s with
          out := []
          scene := { s.scene with op := .idle, fixed := if ok then some copy else none }
          body := s.body.hand (.notice (.store .fixed ok)) }
      (∀ ok, exec (.storeCompletion ok) s = .next (ended ok)) ∧ exec .storeTimeout s = .next (ended false)) ∧
    (∀ n contents started, s.scene.op = .recallScene n contents started →
      ∃ t, exec .recallCompletion s = .next t ∧
        t.scene = { s.scene with op := .idle } ∧ t.zoom.presets = contents.presets ∧
        t.vf.editList = contents.display.map DisplayEntry.taken ∧ t.vf.editChanged = true ∧
        t.items =
          (let loaded := loadItems contents.items s.items
           if started = true then
             { loaded with
               record :=
                 { loaded.record with
                   mode := s.items.record.mode, activeSlot := s.items.record.activeSlot
                   preRecSeconds := s.items.record.preRecSeconds } }
           else loaded) ∧
        (s.recorder.state = .idle ∨ s.recorder.state = .standby →
          t.recorder.state = if t.items.record.preRecSeconds = 0 then .idle else .standby) ∧
        (∃ b, t.body = (b : LinkCtl).hand (.notice (.store (.scene n) true)) ∧ b.state = s.body.state) ∧
        t.sup = s.sup) ∧
    ∀ (k : Nat) (ok : Bool), s.scene.cellWrite = some k →
      exec (.cellWriteCompletion ok) s = .next { s with
        out := []
        scene := match s.scene.cellPending with
          | some p => { s.scene with cell := none, cellWrite := some p, cellPending := none }
          | none => { s.scene with cell := if ok then some k else none, cellWrite := none } }

/-! ### Silence timers -/

/-- The silence timers of the streams. Lens silence sets LENS_SILENT present, gyro silence begins gyro hold
with GYRO_LOST present, the long-gap timer marks the gap, audio silence sets AUDIO_GAP present, and the
meter lapse makes every meter and peak absent and starts the meter period again; each changes its own block
alone. -/
def Obligations.SilenceTimers : Prop :=
  ∀ (s : State) (ms : Nat),
    (s.zoom.lensSilence = .running ms →
      exec .lensSilenceTimerExpiry s = .next { s with
        out := [], zoom := { s.zoom with lensSilence := .expired, lensSilentPresent := true } }) ∧
    (s.stab.gyroSilence = .running ms →
      exec .gyroSilenceTimerExpiry s = .next { s with
        out := [], stab := { s.stab with gyroSilence := .expired, hold := true, gyroLost := true } }) ∧
    (s.stab.longGap = .running ms →
      exec .longGapTimerExpiry s = .next { s with
        out := [], stab := { s.stab with longGap := .expired } }) ∧
    (s.audio.silence = .running ms →
      exec .audioSilenceTimerExpiry s = .next { s with
        out := [], audio := { s.audio with silence := .expired, gapPresent := true } }) ∧
    (s.audio.meterLapse = .running ms →
      exec .meterLapseTimerExpiry s = .next { s with
        out := []
        audio :=
          { s.audio with
            meterLapse := .expired, meter := .fill none, peak := .fill none, peakAcc := .fill 0
            period := 0 } })
end

