-- ==== Sys2Proof/Laws/State.lean ====
section
/-! SUPPORT. What each plain update of a state leaves as it was: one theorem an update, a conjunct a field, true by
rfl, so that no later proof unfolds a record update. -/

namespace Sys2Proof.Machine

variable (s : State)

@[simp] theorem State.begin_keeps  :
    (s.begin).head = s.head ∧ (s.begin).body = s.body ∧ (s.begin).zoom = s.zoom ∧
    (s.begin).stab = s.stab ∧ (s.begin).audio = s.audio ∧ (s.begin).recorder = s.recorder ∧
    (s.begin).slotA = s.slotA ∧ (s.begin).slotB = s.slotB ∧ (s.begin).vf = s.vf ∧
    (s.begin).sup = s.sup ∧ (s.begin).mgmt = s.mgmt ∧ (s.begin).scene = s.scene ∧
    (s.begin).items = s.items ∧ (s.begin).portSeq = s.portSeq ∧ (s.begin).inReset = s.inReset ∧
    (s.begin).pending = s.pending := by
  exact ⟨rfl, rfl, rfl, rfl, rfl, rfl, rfl, rfl, rfl, rfl, rfl, rfl, rfl, rfl, rfl, rfl⟩

@[simp] theorem State.begin_out : s.begin.out = [] := rfl

@[simp] theorem State.emit_keeps (e : Emission) :
    (s.emit e).head = s.head ∧ (s.emit e).body = s.body ∧ (s.emit e).zoom = s.zoom ∧
    (s.emit e).stab = s.stab ∧ (s.emit e).audio = s.audio ∧ (s.emit e).recorder = s.recorder ∧
    (s.emit e).slotA = s.slotA ∧ (s.emit e).slotB = s.slotB ∧ (s.emit e).vf = s.vf ∧
    (s.emit e).sup = s.sup ∧ (s.emit e).mgmt = s.mgmt ∧ (s.emit e).scene = s.scene ∧
    (s.emit e).items = s.items ∧ (s.emit e).portSeq = s.portSeq ∧
    (s.emit e).inReset = s.inReset ∧ (s.emit e).pending = s.pending := by
  exact ⟨rfl, rfl, rfl, rfl, rfl, rfl, rfl, rfl, rfl, rfl, rfl, rfl, rfl, rfl, rfl, rfl⟩

@[simp] theorem State.emit_out (e : Emission) : (s.emit e).out = s.out ++ [e] := rfl

@[simp] theorem State.setLink_keeps (l : LinkId) (c : LinkCtl) :
    (s.setLink l c).zoom = s.zoom ∧ (s.setLink l c).stab = s.stab ∧
    (s.setLink l c).audio = s.audio ∧ (s.setLink l c).recorder = s.recorder ∧
    (s.setLink l c).slotA = s.slotA ∧ (s.setLink l c).slotB = s.slotB ∧
    (s.setLink l c).vf = s.vf ∧ (s.setLink l c).sup = s.sup ∧ (s.setLink l c).mgmt = s.mgmt ∧
    (s.setLink l c).scene = s.scene ∧ (s.setLink l c).items = s.items ∧
    (s.setLink l c).portSeq = s.portSeq ∧ (s.setLink l c).inReset = s.inReset ∧
    (s.setLink l c).out = s.out ∧ (s.setLink l c).pending = s.pending := by
  cases l <;> simp [State.setLink]

@[simp] theorem State.setLink_head (c : LinkCtl) :
    (s.setLink .head c).head = c ∧ (s.setLink .head c).body = s.body := ⟨rfl, rfl⟩

@[simp] theorem State.setLink_body (c : LinkCtl) :
    (s.setLink .body c).body = c ∧ (s.setLink .body c).head = s.head := ⟨rfl, rfl⟩

@[simp] theorem State.link_setLink (l : LinkId) (c : LinkCtl) : (s.setLink l c).link l = c := by
  cases l <;> rfl

@[simp] theorem State.link_head : s.link .head = s.head := rfl

@[simp] theorem State.link_body : s.link .body = s.body := rfl

@[simp] theorem State.setSlot_keeps (x : SlotId) (c : Slot) :
    (s.setSlot x c).head = s.head ∧ (s.setSlot x c).body = s.body ∧
    (s.setSlot x c).zoom = s.zoom ∧ (s.setSlot x c).stab = s.stab ∧
    (s.setSlot x c).audio = s.audio ∧ (s.setSlot x c).recorder = s.recorder ∧
    (s.setSlot x c).vf = s.vf ∧ (s.setSlot x c).sup = s.sup ∧ (s.setSlot x c).mgmt = s.mgmt ∧
    (s.setSlot x c).scene = s.scene ∧ (s.setSlot x c).items = s.items ∧
    (s.setSlot x c).portSeq = s.portSeq ∧ (s.setSlot x c).inReset = s.inReset ∧
    (s.setSlot x c).out = s.out ∧ (s.setSlot x c).pending = s.pending := by
  cases x <;> simp [State.setSlot]

@[simp] theorem State.setSlot_a (c : Slot) :
    (s.setSlot .a c).slotA = c ∧ (s.setSlot .a c).slotB = s.slotB := ⟨rfl, rfl⟩

@[simp] theorem State.setSlot_b (c : Slot) :
    (s.setSlot .b c).slotB = c ∧ (s.setSlot .b c).slotA = s.slotA := ⟨rfl, rfl⟩

@[simp] theorem State.slot_setSlot (x : SlotId) (c : Slot) : (s.setSlot x c).slot x = c := by
  cases x <;> rfl

@[simp] theorem State.slot_a : s.slot .a = s.slotA := rfl

@[simp] theorem State.slot_b : s.slot .b = s.slotB := rfl

@[simp] theorem State.hand_keeps (m : OutMsg) :
    (s.hand m).zoom = s.zoom ∧ (s.hand m).stab = s.stab ∧ (s.hand m).audio = s.audio ∧
    (s.hand m).recorder = s.recorder ∧ (s.hand m).slotA = s.slotA ∧ (s.hand m).slotB = s.slotB ∧
    (s.hand m).vf = s.vf ∧ (s.hand m).sup = s.sup ∧ (s.hand m).mgmt = s.mgmt ∧
    (s.hand m).scene = s.scene ∧ (s.hand m).items = s.items ∧ (s.hand m).portSeq = s.portSeq ∧
    (s.hand m).inReset = s.inReset ∧ (s.hand m).out = s.out ∧ (s.hand m).pending = s.pending := by
  simp [State.hand]

@[simp] theorem State.hand_zoomCmd_body (v : Int) : (s.hand (.zoomCmd v)).body = s.body := rfl

@[simp] theorem State.hand_shiftCmd_body (c : YawPitch Int) : (s.hand (.shiftCmd c)).body = s.body := rfl

@[simp] theorem State.hand_tally_body (l : Lamp) : (s.hand (.tally l)).body = s.body := rfl

@[simp] theorem State.hand_reply_head (t : Byte) (st : Status) (d : List Byte) :
    (s.hand (.reply t st d)).head = s.head := rfl

@[simp] theorem State.hand_notice_head (n : Notice) : (s.hand (.notice n)).head = s.head := rfl

@[simp] theorem State.hand_monitor_head (p : List (Int × Int)) :
    (s.hand (.monitor p)).head = s.head := rfl

@[simp] theorem State.notify_keeps (n : Notice) :
    (s.notify n).head = s.head ∧ (s.notify n).zoom = s.zoom ∧ (s.notify n).stab = s.stab ∧
    (s.notify n).audio = s.audio ∧ (s.notify n).recorder = s.recorder ∧
    (s.notify n).slotA = s.slotA ∧ (s.notify n).slotB = s.slotB ∧ (s.notify n).vf = s.vf ∧
    (s.notify n).sup = s.sup ∧ (s.notify n).mgmt = s.mgmt ∧ (s.notify n).scene = s.scene ∧
    (s.notify n).items = s.items ∧ (s.notify n).portSeq = s.portSeq ∧
    (s.notify n).inReset = s.inReset ∧ (s.notify n).out = s.out ∧
    (s.notify n).pending = s.pending := by
  simp [State.notify]

@[simp] theorem State.notifyMode_keeps (r : ModeReason) :
    (s.notifyMode r).head = s.head ∧ (s.notifyMode r).zoom = s.zoom ∧
    (s.notifyMode r).stab = s.stab ∧ (s.notifyMode r).audio = s.audio ∧
    (s.notifyMode r).recorder = s.recorder ∧ (s.notifyMode r).slotA = s.slotA ∧
    (s.notifyMode r).slotB = s.slotB ∧ (s.notifyMode r).vf = s.vf ∧
    (s.notifyMode r).sup = s.sup ∧ (s.notifyMode r).mgmt = s.mgmt ∧
    (s.notifyMode r).scene = s.scene ∧ (s.notifyMode r).items = s.items ∧
    (s.notifyMode r).portSeq = s.portSeq ∧ (s.notifyMode r).inReset = s.inReset ∧
    (s.notifyMode r).out = s.out ∧ (s.notifyMode r).pending = s.pending := by
  simp [State.notifyMode]

@[simp] theorem State.sendLinkReset_keeps (l : LinkId) :
    (s.sendLinkReset l).zoom = s.zoom ∧ (s.sendLinkReset l).stab = s.stab ∧
    (s.sendLinkReset l).audio = s.audio ∧ (s.sendLinkReset l).recorder = s.recorder ∧
    (s.sendLinkReset l).slotA = s.slotA ∧ (s.sendLinkReset l).slotB = s.slotB ∧
    (s.sendLinkReset l).vf = s.vf ∧ (s.sendLinkReset l).sup = s.sup ∧
    (s.sendLinkReset l).mgmt = s.mgmt ∧ (s.sendLinkReset l).scene = s.scene ∧
    (s.sendLinkReset l).items = s.items ∧ (s.sendLinkReset l).portSeq = s.portSeq ∧
    (s.sendLinkReset l).inReset = s.inReset ∧ (s.sendLinkReset l).pending = s.pending := by
  simp [State.sendLinkReset]

@[simp] theorem State.sendLinkReset_head_body : (s.sendLinkReset .head).body = s.body := rfl

@[simp] theorem State.sendLinkReset_body_head : (s.sendLinkReset .body).head = s.head := rfl

end Sys2Proof.Machine
end

