-- ==== Sys2Proof/Laws/Drive.lean ====
section
/-! SUPPORT. What the operations of the zoom drive, the stabiliser and the audio unit leave as it was. -/

namespace Sys2Proof.Machine

variable (s : State)

@[simp] theorem State.enterSettling_keeps  :
    (s.enterSettling).body = s.body ∧ (s.enterSettling).zoom = s.zoom ∧
    (s.enterSettling).audio = s.audio ∧ (s.enterSettling).recorder = s.recorder ∧
    (s.enterSettling).slotA = s.slotA ∧ (s.enterSettling).slotB = s.slotB ∧
    (s.enterSettling).vf = s.vf ∧ (s.enterSettling).sup = s.sup ∧
    (s.enterSettling).mgmt = s.mgmt ∧ (s.enterSettling).scene = s.scene ∧
    (s.enterSettling).items = s.items ∧ (s.enterSettling).portSeq = s.portSeq ∧
    (s.enterSettling).inReset = s.inReset ∧ (s.enterSettling).out = s.out ∧
    (s.enterSettling).pending = s.pending := by
  simp only [State.enterSettling]; simp

@[simp] theorem State.enterOff_keeps (r : StabReason) :
    (s.enterOff r).body = s.body ∧ (s.enterOff r).zoom = s.zoom ∧
    (s.enterOff r).audio = s.audio ∧ (s.enterOff r).recorder = s.recorder ∧
    (s.enterOff r).slotA = s.slotA ∧ (s.enterOff r).slotB = s.slotB ∧ (s.enterOff r).vf = s.vf ∧
    (s.enterOff r).sup = s.sup ∧ (s.enterOff r).mgmt = s.mgmt ∧ (s.enterOff r).scene = s.scene ∧
    (s.enterOff r).items = s.items ∧ (s.enterOff r).portSeq = s.portSeq ∧
    (s.enterOff r).inReset = s.inReset ∧ (s.enterOff r).out = s.out ∧
    (s.enterOff r).pending = s.pending := by
  simp only [State.enterOff]; simp

@[simp] theorem State.settleSample_keeps (r : YawPitch Int) :
    (s.settleSample r).head = s.head ∧ (s.settleSample r).zoom = s.zoom ∧
    (s.settleSample r).audio = s.audio ∧ (s.settleSample r).recorder = s.recorder ∧
    (s.settleSample r).slotA = s.slotA ∧ (s.settleSample r).slotB = s.slotB ∧
    (s.settleSample r).vf = s.vf ∧ (s.settleSample r).sup = s.sup ∧
    (s.settleSample r).mgmt = s.mgmt ∧ (s.settleSample r).scene = s.scene ∧
    (s.settleSample r).items = s.items ∧ (s.settleSample r).portSeq = s.portSeq ∧
    (s.settleSample r).inReset = s.inReset ∧ (s.settleSample r).out = s.out ∧
    (s.settleSample r).pending = s.pending := by
  simp only [State.settleSample]; (repeat' split) <;> simp

@[simp] theorem State.countDownDrop_keeps  :
    (s.countDownDrop).head = s.head ∧ (s.countDownDrop).body = s.body ∧
    (s.countDownDrop).zoom = s.zoom ∧ (s.countDownDrop).audio = s.audio ∧
    (s.countDownDrop).recorder = s.recorder ∧ (s.countDownDrop).slotA = s.slotA ∧
    (s.countDownDrop).slotB = s.slotB ∧ (s.countDownDrop).vf = s.vf ∧
    (s.countDownDrop).sup = s.sup ∧ (s.countDownDrop).mgmt = s.mgmt ∧
    (s.countDownDrop).scene = s.scene ∧ (s.countDownDrop).items = s.items ∧
    (s.countDownDrop).portSeq = s.portSeq ∧ (s.countDownDrop).inReset = s.inReset ∧
    (s.countDownDrop).out = s.out ∧ (s.countDownDrop).pending = s.pending := by
  simp only [State.countDownDrop]; simp

@[simp] theorem State.fillSample_keeps  :
    (s.fillSample).head = s.head ∧ (s.fillSample).zoom = s.zoom ∧
    (s.fillSample).audio = s.audio ∧ (s.fillSample).recorder = s.recorder ∧
    (s.fillSample).slotA = s.slotA ∧ (s.fillSample).slotB = s.slotB ∧ (s.fillSample).vf = s.vf ∧
    (s.fillSample).sup = s.sup ∧ (s.fillSample).mgmt = s.mgmt ∧ (s.fillSample).scene = s.scene ∧
    (s.fillSample).items = s.items ∧ (s.fillSample).portSeq = s.portSeq ∧
    (s.fillSample).inReset = s.inReset ∧ (s.fillSample).out = s.out ∧
    (s.fillSample).pending = s.pending := by
  simp only [State.fillSample]; (repeat' split) <;> simp

@[simp] theorem State.fillSamples_keeps (n : Nat) :
    (s.fillSamples n).head = s.head ∧ (s.fillSamples n).zoom = s.zoom ∧
    (s.fillSamples n).audio = s.audio ∧ (s.fillSamples n).recorder = s.recorder ∧
    (s.fillSamples n).slotA = s.slotA ∧ (s.fillSamples n).slotB = s.slotB ∧
    (s.fillSamples n).vf = s.vf ∧ (s.fillSamples n).sup = s.sup ∧
    (s.fillSamples n).mgmt = s.mgmt ∧ (s.fillSamples n).scene = s.scene ∧
    (s.fillSamples n).items = s.items ∧ (s.fillSamples n).portSeq = s.portSeq ∧
    (s.fillSamples n).inReset = s.inReset ∧ (s.fillSamples n).out = s.out ∧
    (s.fillSamples n).pending = s.pending := by
  induction n generalizing s with
  | zero => simp [State.fillSamples]
  | succ n ih => simp [State.fillSamples, ih]

@[simp] theorem State.takeSample_keeps (r : YawPitch Int) :
    (s.takeSample r).zoom = s.zoom ∧ (s.takeSample r).audio = s.audio ∧
    (s.takeSample r).recorder = s.recorder ∧ (s.takeSample r).slotA = s.slotA ∧
    (s.takeSample r).slotB = s.slotB ∧ (s.takeSample r).vf = s.vf ∧
    (s.takeSample r).sup = s.sup ∧ (s.takeSample r).mgmt = s.mgmt ∧
    (s.takeSample r).scene = s.scene ∧ (s.takeSample r).items = s.items ∧
    (s.takeSample r).portSeq = s.portSeq ∧ (s.takeSample r).inReset = s.inReset ∧
    (s.takeSample r).out = s.out ∧ (s.takeSample r).pending = s.pending := by
  simp only [State.takeSample]; (repeat' split) <;> simp

@[simp] theorem State.takeMotion_keeps (n : Nat) (r : YawPitch Int) :
    (s.takeMotion n r).zoom = s.zoom ∧ (s.takeMotion n r).audio = s.audio ∧
    (s.takeMotion n r).recorder = s.recorder ∧ (s.takeMotion n r).slotA = s.slotA ∧
    (s.takeMotion n r).slotB = s.slotB ∧ (s.takeMotion n r).vf = s.vf ∧
    (s.takeMotion n r).sup = s.sup ∧ (s.takeMotion n r).mgmt = s.mgmt ∧
    (s.takeMotion n r).scene = s.scene ∧ (s.takeMotion n r).items = s.items ∧
    (s.takeMotion n r).portSeq = s.portSeq ∧ (s.takeMotion n r).inReset = s.inReset ∧
    (s.takeMotion n r).out = s.out ∧ (s.takeMotion n r).pending = s.pending := by
  simp only [State.takeMotion]; (repeat' split) <;> simp

@[simp] theorem State.stabOn_keeps  :
    (s.stabOn.1).zoom = s.zoom ∧ (s.stabOn.1).audio = s.audio ∧
    (s.stabOn.1).recorder = s.recorder ∧ (s.stabOn.1).slotA = s.slotA ∧
    (s.stabOn.1).slotB = s.slotB ∧ (s.stabOn.1).vf = s.vf ∧ (s.stabOn.1).sup = s.sup ∧
    (s.stabOn.1).mgmt = s.mgmt ∧ (s.stabOn.1).scene = s.scene ∧ (s.stabOn.1).items = s.items ∧
    (s.stabOn.1).portSeq = s.portSeq ∧ (s.stabOn.1).inReset = s.inReset ∧
    (s.stabOn.1).out = s.out ∧ (s.stabOn.1).pending = s.pending := by
  simp only [State.stabOn]; (repeat' split) <;> simp

@[simp] theorem State.stabOff_keeps  :
    (s.stabOff.1).zoom = s.zoom ∧ (s.stabOff.1).audio = s.audio ∧
    (s.stabOff.1).recorder = s.recorder ∧ (s.stabOff.1).slotA = s.slotA ∧
    (s.stabOff.1).slotB = s.slotB ∧ (s.stabOff.1).vf = s.vf ∧ (s.stabOff.1).sup = s.sup ∧
    (s.stabOff.1).mgmt = s.mgmt ∧ (s.stabOff.1).scene = s.scene ∧ (s.stabOff.1).items = s.items ∧
    (s.stabOff.1).portSeq = s.portSeq ∧ (s.stabOff.1).inReset = s.inReset ∧
    (s.stabOff.1).out = s.out ∧ (s.stabOff.1).pending = s.pending := by
  simp only [State.stabOff]; (repeat' split) <;> simp

@[simp] theorem State.baselineReset_keeps  :
    (s.baselineReset.1).zoom = s.zoom ∧ (s.baselineReset.1).audio = s.audio ∧
    (s.baselineReset.1).recorder = s.recorder ∧ (s.baselineReset.1).slotA = s.slotA ∧
    (s.baselineReset.1).slotB = s.slotB ∧ (s.baselineReset.1).vf = s.vf ∧
    (s.baselineReset.1).sup = s.sup ∧ (s.baselineReset.1).mgmt = s.mgmt ∧
    (s.baselineReset.1).scene = s.scene ∧ (s.baselineReset.1).items = s.items ∧
    (s.baselineReset.1).portSeq = s.portSeq ∧ (s.baselineReset.1).inReset = s.inReset ∧
    (s.baselineReset.1).out = s.out ∧ (s.baselineReset.1).pending = s.pending := by
  simp only [State.baselineReset]; (repeat' split) <;> simp

@[simp] theorem State.faultStabOff_keeps  :
    (s.faultStabOff).zoom = s.zoom ∧ (s.faultStabOff).audio = s.audio ∧
    (s.faultStabOff).recorder = s.recorder ∧ (s.faultStabOff).slotA = s.slotA ∧
    (s.faultStabOff).slotB = s.slotB ∧ (s.faultStabOff).vf = s.vf ∧
    (s.faultStabOff).sup = s.sup ∧ (s.faultStabOff).mgmt = s.mgmt ∧
    (s.faultStabOff).scene = s.scene ∧ (s.faultStabOff).items = s.items ∧
    (s.faultStabOff).portSeq = s.portSeq ∧ (s.faultStabOff).inReset = s.inReset ∧
    (s.faultStabOff).out = s.out ∧ (s.faultStabOff).pending = s.pending := by
  simp only [State.faultStabOff]; (repeat' split) <;> simp

@[simp] theorem State.setupStabOff_keeps  :
    (s.setupStabOff).body = s.body ∧ (s.setupStabOff).zoom = s.zoom ∧
    (s.setupStabOff).audio = s.audio ∧ (s.setupStabOff).recorder = s.recorder ∧
    (s.setupStabOff).slotA = s.slotA ∧ (s.setupStabOff).slotB = s.slotB ∧
    (s.setupStabOff).vf = s.vf ∧ (s.setupStabOff).sup = s.sup ∧ (s.setupStabOff).mgmt = s.mgmt ∧
    (s.setupStabOff).scene = s.scene ∧ (s.setupStabOff).items = s.items ∧
    (s.setupStabOff).portSeq = s.portSeq ∧ (s.setupStabOff).inReset = s.inReset ∧
    (s.setupStabOff).out = s.out ∧ (s.setupStabOff).pending = s.pending := by
  simp only [State.setupStabOff]; (repeat' split) <;> simp

@[simp] theorem State.panelStab_keeps (p : Bool) :
    (s.panelStab p).zoom = s.zoom ∧ (s.panelStab p).audio = s.audio ∧
    (s.panelStab p).recorder = s.recorder ∧ (s.panelStab p).slotA = s.slotA ∧
    (s.panelStab p).slotB = s.slotB ∧ (s.panelStab p).vf = s.vf ∧ (s.panelStab p).sup = s.sup ∧
    (s.panelStab p).mgmt = s.mgmt ∧ (s.panelStab p).scene = s.scene ∧
    (s.panelStab p).items = s.items ∧ (s.panelStab p).portSeq = s.portSeq ∧
    (s.panelStab p).inReset = s.inReset ∧ (s.panelStab p).out = s.out ∧
    (s.panelStab p).pending = s.pending := by
  simp only [State.panelStab]; (repeat' split) <;> simp

@[simp] theorem State.sendZoom_keeps  :
    (s.sendZoom).body = s.body ∧ (s.sendZoom).stab = s.stab ∧ (s.sendZoom).audio = s.audio ∧
    (s.sendZoom).recorder = s.recorder ∧ (s.sendZoom).slotA = s.slotA ∧
    (s.sendZoom).slotB = s.slotB ∧ (s.sendZoom).vf = s.vf ∧ (s.sendZoom).sup = s.sup ∧
    (s.sendZoom).mgmt = s.mgmt ∧ (s.sendZoom).scene = s.scene ∧ (s.sendZoom).items = s.items ∧
    (s.sendZoom).portSeq = s.portSeq ∧ (s.sendZoom).inReset = s.inReset ∧
    (s.sendZoom).out = s.out ∧ (s.sendZoom).pending = s.pending := by
  simp only [State.sendZoom]; simp

@[simp] theorem State.loadDrop_keeps  :
    (s.loadDrop).head = s.head ∧ (s.loadDrop).body = s.body ∧ (s.loadDrop).zoom = s.zoom ∧
    (s.loadDrop).audio = s.audio ∧ (s.loadDrop).recorder = s.recorder ∧
    (s.loadDrop).slotA = s.slotA ∧ (s.loadDrop).slotB = s.slotB ∧ (s.loadDrop).vf = s.vf ∧
    (s.loadDrop).sup = s.sup ∧ (s.loadDrop).mgmt = s.mgmt ∧ (s.loadDrop).scene = s.scene ∧
    (s.loadDrop).items = s.items ∧ (s.loadDrop).portSeq = s.portSeq ∧
    (s.loadDrop).inReset = s.inReset ∧ (s.loadDrop).out = s.out ∧
    (s.loadDrop).pending = s.pending := by
  simp only [State.loadDrop]; simp

@[simp] theorem State.arbitrate_keeps  :
    (s.arbitrate).body = s.body ∧ (s.arbitrate).audio = s.audio ∧
    (s.arbitrate).recorder = s.recorder ∧ (s.arbitrate).slotA = s.slotA ∧
    (s.arbitrate).slotB = s.slotB ∧ (s.arbitrate).vf = s.vf ∧ (s.arbitrate).sup = s.sup ∧
    (s.arbitrate).mgmt = s.mgmt ∧ (s.arbitrate).scene = s.scene ∧ (s.arbitrate).items = s.items ∧
    (s.arbitrate).portSeq = s.portSeq ∧ (s.arbitrate).inReset = s.inReset ∧
    (s.arbitrate).out = s.out ∧ (s.arbitrate).pending = s.pending := by
  simp only [State.arbitrate]; (repeat' split) <;> simp

@[simp] theorem State.endMove_keeps (e : MoveEnd) :
    (s.endMove e).head = s.head ∧ (s.endMove e).stab = s.stab ∧ (s.endMove e).audio = s.audio ∧
    (s.endMove e).recorder = s.recorder ∧ (s.endMove e).slotA = s.slotA ∧
    (s.endMove e).slotB = s.slotB ∧ (s.endMove e).vf = s.vf ∧ (s.endMove e).sup = s.sup ∧
    (s.endMove e).mgmt = s.mgmt ∧ (s.endMove e).scene = s.scene ∧ (s.endMove e).items = s.items ∧
    (s.endMove e).portSeq = s.portSeq ∧ (s.endMove e).inReset = s.inReset ∧
    (s.endMove e).out = s.out ∧ (s.endMove e).pending = s.pending := by
  simp only [State.endMove]; (repeat' split) <;> simp

@[simp] theorem State.endPending_keeps (e : MoveEnd) :
    (s.endPending e).head = s.head ∧ (s.endPending e).stab = s.stab ∧
    (s.endPending e).audio = s.audio ∧ (s.endPending e).recorder = s.recorder ∧
    (s.endPending e).slotA = s.slotA ∧ (s.endPending e).slotB = s.slotB ∧
    (s.endPending e).vf = s.vf ∧ (s.endPending e).sup = s.sup ∧ (s.endPending e).mgmt = s.mgmt ∧
    (s.endPending e).scene = s.scene ∧ (s.endPending e).items = s.items ∧
    (s.endPending e).portSeq = s.portSeq ∧ (s.endPending e).inReset = s.inReset ∧
    (s.endPending e).out = s.out ∧ (s.endPending e).pending = s.pending := by
  simp only [State.endPending]; (repeat' split) <;> simp

@[simp] theorem State.stepMove_keeps  :
    (s.stepMove).head = s.head ∧ (s.stepMove).stab = s.stab ∧ (s.stepMove).audio = s.audio ∧
    (s.stepMove).recorder = s.recorder ∧ (s.stepMove).slotA = s.slotA ∧
    (s.stepMove).slotB = s.slotB ∧ (s.stepMove).vf = s.vf ∧ (s.stepMove).sup = s.sup ∧
    (s.stepMove).mgmt = s.mgmt ∧ (s.stepMove).scene = s.scene ∧ (s.stepMove).items = s.items ∧
    (s.stepMove).portSeq = s.portSeq ∧ (s.stepMove).inReset = s.inReset ∧
    (s.stepMove).out = s.out ∧ (s.stepMove).pending = s.pending := by
  simp only [State.stepMove]; (repeat' split) <;> simp

@[simp] theorem State.startPreset_keeps (n : Nat) :
    (s.startPreset n).head = s.head ∧ (s.startPreset n).stab = s.stab ∧
    (s.startPreset n).audio = s.audio ∧ (s.startPreset n).recorder = s.recorder ∧
    (s.startPreset n).slotA = s.slotA ∧ (s.startPreset n).slotB = s.slotB ∧
    (s.startPreset n).vf = s.vf ∧ (s.startPreset n).sup = s.sup ∧
    (s.startPreset n).mgmt = s.mgmt ∧ (s.startPreset n).scene = s.scene ∧
    (s.startPreset n).items = s.items ∧ (s.startPreset n).portSeq = s.portSeq ∧
    (s.startPreset n).inReset = s.inReset ∧ (s.startPreset n).out = s.out ∧
    (s.startPreset n).pending = s.pending := by
  simp only [State.startPreset]; simp

@[simp] theorem State.ignoreZoom_keeps  :
    (s.ignoreZoom).head = s.head ∧ (s.ignoreZoom).body = s.body ∧ (s.ignoreZoom).stab = s.stab ∧
    (s.ignoreZoom).audio = s.audio ∧ (s.ignoreZoom).recorder = s.recorder ∧
    (s.ignoreZoom).slotA = s.slotA ∧ (s.ignoreZoom).slotB = s.slotB ∧ (s.ignoreZoom).vf = s.vf ∧
    (s.ignoreZoom).sup = s.sup ∧ (s.ignoreZoom).mgmt = s.mgmt ∧ (s.ignoreZoom).scene = s.scene ∧
    (s.ignoreZoom).items = s.items ∧ (s.ignoreZoom).portSeq = s.portSeq ∧
    (s.ignoreZoom).inReset = s.inReset ∧ (s.ignoreZoom).out = s.out ∧
    (s.ignoreZoom).pending = s.pending := by
  simp only [State.ignoreZoom]; simp

@[simp] theorem State.requestPreset_keeps (b : Bool) (n : Nat) :
    ((s.requestPreset b n).1).head = s.head ∧ ((s.requestPreset b n).1).stab = s.stab ∧
    ((s.requestPreset b n).1).audio = s.audio ∧ ((s.requestPreset b n).1).recorder = s.recorder ∧
    ((s.requestPreset b n).1).slotA = s.slotA ∧ ((s.requestPreset b n).1).slotB = s.slotB ∧
    ((s.requestPreset b n).1).vf = s.vf ∧ ((s.requestPreset b n).1).sup = s.sup ∧
    ((s.requestPreset b n).1).mgmt = s.mgmt ∧ ((s.requestPreset b n).1).scene = s.scene ∧
    ((s.requestPreset b n).1).items = s.items ∧ ((s.requestPreset b n).1).portSeq = s.portSeq ∧
    ((s.requestPreset b n).1).inReset = s.inReset ∧ ((s.requestPreset b n).1).out = s.out ∧
    ((s.requestPreset b n).1).pending = s.pending := by
  simp only [State.requestPreset]; (repeat' split) <;> simp

@[simp] theorem State.zoomPreset_keeps (n : Nat) :
    ((s.zoomPreset n).1).audio = s.audio ∧ ((s.zoomPreset n).1).recorder = s.recorder ∧
    ((s.zoomPreset n).1).slotA = s.slotA ∧ ((s.zoomPreset n).1).slotB = s.slotB ∧
    ((s.zoomPreset n).1).vf = s.vf ∧ ((s.zoomPreset n).1).sup = s.sup ∧
    ((s.zoomPreset n).1).mgmt = s.mgmt ∧ ((s.zoomPreset n).1).scene = s.scene ∧
    ((s.zoomPreset n).1).items = s.items ∧ ((s.zoomPreset n).1).portSeq = s.portSeq ∧
    ((s.zoomPreset n).1).inReset = s.inReset ∧ ((s.zoomPreset n).1).out = s.out ∧
    ((s.zoomPreset n).1).pending = s.pending := by
  simp only [State.zoomPreset]; (repeat' split) <;> simp

@[simp] theorem State.zoomStop_keeps  :
    (s.zoomStop.1).audio = s.audio ∧ (s.zoomStop.1).recorder = s.recorder ∧
    (s.zoomStop.1).slotA = s.slotA ∧ (s.zoomStop.1).slotB = s.slotB ∧ (s.zoomStop.1).vf = s.vf ∧
    (s.zoomStop.1).sup = s.sup ∧ (s.zoomStop.1).mgmt = s.mgmt ∧ (s.zoomStop.1).scene = s.scene ∧
    (s.zoomStop.1).items = s.items ∧ (s.zoomStop.1).portSeq = s.portSeq ∧
    (s.zoomStop.1).inReset = s.inReset ∧ (s.zoomStop.1).out = s.out ∧
    (s.zoomStop.1).pending = s.pending := by
  simp only [State.zoomStop]; simp

@[simp] theorem State.stopArises_keeps (b : Bool) :
    (s.stopArises b).head = s.head ∧ (s.stopArises b).stab = s.stab ∧
    (s.stopArises b).audio = s.audio ∧ (s.stopArises b).recorder = s.recorder ∧
    (s.stopArises b).slotA = s.slotA ∧ (s.stopArises b).slotB = s.slotB ∧
    (s.stopArises b).vf = s.vf ∧ (s.stopArises b).sup = s.sup ∧ (s.stopArises b).mgmt = s.mgmt ∧
    (s.stopArises b).scene = s.scene ∧ (s.stopArises b).items = s.items ∧
    (s.stopArises b).portSeq = s.portSeq ∧ (s.stopArises b).inReset = s.inReset ∧
    (s.stopArises b).out = s.out ∧ (s.stopArises b).pending = s.pending := by
  simp only [State.stopArises]; (repeat' split) <;> simp

@[simp] theorem State.faultZoomStop_keeps (g : Group) :
    (s.faultZoomStop g).audio = s.audio ∧ (s.faultZoomStop g).recorder = s.recorder ∧
    (s.faultZoomStop g).slotA = s.slotA ∧ (s.faultZoomStop g).slotB = s.slotB ∧
    (s.faultZoomStop g).vf = s.vf ∧ (s.faultZoomStop g).sup = s.sup ∧
    (s.faultZoomStop g).mgmt = s.mgmt ∧ (s.faultZoomStop g).scene = s.scene ∧
    (s.faultZoomStop g).items = s.items ∧ (s.faultZoomStop g).portSeq = s.portSeq ∧
    (s.faultZoomStop g).inReset = s.inReset ∧ (s.faultZoomStop g).out = s.out ∧
    (s.faultZoomStop g).pending = s.pending := by
  simp only [State.faultZoomStop]; simp

@[simp] theorem State.releaseStop_keeps (g : Group) :
    (s.releaseStop g).body = s.body ∧ (s.releaseStop g).audio = s.audio ∧
    (s.releaseStop g).recorder = s.recorder ∧ (s.releaseStop g).slotA = s.slotA ∧
    (s.releaseStop g).slotB = s.slotB ∧ (s.releaseStop g).vf = s.vf ∧
    (s.releaseStop g).sup = s.sup ∧ (s.releaseStop g).mgmt = s.mgmt ∧
    (s.releaseStop g).scene = s.scene ∧ (s.releaseStop g).items = s.items ∧
    (s.releaseStop g).portSeq = s.portSeq ∧ (s.releaseStop g).inReset = s.inReset ∧
    (s.releaseStop g).out = s.out ∧ (s.releaseStop g).pending = s.pending := by
  simp only [State.releaseStop]; simp

@[simp] theorem State.panelRocker_keeps (d : Int) :
    (s.panelRocker d).head = s.head ∧ (s.panelRocker d).stab = s.stab ∧
    (s.panelRocker d).audio = s.audio ∧ (s.panelRocker d).recorder = s.recorder ∧
    (s.panelRocker d).slotA = s.slotA ∧ (s.panelRocker d).slotB = s.slotB ∧
    (s.panelRocker d).vf = s.vf ∧ (s.panelRocker d).sup = s.sup ∧
    (s.panelRocker d).mgmt = s.mgmt ∧ (s.panelRocker d).scene = s.scene ∧
    (s.panelRocker d).items = s.items ∧ (s.panelRocker d).portSeq = s.portSeq ∧
    (s.panelRocker d).inReset = s.inReset ∧ (s.panelRocker d).out = s.out ∧
    (s.panelRocker d).pending = s.pending := by
  simp only [State.panelRocker]; (repeat' split) <;> simp

@[simp] theorem State.presetEdge_keeps (e : Bool) (n : Nat) :
    (s.presetEdge e n).head = s.head ∧ (s.presetEdge e n).stab = s.stab ∧
    (s.presetEdge e n).audio = s.audio ∧ (s.presetEdge e n).recorder = s.recorder ∧
    (s.presetEdge e n).slotA = s.slotA ∧ (s.presetEdge e n).slotB = s.slotB ∧
    (s.presetEdge e n).vf = s.vf ∧ (s.presetEdge e n).sup = s.sup ∧
    (s.presetEdge e n).mgmt = s.mgmt ∧ (s.presetEdge e n).scene = s.scene ∧
    (s.presetEdge e n).items = s.items ∧ (s.presetEdge e n).portSeq = s.portSeq ∧
    (s.presetEdge e n).inReset = s.inReset ∧ (s.presetEdge e n).out = s.out ∧
    (s.presetEdge e n).pending = s.pending := by
  simp only [State.presetEdge]; (repeat' split) <;> simp

@[simp] theorem State.panelZoom_keeps (d : Int) (a b : Bool) :
    (s.panelZoom d a b).audio = s.audio ∧ (s.panelZoom d a b).recorder = s.recorder ∧
    (s.panelZoom d a b).slotA = s.slotA ∧ (s.panelZoom d a b).slotB = s.slotB ∧
    (s.panelZoom d a b).vf = s.vf ∧ (s.panelZoom d a b).sup = s.sup ∧
    (s.panelZoom d a b).mgmt = s.mgmt ∧ (s.panelZoom d a b).scene = s.scene ∧
    (s.panelZoom d a b).items = s.items ∧ (s.panelZoom d a b).portSeq = s.portSeq ∧
    (s.panelZoom d a b).inReset = s.inReset ∧ (s.panelZoom d a b).out = s.out ∧
    (s.panelZoom d a b).pending = s.pending := by
  simp only [State.panelZoom]; simp

@[simp] theorem State.rockerLapse_keeps  :
    (s.rockerLapse).audio = s.audio ∧ (s.rockerLapse).recorder = s.recorder ∧
    (s.rockerLapse).slotA = s.slotA ∧ (s.rockerLapse).slotB = s.slotB ∧
    (s.rockerLapse).vf = s.vf ∧ (s.rockerLapse).sup = s.sup ∧ (s.rockerLapse).mgmt = s.mgmt ∧
    (s.rockerLapse).scene = s.scene ∧ (s.rockerLapse).items = s.items ∧
    (s.rockerLapse).portSeq = s.portSeq ∧ (s.rockerLapse).inReset = s.inReset ∧
    (s.rockerLapse).out = s.out ∧ (s.rockerLapse).pending = s.pending := by
  simp only [State.rockerLapse]; simp

@[simp] theorem State.takeLensReport_keeps (r : LensReport) :
    (s.takeLensReport r).audio = s.audio ∧ (s.takeLensReport r).recorder = s.recorder ∧
    (s.takeLensReport r).slotA = s.slotA ∧ (s.takeLensReport r).slotB = s.slotB ∧
    (s.takeLensReport r).vf = s.vf ∧ (s.takeLensReport r).sup = s.sup ∧
    (s.takeLensReport r).mgmt = s.mgmt ∧ (s.takeLensReport r).scene = s.scene ∧
    (s.takeLensReport r).items = s.items ∧ (s.takeLensReport r).portSeq = s.portSeq ∧
    (s.takeLensReport r).inReset = s.inReset ∧ (s.takeLensReport r).out = s.out ∧
    (s.takeLensReport r).pending = s.pending := by
  simp only [State.takeLensReport]; simp

@[simp] theorem State.enterRun_keeps  :
    (s.enterRun.1).head = s.head ∧ (s.enterRun.1).stab = s.stab ∧
    (s.enterRun.1).audio = s.audio ∧ (s.enterRun.1).recorder = s.recorder ∧
    (s.enterRun.1).slotA = s.slotA ∧ (s.enterRun.1).slotB = s.slotB ∧ (s.enterRun.1).vf = s.vf ∧
    (s.enterRun.1).sup = s.sup ∧ (s.enterRun.1).mgmt = s.mgmt ∧ (s.enterRun.1).scene = s.scene ∧
    (s.enterRun.1).items = s.items ∧ (s.enterRun.1).portSeq = s.portSeq ∧
    (s.enterRun.1).inReset = s.inReset ∧ (s.enterRun.1).out = s.out ∧
    (s.enterRun.1).pending = s.pending := by
  simp only [State.enterRun]; (repeat' split) <;> simp

@[simp] theorem State.enterSetup_keeps  :
    (s.enterSetup.1).audio = s.audio ∧ (s.enterSetup.1).recorder = s.recorder ∧
    (s.enterSetup.1).slotA = s.slotA ∧ (s.enterSetup.1).slotB = s.slotB ∧
    (s.enterSetup.1).vf = s.vf ∧ (s.enterSetup.1).sup = s.sup ∧ (s.enterSetup.1).mgmt = s.mgmt ∧
    (s.enterSetup.1).scene = s.scene ∧ (s.enterSetup.1).items = s.items ∧
    (s.enterSetup.1).portSeq = s.portSeq ∧ (s.enterSetup.1).inReset = s.inReset ∧
    (s.enterSetup.1).out = s.out ∧ (s.enterSetup.1).pending = s.pending := by
  simp only [State.enterSetup]; (repeat' split) <;> simp

@[simp] theorem State.lensTableClear_keeps  :
    (s.lensTableClear.1).head = s.head ∧ (s.lensTableClear.1).body = s.body ∧
    (s.lensTableClear.1).stab = s.stab ∧ (s.lensTableClear.1).audio = s.audio ∧
    (s.lensTableClear.1).recorder = s.recorder ∧ (s.lensTableClear.1).slotA = s.slotA ∧
    (s.lensTableClear.1).slotB = s.slotB ∧ (s.lensTableClear.1).vf = s.vf ∧
    (s.lensTableClear.1).sup = s.sup ∧ (s.lensTableClear.1).mgmt = s.mgmt ∧
    (s.lensTableClear.1).scene = s.scene ∧ (s.lensTableClear.1).items = s.items ∧
    (s.lensTableClear.1).portSeq = s.portSeq ∧ (s.lensTableClear.1).inReset = s.inReset ∧
    (s.lensTableClear.1).out = s.out ∧ (s.lensTableClear.1).pending = s.pending := by
  simp only [State.lensTableClear]; (repeat' split) <;> simp

@[simp] theorem State.processAudio_keeps (x : List (Quad Int)) :
    (s.processAudio x).head = s.head ∧ (s.processAudio x).zoom = s.zoom ∧
    (s.processAudio x).stab = s.stab ∧ (s.processAudio x).recorder = s.recorder ∧
    (s.processAudio x).slotA = s.slotA ∧ (s.processAudio x).slotB = s.slotB ∧
    (s.processAudio x).vf = s.vf ∧ (s.processAudio x).sup = s.sup ∧
    (s.processAudio x).mgmt = s.mgmt ∧ (s.processAudio x).scene = s.scene ∧
    (s.processAudio x).items = s.items ∧ (s.processAudio x).portSeq = s.portSeq ∧
    (s.processAudio x).inReset = s.inReset ∧ (s.processAudio x).out = s.out ∧
    (s.processAudio x).pending = s.pending := by
  simp only [State.processAudio]; simp

@[simp] theorem State.fillAudio_keeps (n : Nat) :
    (s.fillAudio n).head = s.head ∧ (s.fillAudio n).zoom = s.zoom ∧
    (s.fillAudio n).stab = s.stab ∧ (s.fillAudio n).recorder = s.recorder ∧
    (s.fillAudio n).slotA = s.slotA ∧ (s.fillAudio n).slotB = s.slotB ∧
    (s.fillAudio n).vf = s.vf ∧ (s.fillAudio n).sup = s.sup ∧ (s.fillAudio n).mgmt = s.mgmt ∧
    (s.fillAudio n).scene = s.scene ∧ (s.fillAudio n).items = s.items ∧
    (s.fillAudio n).portSeq = s.portSeq ∧ (s.fillAudio n).inReset = s.inReset ∧
    (s.fillAudio n).out = s.out ∧ (s.fillAudio n).pending = s.pending := by
  induction n generalizing s with
  | zero => simp [State.fillAudio]
  | succ n ih => simp [State.fillAudio, ih]

@[simp] theorem State.takeAudio_keeps (n : Nat) (x : List (Quad Int)) :
    (s.takeAudio n x).head = s.head ∧ (s.takeAudio n x).zoom = s.zoom ∧
    (s.takeAudio n x).stab = s.stab ∧ (s.takeAudio n x).recorder = s.recorder ∧
    (s.takeAudio n x).slotA = s.slotA ∧ (s.takeAudio n x).slotB = s.slotB ∧
    (s.takeAudio n x).vf = s.vf ∧ (s.takeAudio n x).sup = s.sup ∧
    (s.takeAudio n x).mgmt = s.mgmt ∧ (s.takeAudio n x).scene = s.scene ∧
    (s.takeAudio n x).items = s.items ∧ (s.takeAudio n x).portSeq = s.portSeq ∧
    (s.takeAudio n x).inReset = s.inReset ∧ (s.takeAudio n x).out = s.out ∧
    (s.takeAudio n x).pending = s.pending := by
  simp only [State.takeAudio]; (repeat' split) <;> simp

end Sys2Proof.Machine
end

