-- ==== Sys2Proof/Laws/Recording.lean ====
section
/-! SUPPORT. What the operations of the record assembler and the slots leave as it was. -/

namespace Sys2Proof.Machine

variable (s : State)

@[simp] theorem State.setRecState_keeps (st : RecState) (r : RecReason) :
    (s.setRecState st r).zoom = s.zoom ∧ (s.setRecState st r).stab = s.stab ∧
    (s.setRecState st r).audio = s.audio ∧ (s.setRecState st r).slotA = s.slotA ∧
    (s.setRecState st r).slotB = s.slotB ∧ (s.setRecState st r).vf = s.vf ∧
    (s.setRecState st r).sup = s.sup ∧ (s.setRecState st r).mgmt = s.mgmt ∧
    (s.setRecState st r).scene = s.scene ∧ (s.setRecState st r).items = s.items ∧
    (s.setRecState st r).portSeq = s.portSeq ∧ (s.setRecState st r).inReset = s.inReset ∧
    (s.setRecState st r).out = s.out ∧ (s.setRecState st r).pending = s.pending := by
  simp only [State.setRecState]; (repeat' split) <;> simp

@[simp] theorem State.endRecording_keeps (r : RecReason) :
    (s.endRecording r).zoom = s.zoom ∧ (s.endRecording r).stab = s.stab ∧
    (s.endRecording r).audio = s.audio ∧ (s.endRecording r).slotA = s.slotA ∧
    (s.endRecording r).slotB = s.slotB ∧ (s.endRecording r).vf = s.vf ∧
    (s.endRecording r).sup = s.sup ∧ (s.endRecording r).mgmt = s.mgmt ∧
    (s.endRecording r).scene = s.scene ∧ (s.endRecording r).items = s.items ∧
    (s.endRecording r).portSeq = s.portSeq ∧ (s.endRecording r).inReset = s.inReset ∧
    (s.endRecording r).out = s.out ∧ (s.endRecording r).pending = s.pending := by
  simp only [State.endRecording]; (repeat' split) <;> simp

@[simp] theorem State.afterPartEnd_keeps  :
    (s.afterPartEnd).zoom = s.zoom ∧ (s.afterPartEnd).stab = s.stab ∧
    (s.afterPartEnd).audio = s.audio ∧ (s.afterPartEnd).slotA = s.slotA ∧
    (s.afterPartEnd).slotB = s.slotB ∧ (s.afterPartEnd).vf = s.vf ∧
    (s.afterPartEnd).sup = s.sup ∧ (s.afterPartEnd).mgmt = s.mgmt ∧
    (s.afterPartEnd).scene = s.scene ∧ (s.afterPartEnd).items = s.items ∧
    (s.afterPartEnd).portSeq = s.portSeq ∧ (s.afterPartEnd).inReset = s.inReset ∧
    (s.afterPartEnd).out = s.out ∧ (s.afterPartEnd).pending = s.pending := by
  simp only [State.afterPartEnd]; (repeat' split) <;> simp

@[simp] theorem State.modifyPart_keeps (x : SlotId) (f : ClipPart → ClipPart) :
    (s.modifyPart x f).head = s.head ∧ (s.modifyPart x f).body = s.body ∧
    (s.modifyPart x f).zoom = s.zoom ∧ (s.modifyPart x f).stab = s.stab ∧
    (s.modifyPart x f).audio = s.audio ∧ (s.modifyPart x f).slotA = s.slotA ∧
    (s.modifyPart x f).slotB = s.slotB ∧ (s.modifyPart x f).vf = s.vf ∧
    (s.modifyPart x f).sup = s.sup ∧ (s.modifyPart x f).mgmt = s.mgmt ∧
    (s.modifyPart x f).scene = s.scene ∧ (s.modifyPart x f).items = s.items ∧
    (s.modifyPart x f).portSeq = s.portSeq ∧ (s.modifyPart x f).inReset = s.inReset ∧
    (s.modifyPart x f).out = s.out ∧ (s.modifyPart x f).pending = s.pending := by
  simp only [State.modifyPart]; simp

@[simp] theorem State.modifySlot_keeps (x : SlotId) (f : Slot → Slot) :
    (s.modifySlot x f).head = s.head ∧ (s.modifySlot x f).body = s.body ∧
    (s.modifySlot x f).zoom = s.zoom ∧ (s.modifySlot x f).stab = s.stab ∧
    (s.modifySlot x f).audio = s.audio ∧ (s.modifySlot x f).recorder = s.recorder ∧
    (s.modifySlot x f).vf = s.vf ∧ (s.modifySlot x f).sup = s.sup ∧
    (s.modifySlot x f).mgmt = s.mgmt ∧ (s.modifySlot x f).scene = s.scene ∧
    (s.modifySlot x f).items = s.items ∧ (s.modifySlot x f).portSeq = s.portSeq ∧
    (s.modifySlot x f).inReset = s.inReset ∧ (s.modifySlot x f).out = s.out ∧
    (s.modifySlot x f).pending = s.pending := by
  simp only [State.modifySlot]; simp

@[simp] theorem State.modifyCounts_keeps (x : SlotId) (f : SlotPart → SlotPart) :
    (s.modifyCounts x f).head = s.head ∧ (s.modifyCounts x f).body = s.body ∧
    (s.modifyCounts x f).zoom = s.zoom ∧ (s.modifyCounts x f).stab = s.stab ∧
    (s.modifyCounts x f).audio = s.audio ∧ (s.modifyCounts x f).recorder = s.recorder ∧
    (s.modifyCounts x f).vf = s.vf ∧ (s.modifyCounts x f).sup = s.sup ∧
    (s.modifyCounts x f).mgmt = s.mgmt ∧ (s.modifyCounts x f).scene = s.scene ∧
    (s.modifyCounts x f).items = s.items ∧ (s.modifyCounts x f).portSeq = s.portSeq ∧
    (s.modifyCounts x f).inReset = s.inReset ∧ (s.modifyCounts x f).out = s.out ∧
    (s.modifyCounts x f).pending = s.pending := by
  simp only [State.modifyCounts]; simp

@[simp] theorem State.releaseUnit_keeps (id : Nat) :
    (s.releaseUnit id).head = s.head ∧ (s.releaseUnit id).body = s.body ∧
    (s.releaseUnit id).zoom = s.zoom ∧ (s.releaseUnit id).stab = s.stab ∧
    (s.releaseUnit id).audio = s.audio ∧ (s.releaseUnit id).slotA = s.slotA ∧
    (s.releaseUnit id).slotB = s.slotB ∧ (s.releaseUnit id).vf = s.vf ∧
    (s.releaseUnit id).sup = s.sup ∧ (s.releaseUnit id).mgmt = s.mgmt ∧
    (s.releaseUnit id).scene = s.scene ∧ (s.releaseUnit id).items = s.items ∧
    (s.releaseUnit id).portSeq = s.portSeq ∧ (s.releaseUnit id).inReset = s.inReset ∧
    (s.releaseUnit id).out = s.out ∧ (s.releaseUnit id).pending = s.pending := by
  simp only [State.releaseUnit]; simp

@[simp] theorem State.issue_keeps (x : SlotId) (b : RequestBody) :
    (s.issue x b).head = s.head ∧ (s.issue x b).body = s.body ∧ (s.issue x b).zoom = s.zoom ∧
    (s.issue x b).stab = s.stab ∧ (s.issue x b).audio = s.audio ∧
    (s.issue x b).recorder = s.recorder ∧ (s.issue x b).vf = s.vf ∧ (s.issue x b).sup = s.sup ∧
    (s.issue x b).mgmt = s.mgmt ∧ (s.issue x b).scene = s.scene ∧ (s.issue x b).items = s.items ∧
    (s.issue x b).portSeq = s.portSeq ∧ (s.issue x b).inReset = s.inReset ∧
    (s.issue x b).pending = s.pending := by
  simp only [State.issue]; (repeat' split) <;> simp

@[simp] theorem State.staleCompletion_keeps (x : SlotId) :
    (s.staleCompletion x).head = s.head ∧ (s.staleCompletion x).body = s.body ∧
    (s.staleCompletion x).zoom = s.zoom ∧ (s.staleCompletion x).stab = s.stab ∧
    (s.staleCompletion x).audio = s.audio ∧ (s.staleCompletion x).recorder = s.recorder ∧
    (s.staleCompletion x).vf = s.vf ∧ (s.staleCompletion x).sup = s.sup ∧
    (s.staleCompletion x).mgmt = s.mgmt ∧ (s.staleCompletion x).scene = s.scene ∧
    (s.staleCompletion x).items = s.items ∧ (s.staleCompletion x).portSeq = s.portSeq ∧
    (s.staleCompletion x).inReset = s.inReset ∧ (s.staleCompletion x).out = s.out ∧
    (s.staleCompletion x).pending = s.pending := by
  simp only [State.staleCompletion]; simp

@[simp] theorem State.slotTo_keeps (x : SlotId) (st : SlotState) (r : SlotReason) :
    (s.slotTo x st r).head = s.head ∧ (s.slotTo x st r).zoom = s.zoom ∧
    (s.slotTo x st r).stab = s.stab ∧ (s.slotTo x st r).audio = s.audio ∧
    (s.slotTo x st r).recorder = s.recorder ∧ (s.slotTo x st r).vf = s.vf ∧
    (s.slotTo x st r).sup = s.sup ∧ (s.slotTo x st r).mgmt = s.mgmt ∧
    (s.slotTo x st r).scene = s.scene ∧ (s.slotTo x st r).items = s.items ∧
    (s.slotTo x st r).portSeq = s.portSeq ∧ (s.slotTo x st r).inReset = s.inReset ∧
    (s.slotTo x st r).out = s.out ∧ (s.slotTo x st r).pending = s.pending := by
  simp only [State.slotTo]; simp

@[simp] theorem State.startMount_keeps (x : SlotId) (r : SlotReason) :
    (s.startMount x r).head = s.head ∧ (s.startMount x r).zoom = s.zoom ∧
    (s.startMount x r).stab = s.stab ∧ (s.startMount x r).audio = s.audio ∧
    (s.startMount x r).recorder = s.recorder ∧ (s.startMount x r).vf = s.vf ∧
    (s.startMount x r).sup = s.sup ∧ (s.startMount x r).mgmt = s.mgmt ∧
    (s.startMount x r).scene = s.scene ∧ (s.startMount x r).items = s.items ∧
    (s.startMount x r).portSeq = s.portSeq ∧ (s.startMount x r).inReset = s.inReset ∧
    (s.startMount x r).pending = s.pending := by
  simp only [State.startMount]; simp

@[simp] theorem State.takeInsertion_keeps (x : SlotId) :
    (s.takeInsertion x).head = s.head ∧ (s.takeInsertion x).zoom = s.zoom ∧
    (s.takeInsertion x).stab = s.stab ∧ (s.takeInsertion x).audio = s.audio ∧
    (s.takeInsertion x).recorder = s.recorder ∧ (s.takeInsertion x).vf = s.vf ∧
    (s.takeInsertion x).sup = s.sup ∧ (s.takeInsertion x).mgmt = s.mgmt ∧
    (s.takeInsertion x).scene = s.scene ∧ (s.takeInsertion x).items = s.items ∧
    (s.takeInsertion x).portSeq = s.portSeq ∧ (s.takeInsertion x).inReset = s.inReset ∧
    (s.takeInsertion x).pending = s.pending := by
  simp only [State.takeInsertion]; (repeat' split) <;> simp

@[simp] theorem State.mountOk_keeps (x : SlotId) (n : Nat) :
    (s.mountOk x n).head = s.head ∧ (s.mountOk x n).zoom = s.zoom ∧
    (s.mountOk x n).stab = s.stab ∧ (s.mountOk x n).audio = s.audio ∧
    (s.mountOk x n).recorder = s.recorder ∧ (s.mountOk x n).vf = s.vf ∧
    (s.mountOk x n).sup = s.sup ∧ (s.mountOk x n).mgmt = s.mgmt ∧
    (s.mountOk x n).scene = s.scene ∧ (s.mountOk x n).items = s.items ∧
    (s.mountOk x n).portSeq = s.portSeq ∧ (s.mountOk x n).inReset = s.inReset ∧
    (s.mountOk x n).out = s.out ∧ (s.mountOk x n).pending = s.pending := by
  simp only [State.mountOk]; simp

@[simp] theorem State.mountError_keeps (x : SlotId) :
    (s.mountError x).head = s.head ∧ (s.mountError x).zoom = s.zoom ∧
    (s.mountError x).stab = s.stab ∧ (s.mountError x).audio = s.audio ∧
    (s.mountError x).recorder = s.recorder ∧ (s.mountError x).vf = s.vf ∧
    (s.mountError x).sup = s.sup ∧ (s.mountError x).mgmt = s.mgmt ∧
    (s.mountError x).scene = s.scene ∧ (s.mountError x).items = s.items ∧
    (s.mountError x).portSeq = s.portSeq ∧ (s.mountError x).inReset = s.inReset ∧
    (s.mountError x).out = s.out ∧ (s.mountError x).pending = s.pending := by
  simp only [State.mountError]; simp

@[simp] theorem State.clearHold_keeps (n : Nat) :
    ((s.clearHold n).1).head = s.head ∧ ((s.clearHold n).1).zoom = s.zoom ∧
    ((s.clearHold n).1).stab = s.stab ∧ ((s.clearHold n).1).audio = s.audio ∧
    ((s.clearHold n).1).recorder = s.recorder ∧ ((s.clearHold n).1).vf = s.vf ∧
    ((s.clearHold n).1).sup = s.sup ∧ ((s.clearHold n).1).mgmt = s.mgmt ∧
    ((s.clearHold n).1).scene = s.scene ∧ ((s.clearHold n).1).items = s.items ∧
    ((s.clearHold n).1).portSeq = s.portSeq ∧ ((s.clearHold n).1).inReset = s.inReset ∧
    ((s.clearHold n).1).pending = s.pending := by
  simp only [State.clearHold]; (repeat' split) <;> simp

@[simp] theorem State.issueWrite_keeps (x : SlotId) :
    (s.issueWrite x).head = s.head ∧ (s.issueWrite x).body = s.body ∧
    (s.issueWrite x).zoom = s.zoom ∧ (s.issueWrite x).stab = s.stab ∧
    (s.issueWrite x).audio = s.audio ∧ (s.issueWrite x).recorder = s.recorder ∧
    (s.issueWrite x).vf = s.vf ∧ (s.issueWrite x).sup = s.sup ∧ (s.issueWrite x).mgmt = s.mgmt ∧
    (s.issueWrite x).scene = s.scene ∧ (s.issueWrite x).items = s.items ∧
    (s.issueWrite x).portSeq = s.portSeq ∧ (s.issueWrite x).inReset = s.inReset ∧
    (s.issueWrite x).pending = s.pending := by
  simp only [State.issueWrite]; (repeat' split) <;> simp

@[simp] theorem State.issueClose_keeps (x : SlotId) :
    (s.issueClose x).head = s.head ∧ (s.issueClose x).body = s.body ∧
    (s.issueClose x).zoom = s.zoom ∧ (s.issueClose x).stab = s.stab ∧
    (s.issueClose x).audio = s.audio ∧ (s.issueClose x).recorder = s.recorder ∧
    (s.issueClose x).vf = s.vf ∧ (s.issueClose x).sup = s.sup ∧ (s.issueClose x).mgmt = s.mgmt ∧
    (s.issueClose x).scene = s.scene ∧ (s.issueClose x).items = s.items ∧
    (s.issueClose x).portSeq = s.portSeq ∧ (s.issueClose x).inReset = s.inReset ∧
    (s.issueClose x).pending = s.pending := by
  simp only [State.issueClose]; (repeat' split) <;> simp

@[simp] theorem State.continueSlot_keeps (x : SlotId) :
    (s.continueSlot x).head = s.head ∧ (s.continueSlot x).body = s.body ∧
    (s.continueSlot x).zoom = s.zoom ∧ (s.continueSlot x).stab = s.stab ∧
    (s.continueSlot x).audio = s.audio ∧ (s.continueSlot x).recorder = s.recorder ∧
    (s.continueSlot x).vf = s.vf ∧ (s.continueSlot x).sup = s.sup ∧
    (s.continueSlot x).mgmt = s.mgmt ∧ (s.continueSlot x).scene = s.scene ∧
    (s.continueSlot x).items = s.items ∧ (s.continueSlot x).portSeq = s.portSeq ∧
    (s.continueSlot x).inReset = s.inReset ∧ (s.continueSlot x).pending = s.pending := by
  simp only [State.continueSlot]; simp

@[simp] theorem State.beginClose_keeps (x : SlotId) (r : CloseReason) :
    (s.beginClose x r).head = s.head ∧ (s.beginClose x r).zoom = s.zoom ∧
    (s.beginClose x r).stab = s.stab ∧ (s.beginClose x r).audio = s.audio ∧
    (s.beginClose x r).vf = s.vf ∧ (s.beginClose x r).sup = s.sup ∧
    (s.beginClose x r).mgmt = s.mgmt ∧ (s.beginClose x r).scene = s.scene ∧
    (s.beginClose x r).items = s.items ∧ (s.beginClose x r).portSeq = s.portSeq ∧
    (s.beginClose x r).inReset = s.inReset ∧ (s.beginClose x r).pending = s.pending := by
  simp only [State.beginClose]; (repeat' split) <;> simp

@[simp] theorem State.closeAll_keeps (xs : List SlotId) (f : State → SlotId → CloseReason) :
    (xs.foldl (fun s x => s.beginClose x (f s x)) s).head = s.head ∧
    (xs.foldl (fun s x => s.beginClose x (f s x)) s).zoom = s.zoom ∧
    (xs.foldl (fun s x => s.beginClose x (f s x)) s).stab = s.stab ∧
    (xs.foldl (fun s x => s.beginClose x (f s x)) s).audio = s.audio ∧
    (xs.foldl (fun s x => s.beginClose x (f s x)) s).vf = s.vf ∧
    (xs.foldl (fun s x => s.beginClose x (f s x)) s).sup = s.sup ∧
    (xs.foldl (fun s x => s.beginClose x (f s x)) s).mgmt = s.mgmt ∧
    (xs.foldl (fun s x => s.beginClose x (f s x)) s).scene = s.scene ∧
    (xs.foldl (fun s x => s.beginClose x (f s x)) s).items = s.items ∧
    (xs.foldl (fun s x => s.beginClose x (f s x)) s).portSeq = s.portSeq ∧
    (xs.foldl (fun s x => s.beginClose x (f s x)) s).inReset = s.inReset ∧
    (xs.foldl (fun s x => s.beginClose x (f s x)) s).pending = s.pending := by
  induction xs generalizing s with
  | nil => simp
  | cons x xs ih => simp [ih]

@[simp] theorem State.enterStopping_keeps (r : RecReason) :
    (s.enterStopping r).zoom = s.zoom ∧ (s.enterStopping r).stab = s.stab ∧
    (s.enterStopping r).audio = s.audio ∧ (s.enterStopping r).vf = s.vf ∧
    (s.enterStopping r).sup = s.sup ∧ (s.enterStopping r).mgmt = s.mgmt ∧
    (s.enterStopping r).scene = s.scene ∧ (s.enterStopping r).items = s.items ∧
    (s.enterStopping r).portSeq = s.portSeq ∧ (s.enterStopping r).inReset = s.inReset ∧
    (s.enterStopping r).pending = s.pending := by
  simp only [State.enterStopping]; simp

@[simp] theorem State.requestStop_keeps (r : RecReason) :
    (s.requestStop r).zoom = s.zoom ∧ (s.requestStop r).stab = s.stab ∧
    (s.requestStop r).audio = s.audio ∧ (s.requestStop r).vf = s.vf ∧
    (s.requestStop r).sup = s.sup ∧ (s.requestStop r).mgmt = s.mgmt ∧
    (s.requestStop r).scene = s.scene ∧ (s.requestStop r).items = s.items ∧
    (s.requestStop r).portSeq = s.portSeq ∧ (s.requestStop r).inReset = s.inReset ∧
    (s.requestStop r).pending = s.pending := by
  simp only [State.requestStop]; (repeat' split) <;> simp

@[simp] theorem State.createPart_keeps (x : SlotId) (c n : Nat) :
    (s.createPart x c n).head = s.head ∧ (s.createPart x c n).zoom = s.zoom ∧
    (s.createPart x c n).stab = s.stab ∧ (s.createPart x c n).audio = s.audio ∧
    (s.createPart x c n).vf = s.vf ∧ (s.createPart x c n).sup = s.sup ∧
    (s.createPart x c n).mgmt = s.mgmt ∧ (s.createPart x c n).scene = s.scene ∧
    (s.createPart x c n).items = s.items ∧ (s.createPart x c n).portSeq = s.portSeq ∧
    (s.createPart x c n).inReset = s.inReset ∧ (s.createPart x c n).pending = s.pending := by
  simp only [State.createPart]; simp

@[simp] theorem State.judgeUnit_keeps (x : SlotId) (id : Nat) :
    ((s.judgeUnit x id).1).head = s.head ∧ ((s.judgeUnit x id).1).body = s.body ∧
    ((s.judgeUnit x id).1).zoom = s.zoom ∧ ((s.judgeUnit x id).1).stab = s.stab ∧
    ((s.judgeUnit x id).1).audio = s.audio ∧ ((s.judgeUnit x id).1).vf = s.vf ∧
    ((s.judgeUnit x id).1).sup = s.sup ∧ ((s.judgeUnit x id).1).mgmt = s.mgmt ∧
    ((s.judgeUnit x id).1).scene = s.scene ∧ ((s.judgeUnit x id).1).items = s.items ∧
    ((s.judgeUnit x id).1).portSeq = s.portSeq ∧ ((s.judgeUnit x id).1).inReset = s.inReset ∧
    ((s.judgeUnit x id).1).pending = s.pending := by
  simp only [State.judgeUnit]; (repeat' split) <;> simp

@[simp] theorem State.offerOnce_keeps (x : SlotId) (id : Nat) :
    ((s.offerOnce x id).1).head = s.head ∧ ((s.offerOnce x id).1).body = s.body ∧
    ((s.offerOnce x id).1).zoom = s.zoom ∧ ((s.offerOnce x id).1).stab = s.stab ∧
    ((s.offerOnce x id).1).audio = s.audio ∧ ((s.offerOnce x id).1).vf = s.vf ∧
    ((s.offerOnce x id).1).sup = s.sup ∧ ((s.offerOnce x id).1).mgmt = s.mgmt ∧
    ((s.offerOnce x id).1).scene = s.scene ∧ ((s.offerOnce x id).1).items = s.items ∧
    ((s.offerOnce x id).1).portSeq = s.portSeq ∧ ((s.offerOnce x id).1).inReset = s.inReset ∧
    ((s.offerOnce x id).1).pending = s.pending := by
  simp only [State.offerOnce]; simp

@[simp] theorem State.refuseSingle_keeps (x : SlotId) :
    (s.refuseSingle x).zoom = s.zoom ∧ (s.refuseSingle x).stab = s.stab ∧
    (s.refuseSingle x).audio = s.audio ∧ (s.refuseSingle x).vf = s.vf ∧
    (s.refuseSingle x).sup = s.sup ∧ (s.refuseSingle x).mgmt = s.mgmt ∧
    (s.refuseSingle x).scene = s.scene ∧ (s.refuseSingle x).items = s.items ∧
    (s.refuseSingle x).portSeq = s.portSeq ∧ (s.refuseSingle x).inReset = s.inReset ∧
    (s.refuseSingle x).pending = s.pending := by
  simp only [State.refuseSingle]; simp

@[simp] theorem State.refuseDual_keeps (x : SlotId) :
    (s.refuseDual x).zoom = s.zoom ∧ (s.refuseDual x).stab = s.stab ∧
    (s.refuseDual x).audio = s.audio ∧ (s.refuseDual x).vf = s.vf ∧
    (s.refuseDual x).sup = s.sup ∧ (s.refuseDual x).mgmt = s.mgmt ∧
    (s.refuseDual x).scene = s.scene ∧ (s.refuseDual x).items = s.items ∧
    (s.refuseDual x).portSeq = s.portSeq ∧ (s.refuseDual x).inReset = s.inReset ∧
    (s.refuseDual x).pending = s.pending := by
  simp only [State.refuseDual]; (repeat' split) <;> simp

@[simp] theorem State.relayHandover_keeps (x : SlotId) (id : Nat) :
    (s.relayHandover x id).zoom = s.zoom ∧ (s.relayHandover x id).stab = s.stab ∧
    (s.relayHandover x id).audio = s.audio ∧ (s.relayHandover x id).vf = s.vf ∧
    (s.relayHandover x id).sup = s.sup ∧ (s.relayHandover x id).mgmt = s.mgmt ∧
    (s.relayHandover x id).scene = s.scene ∧ (s.relayHandover x id).items = s.items ∧
    (s.relayHandover x id).portSeq = s.portSeq ∧ (s.relayHandover x id).inReset = s.inReset ∧
    (s.relayHandover x id).pending = s.pending := by
  simp only [State.relayHandover]; (repeat' split) <;> simp

@[simp] theorem State.refusedForSpace_keeps (x : SlotId) (id : Nat) :
    (s.refusedForSpace x id).zoom = s.zoom ∧ (s.refusedForSpace x id).stab = s.stab ∧
    (s.refusedForSpace x id).audio = s.audio ∧ (s.refusedForSpace x id).vf = s.vf ∧
    (s.refusedForSpace x id).sup = s.sup ∧ (s.refusedForSpace x id).mgmt = s.mgmt ∧
    (s.refusedForSpace x id).scene = s.scene ∧ (s.refusedForSpace x id).items = s.items ∧
    (s.refusedForSpace x id).portSeq = s.portSeq ∧ (s.refusedForSpace x id).inReset = s.inReset ∧
    (s.refusedForSpace x id).pending = s.pending := by
  simp only [State.refusedForSpace]; (repeat' split) <;> simp

@[simp] theorem State.offer_keeps (id : Nat) (x : SlotId) :
    (s.offer id x).zoom = s.zoom ∧ (s.offer id x).stab = s.stab ∧
    (s.offer id x).audio = s.audio ∧ (s.offer id x).vf = s.vf ∧ (s.offer id x).sup = s.sup ∧
    (s.offer id x).mgmt = s.mgmt ∧ (s.offer id x).scene = s.scene ∧
    (s.offer id x).items = s.items ∧ (s.offer id x).portSeq = s.portSeq ∧
    (s.offer id x).inReset = s.inReset ∧ (s.offer id x).pending = s.pending := by
  simp only [State.offer]; (repeat' split) <;> simp

@[simp] theorem State.offerEach_keeps (xs : List SlotId) (id : Nat) :
    (xs.foldl (fun s x => s.offer id x) s).zoom = s.zoom ∧
    (xs.foldl (fun s x => s.offer id x) s).stab = s.stab ∧
    (xs.foldl (fun s x => s.offer id x) s).audio = s.audio ∧
    (xs.foldl (fun s x => s.offer id x) s).vf = s.vf ∧
    (xs.foldl (fun s x => s.offer id x) s).sup = s.sup ∧
    (xs.foldl (fun s x => s.offer id x) s).mgmt = s.mgmt ∧
    (xs.foldl (fun s x => s.offer id x) s).scene = s.scene ∧
    (xs.foldl (fun s x => s.offer id x) s).items = s.items ∧
    (xs.foldl (fun s x => s.offer id x) s).portSeq = s.portSeq ∧
    (xs.foldl (fun s x => s.offer id x) s).inReset = s.inReset ∧
    (xs.foldl (fun s x => s.offer id x) s).pending = s.pending := by
  induction xs generalizing s with
  | nil => simp
  | cons x xs ih => simp [ih]

@[simp] theorem State.offerAll_keeps (id : Nat) :
    (s.offerAll id).zoom = s.zoom ∧ (s.offerAll id).stab = s.stab ∧
    (s.offerAll id).audio = s.audio ∧ (s.offerAll id).vf = s.vf ∧ (s.offerAll id).sup = s.sup ∧
    (s.offerAll id).mgmt = s.mgmt ∧ (s.offerAll id).scene = s.scene ∧
    (s.offerAll id).items = s.items ∧ (s.offerAll id).portSeq = s.portSeq ∧
    (s.offerAll id).inReset = s.inReset ∧ (s.offerAll id).pending = s.pending := by
  simp only [State.offerAll]; simp

@[simp] theorem State.endPart_keeps (x : SlotId) :
    (s.endPart x).zoom = s.zoom ∧ (s.endPart x).stab = s.stab ∧ (s.endPart x).audio = s.audio ∧
    (s.endPart x).slotA = s.slotA ∧ (s.endPart x).slotB = s.slotB ∧ (s.endPart x).vf = s.vf ∧
    (s.endPart x).sup = s.sup ∧ (s.endPart x).mgmt = s.mgmt ∧ (s.endPart x).scene = s.scene ∧
    (s.endPart x).items = s.items ∧ (s.endPart x).portSeq = s.portSeq ∧
    (s.endPart x).inReset = s.inReset ∧ (s.endPart x).out = s.out ∧
    (s.endPart x).pending = s.pending := by
  simp only [State.endPart]; simp

@[simp] theorem State.releaseQueue_keeps (x : SlotId) :
    (s.releaseQueue x).head = s.head ∧ (s.releaseQueue x).body = s.body ∧
    (s.releaseQueue x).zoom = s.zoom ∧ (s.releaseQueue x).stab = s.stab ∧
    (s.releaseQueue x).audio = s.audio ∧ (s.releaseQueue x).vf = s.vf ∧
    (s.releaseQueue x).sup = s.sup ∧ (s.releaseQueue x).mgmt = s.mgmt ∧
    (s.releaseQueue x).scene = s.scene ∧ (s.releaseQueue x).items = s.items ∧
    (s.releaseQueue x).portSeq = s.portSeq ∧ (s.releaseQueue x).inReset = s.inReset ∧
    (s.releaseQueue x).out = s.out ∧ (s.releaseQueue x).pending = s.pending := by
  simp only [State.releaseQueue]; simp

@[simp] theorem State.loseInFlight_keeps (x : SlotId) :
    (s.loseInFlight x).head = s.head ∧ (s.loseInFlight x).body = s.body ∧
    (s.loseInFlight x).zoom = s.zoom ∧ (s.loseInFlight x).stab = s.stab ∧
    (s.loseInFlight x).audio = s.audio ∧ (s.loseInFlight x).vf = s.vf ∧
    (s.loseInFlight x).sup = s.sup ∧ (s.loseInFlight x).mgmt = s.mgmt ∧
    (s.loseInFlight x).scene = s.scene ∧ (s.loseInFlight x).items = s.items ∧
    (s.loseInFlight x).portSeq = s.portSeq ∧ (s.loseInFlight x).inReset = s.inReset ∧
    (s.loseInFlight x).out = s.out ∧ (s.loseInFlight x).pending = s.pending := by
  simp only [State.loseInFlight]; (repeat' split) <;> simp

@[simp] theorem State.damagePart_keeps (x : SlotId) :
    (s.damagePart x).head = s.head ∧ (s.damagePart x).body = s.body ∧
    (s.damagePart x).zoom = s.zoom ∧ (s.damagePart x).stab = s.stab ∧
    (s.damagePart x).audio = s.audio ∧ (s.damagePart x).recorder = s.recorder ∧
    (s.damagePart x).vf = s.vf ∧ (s.damagePart x).sup = s.sup ∧ (s.damagePart x).mgmt = s.mgmt ∧
    (s.damagePart x).scene = s.scene ∧ (s.damagePart x).items = s.items ∧
    (s.damagePart x).portSeq = s.portSeq ∧ (s.damagePart x).inReset = s.inReset ∧
    (s.damagePart x).out = s.out ∧ (s.damagePart x).pending = s.pending := by
  simp only [State.damagePart]; simp

@[simp] theorem State.reportOpened_keeps  :
    (s.reportOpened).zoom = s.zoom ∧ (s.reportOpened).stab = s.stab ∧
    (s.reportOpened).audio = s.audio ∧ (s.reportOpened).slotA = s.slotA ∧
    (s.reportOpened).slotB = s.slotB ∧ (s.reportOpened).vf = s.vf ∧
    (s.reportOpened).sup = s.sup ∧ (s.reportOpened).mgmt = s.mgmt ∧
    (s.reportOpened).scene = s.scene ∧ (s.reportOpened).items = s.items ∧
    (s.reportOpened).portSeq = s.portSeq ∧ (s.reportOpened).inReset = s.inReset ∧
    (s.reportOpened).out = s.out ∧ (s.reportOpened).pending = s.pending := by
  simp only [State.reportOpened]; (repeat' split) <;> simp

@[simp] theorem State.partOpenOk_keeps (x : SlotId) :
    (s.partOpenOk x).zoom = s.zoom ∧ (s.partOpenOk x).stab = s.stab ∧
    (s.partOpenOk x).audio = s.audio ∧ (s.partOpenOk x).vf = s.vf ∧
    (s.partOpenOk x).sup = s.sup ∧ (s.partOpenOk x).mgmt = s.mgmt ∧
    (s.partOpenOk x).scene = s.scene ∧ (s.partOpenOk x).items = s.items ∧
    (s.partOpenOk x).portSeq = s.portSeq ∧ (s.partOpenOk x).inReset = s.inReset ∧
    (s.partOpenOk x).pending = s.pending := by
  simp only [State.partOpenOk]; (repeat' split) <;> simp

@[simp] theorem State.partOpenError_keeps (x : SlotId) :
    (s.partOpenError x).zoom = s.zoom ∧ (s.partOpenError x).stab = s.stab ∧
    (s.partOpenError x).audio = s.audio ∧ (s.partOpenError x).vf = s.vf ∧
    (s.partOpenError x).sup = s.sup ∧ (s.partOpenError x).mgmt = s.mgmt ∧
    (s.partOpenError x).scene = s.scene ∧ (s.partOpenError x).items = s.items ∧
    (s.partOpenError x).portSeq = s.portSeq ∧ (s.partOpenError x).inReset = s.inReset ∧
    (s.partOpenError x).pending = s.pending := by
  simp only [State.partOpenError]; (repeat' split) <;> simp

@[simp] theorem State.unitWriteOk_keeps (x : SlotId) :
    (s.unitWriteOk x).head = s.head ∧ (s.unitWriteOk x).body = s.body ∧
    (s.unitWriteOk x).zoom = s.zoom ∧ (s.unitWriteOk x).stab = s.stab ∧
    (s.unitWriteOk x).audio = s.audio ∧ (s.unitWriteOk x).vf = s.vf ∧
    (s.unitWriteOk x).sup = s.sup ∧ (s.unitWriteOk x).mgmt = s.mgmt ∧
    (s.unitWriteOk x).scene = s.scene ∧ (s.unitWriteOk x).items = s.items ∧
    (s.unitWriteOk x).portSeq = s.portSeq ∧ (s.unitWriteOk x).inReset = s.inReset ∧
    (s.unitWriteOk x).pending = s.pending := by
  simp only [State.unitWriteOk]; (repeat' split) <;> simp

@[simp] theorem State.writeSkip_keeps (x : SlotId) :
    (s.writeSkip x).head = s.head ∧ (s.writeSkip x).body = s.body ∧
    (s.writeSkip x).zoom = s.zoom ∧ (s.writeSkip x).stab = s.stab ∧
    (s.writeSkip x).audio = s.audio ∧ (s.writeSkip x).vf = s.vf ∧ (s.writeSkip x).sup = s.sup ∧
    (s.writeSkip x).mgmt = s.mgmt ∧ (s.writeSkip x).scene = s.scene ∧
    (s.writeSkip x).items = s.items ∧ (s.writeSkip x).portSeq = s.portSeq ∧
    (s.writeSkip x).inReset = s.inReset ∧ (s.writeSkip x).pending = s.pending := by
  simp only [State.writeSkip]; (repeat' split) <;> simp

@[simp] theorem State.writeAbort_keeps (x : SlotId) :
    (s.writeAbort x).head = s.head ∧ (s.writeAbort x).zoom = s.zoom ∧
    (s.writeAbort x).stab = s.stab ∧ (s.writeAbort x).audio = s.audio ∧
    (s.writeAbort x).vf = s.vf ∧ (s.writeAbort x).sup = s.sup ∧ (s.writeAbort x).mgmt = s.mgmt ∧
    (s.writeAbort x).scene = s.scene ∧ (s.writeAbort x).items = s.items ∧
    (s.writeAbort x).portSeq = s.portSeq ∧ (s.writeAbort x).inReset = s.inReset ∧
    (s.writeAbort x).pending = s.pending := by
  simp only [State.writeAbort]; simp

@[simp] theorem State.unitWriteError_keeps (x : SlotId) :
    (s.unitWriteError x).head = s.head ∧ (s.unitWriteError x).zoom = s.zoom ∧
    (s.unitWriteError x).stab = s.stab ∧ (s.unitWriteError x).audio = s.audio ∧
    (s.unitWriteError x).vf = s.vf ∧ (s.unitWriteError x).sup = s.sup ∧
    (s.unitWriteError x).mgmt = s.mgmt ∧ (s.unitWriteError x).scene = s.scene ∧
    (s.unitWriteError x).items = s.items ∧ (s.unitWriteError x).portSeq = s.portSeq ∧
    (s.unitWriteError x).inReset = s.inReset ∧ (s.unitWriteError x).pending = s.pending := by
  simp only [State.unitWriteError]; (repeat' split) <;> simp

@[simp] theorem State.partCloseEnd_keeps (x : SlotId) (ok : Bool) :
    (s.partCloseEnd x ok).zoom = s.zoom ∧ (s.partCloseEnd x ok).stab = s.stab ∧
    (s.partCloseEnd x ok).audio = s.audio ∧ (s.partCloseEnd x ok).vf = s.vf ∧
    (s.partCloseEnd x ok).sup = s.sup ∧ (s.partCloseEnd x ok).mgmt = s.mgmt ∧
    (s.partCloseEnd x ok).scene = s.scene ∧ (s.partCloseEnd x ok).items = s.items ∧
    (s.partCloseEnd x ok).portSeq = s.portSeq ∧ (s.partCloseEnd x ok).inReset = s.inReset ∧
    (s.partCloseEnd x ok).out = s.out ∧ (s.partCloseEnd x ok).pending = s.pending := by
  simp only [State.partCloseEnd]; (repeat' split) <;> simp

@[simp] theorem State.requestError_keeps (x : SlotId) :
    (s.requestError x).zoom = s.zoom ∧ (s.requestError x).stab = s.stab ∧
    (s.requestError x).audio = s.audio ∧ (s.requestError x).vf = s.vf ∧
    (s.requestError x).sup = s.sup ∧ (s.requestError x).mgmt = s.mgmt ∧
    (s.requestError x).scene = s.scene ∧ (s.requestError x).items = s.items ∧
    (s.requestError x).portSeq = s.portSeq ∧ (s.requestError x).inReset = s.inReset ∧
    (s.requestError x).pending = s.pending := by
  simp only [State.requestError]; (repeat' split) <;> simp

@[simp] theorem State.removeActive_keeps (x : SlotId) :
    (s.removeActive x).zoom = s.zoom ∧ (s.removeActive x).stab = s.stab ∧
    (s.removeActive x).audio = s.audio ∧ (s.removeActive x).vf = s.vf ∧
    (s.removeActive x).sup = s.sup ∧ (s.removeActive x).mgmt = s.mgmt ∧
    (s.removeActive x).scene = s.scene ∧ (s.removeActive x).items = s.items ∧
    (s.removeActive x).portSeq = s.portSeq ∧ (s.removeActive x).inReset = s.inReset ∧
    (s.removeActive x).out = s.out ∧ (s.removeActive x).pending = s.pending := by
  simp only [State.removeActive]; simp

@[simp] theorem State.takeRemoval_keeps (x : SlotId) :
    (s.takeRemoval x).zoom = s.zoom ∧ (s.takeRemoval x).stab = s.stab ∧
    (s.takeRemoval x).audio = s.audio ∧ (s.takeRemoval x).vf = s.vf ∧
    (s.takeRemoval x).sup = s.sup ∧ (s.takeRemoval x).mgmt = s.mgmt ∧
    (s.takeRemoval x).scene = s.scene ∧ (s.takeRemoval x).items = s.items ∧
    (s.takeRemoval x).portSeq = s.portSeq ∧ (s.takeRemoval x).inReset = s.inReset ∧
    (s.takeRemoval x).pending = s.pending := by
  simp only [State.takeRemoval]; (repeat' split) <;> simp

@[simp] theorem State.dispose_keeps (u : RecordUnit) :
    (s.dispose u).zoom = s.zoom ∧ (s.dispose u).stab = s.stab ∧ (s.dispose u).audio = s.audio ∧
    (s.dispose u).vf = s.vf ∧ (s.dispose u).sup = s.sup ∧ (s.dispose u).mgmt = s.mgmt ∧
    (s.dispose u).scene = s.scene ∧ (s.dispose u).items = s.items ∧
    (s.dispose u).portSeq = s.portSeq ∧ (s.dispose u).inReset = s.inReset ∧
    (s.dispose u).pending = s.pending := by
  simp only [State.dispose]; (repeat' split) <;> simp

@[simp] theorem State.judgeLoss_keeps (u : RecordUnit) :
    (s.judgeLoss u).zoom = s.zoom ∧ (s.judgeLoss u).stab = s.stab ∧
    (s.judgeLoss u).audio = s.audio ∧ (s.judgeLoss u).vf = s.vf ∧ (s.judgeLoss u).sup = s.sup ∧
    (s.judgeLoss u).mgmt = s.mgmt ∧ (s.judgeLoss u).scene = s.scene ∧
    (s.judgeLoss u).items = s.items ∧ (s.judgeLoss u).portSeq = s.portSeq ∧
    (s.judgeLoss u).inReset = s.inReset ∧ (s.judgeLoss u).pending = s.pending := by
  simp only [State.judgeLoss]; (repeat' split) <;> simp

@[simp] theorem State.closeUnit_keeps (n : Nat) (a : Quad (List Int)) (b : Quad Nat) :
    (s.closeUnit n a b).zoom = s.zoom ∧ (s.closeUnit n a b).stab = s.stab ∧
    (s.closeUnit n a b).audio = s.audio ∧ (s.closeUnit n a b).vf = s.vf ∧
    (s.closeUnit n a b).sup = s.sup ∧ (s.closeUnit n a b).mgmt = s.mgmt ∧
    (s.closeUnit n a b).scene = s.scene ∧ (s.closeUnit n a b).items = s.items ∧
    (s.closeUnit n a b).portSeq = s.portSeq ∧ (s.closeUnit n a b).inReset = s.inReset ∧
    (s.closeUnit n a b).pending = s.pending := by
  simp only [State.closeUnit]; (repeat' split) <;> simp

@[simp] theorem State.closeFrame_keeps  :
    (s.closeFrame).zoom = s.zoom ∧ (s.closeFrame).stab = s.stab ∧ (s.closeFrame).vf = s.vf ∧
    (s.closeFrame).sup = s.sup ∧ (s.closeFrame).mgmt = s.mgmt ∧ (s.closeFrame).scene = s.scene ∧
    (s.closeFrame).items = s.items ∧ (s.closeFrame).portSeq = s.portSeq ∧
    (s.closeFrame).inReset = s.inReset ∧ (s.closeFrame).pending = s.pending := by
  simp only [State.closeFrame]; (repeat' split) <;> simp

@[simp] theorem State.endClose_keeps  :
    (s.endClose).zoom = s.zoom ∧ (s.endClose).stab = s.stab ∧ (s.endClose).audio = s.audio ∧
    (s.endClose).vf = s.vf ∧ (s.endClose).sup = s.sup ∧ (s.endClose).mgmt = s.mgmt ∧
    (s.endClose).scene = s.scene ∧ (s.endClose).items = s.items ∧
    (s.endClose).portSeq = s.portSeq ∧ (s.endClose).inReset = s.inReset ∧
    (s.endClose).pending = s.pending := by
  simp only [State.endClose]; (repeat' split) <;> simp

@[simp] theorem State.emptyRing_keeps  :
    (s.emptyRing).head = s.head ∧ (s.emptyRing).body = s.body ∧ (s.emptyRing).zoom = s.zoom ∧
    (s.emptyRing).stab = s.stab ∧ (s.emptyRing).audio = s.audio ∧ (s.emptyRing).slotA = s.slotA ∧
    (s.emptyRing).slotB = s.slotB ∧ (s.emptyRing).vf = s.vf ∧ (s.emptyRing).sup = s.sup ∧
    (s.emptyRing).mgmt = s.mgmt ∧ (s.emptyRing).scene = s.scene ∧ (s.emptyRing).items = s.items ∧
    (s.emptyRing).portSeq = s.portSeq ∧ (s.emptyRing).inReset = s.inReset ∧
    (s.emptyRing).out = s.out ∧ (s.emptyRing).pending = s.pending := by
  simp only [State.emptyRing]; simp

@[simp] theorem State.markGap_keeps (m : OpenFrame) :
    (s.markGap m).head = s.head ∧ (s.markGap m).body = s.body ∧ (s.markGap m).zoom = s.zoom ∧
    (s.markGap m).stab = s.stab ∧ (s.markGap m).audio = s.audio ∧ (s.markGap m).slotA = s.slotA ∧
    (s.markGap m).slotB = s.slotB ∧ (s.markGap m).vf = s.vf ∧ (s.markGap m).sup = s.sup ∧
    (s.markGap m).mgmt = s.mgmt ∧ (s.markGap m).scene = s.scene ∧ (s.markGap m).items = s.items ∧
    (s.markGap m).portSeq = s.portSeq ∧ (s.markGap m).inReset = s.inReset ∧
    (s.markGap m).out = s.out ∧ (s.markGap m).pending = s.pending := by
  simp only [State.markGap]; (repeat' split) <;> simp

@[simp] theorem State.openNew_keeps (m : OpenFrame) :
    (s.openNew m).head = s.head ∧ (s.openNew m).body = s.body ∧ (s.openNew m).zoom = s.zoom ∧
    (s.openNew m).stab = s.stab ∧ (s.openNew m).audio = s.audio ∧ (s.openNew m).slotA = s.slotA ∧
    (s.openNew m).slotB = s.slotB ∧ (s.openNew m).vf = s.vf ∧ (s.openNew m).sup = s.sup ∧
    (s.openNew m).mgmt = s.mgmt ∧ (s.openNew m).scene = s.scene ∧ (s.openNew m).items = s.items ∧
    (s.openNew m).portSeq = s.portSeq ∧ (s.openNew m).inReset = s.inReset ∧
    (s.openNew m).out = s.out ∧ (s.openNew m).pending = s.pending := by
  simp only [State.openNew]; (repeat' split) <;> simp

@[simp] theorem State.takeFrameMark_keeps (m : OpenFrame) :
    (s.takeFrameMark m).zoom = s.zoom ∧ (s.takeFrameMark m).stab = s.stab ∧
    (s.takeFrameMark m).vf = s.vf ∧ (s.takeFrameMark m).sup = s.sup ∧
    (s.takeFrameMark m).mgmt = s.mgmt ∧ (s.takeFrameMark m).scene = s.scene ∧
    (s.takeFrameMark m).items = s.items ∧ (s.takeFrameMark m).portSeq = s.portSeq ∧
    (s.takeFrameMark m).inReset = s.inReset ∧ (s.takeFrameMark m).pending = s.pending := by
  simp only [State.takeFrameMark]; (repeat' split) <;> simp

@[simp] theorem State.markSilenceExpires_keeps  :
    (s.markSilenceExpires).zoom = s.zoom ∧ (s.markSilenceExpires).stab = s.stab ∧
    (s.markSilenceExpires).vf = s.vf ∧ (s.markSilenceExpires).sup = s.sup ∧
    (s.markSilenceExpires).mgmt = s.mgmt ∧ (s.markSilenceExpires).scene = s.scene ∧
    (s.markSilenceExpires).items = s.items ∧ (s.markSilenceExpires).portSeq = s.portSeq ∧
    (s.markSilenceExpires).inReset = s.inReset ∧ (s.markSilenceExpires).pending = s.pending := by
  simp only [State.markSilenceExpires]; simp

@[simp] theorem State.advanceClip_keeps  :
    (s.advanceClip).head = s.head ∧ (s.advanceClip).body = s.body ∧
    (s.advanceClip).zoom = s.zoom ∧ (s.advanceClip).stab = s.stab ∧
    (s.advanceClip).audio = s.audio ∧ (s.advanceClip).slotA = s.slotA ∧
    (s.advanceClip).slotB = s.slotB ∧ (s.advanceClip).vf = s.vf ∧ (s.advanceClip).sup = s.sup ∧
    (s.advanceClip).mgmt = s.mgmt ∧ (s.advanceClip).items = s.items ∧
    (s.advanceClip).portSeq = s.portSeq ∧ (s.advanceClip).inReset = s.inReset ∧
    (s.advanceClip).out = s.out ∧ (s.advanceClip).pending = s.pending := by
  simp only [State.advanceClip]; simp

@[simp] theorem State.discardParts_keeps  :
    (s.discardParts).head = s.head ∧ (s.discardParts).body = s.body ∧
    (s.discardParts).zoom = s.zoom ∧ (s.discardParts).stab = s.stab ∧
    (s.discardParts).audio = s.audio ∧ (s.discardParts).vf = s.vf ∧
    (s.discardParts).sup = s.sup ∧ (s.discardParts).mgmt = s.mgmt ∧
    (s.discardParts).scene = s.scene ∧ (s.discardParts).items = s.items ∧
    (s.discardParts).portSeq = s.portSeq ∧ (s.discardParts).inReset = s.inReset ∧
    (s.discardParts).out = s.out ∧ (s.discardParts).pending = s.pending := by
  simp only [State.discardParts]; simp

@[simp] theorem State.createParts_keeps (xs : List SlotId) :
    (xs.foldl (fun s x => s.createPart x s.recorder.clipCounter 1) s).head = s.head ∧
    (xs.foldl (fun s x => s.createPart x s.recorder.clipCounter 1) s).zoom = s.zoom ∧
    (xs.foldl (fun s x => s.createPart x s.recorder.clipCounter 1) s).stab = s.stab ∧
    (xs.foldl (fun s x => s.createPart x s.recorder.clipCounter 1) s).audio = s.audio ∧
    (xs.foldl (fun s x => s.createPart x s.recorder.clipCounter 1) s).vf = s.vf ∧
    (xs.foldl (fun s x => s.createPart x s.recorder.clipCounter 1) s).sup = s.sup ∧
    (xs.foldl (fun s x => s.createPart x s.recorder.clipCounter 1) s).mgmt = s.mgmt ∧
    (xs.foldl (fun s x => s.createPart x s.recorder.clipCounter 1) s).scene = s.scene ∧
    (xs.foldl (fun s x => s.createPart x s.recorder.clipCounter 1) s).items = s.items ∧
    (xs.foldl (fun s x => s.createPart x s.recorder.clipCounter 1) s).portSeq = s.portSeq ∧
    (xs.foldl (fun s x => s.createPart x s.recorder.clipCounter 1) s).inReset = s.inReset ∧
    (xs.foldl (fun s x => s.createPart x s.recorder.clipCounter 1) s).pending = s.pending := by
  induction xs generalizing s with
  | nil => simp
  | cons x xs ih => simp [ih]

@[simp] theorem State.passRingUnit_keeps (id : Nat) :
    (s.passRingUnit id).zoom = s.zoom ∧ (s.passRingUnit id).stab = s.stab ∧
    (s.passRingUnit id).audio = s.audio ∧ (s.passRingUnit id).vf = s.vf ∧
    (s.passRingUnit id).sup = s.sup ∧ (s.passRingUnit id).mgmt = s.mgmt ∧
    (s.passRingUnit id).scene = s.scene ∧ (s.passRingUnit id).items = s.items ∧
    (s.passRingUnit id).portSeq = s.portSeq ∧ (s.passRingUnit id).inReset = s.inReset ∧
    (s.passRingUnit id).pending = s.pending := by
  simp only [State.passRingUnit]; simp

@[simp] theorem State.passUnits_keeps (ids : List Nat) :
    (ids.foldl State.passRingUnit s).zoom = s.zoom ∧
    (ids.foldl State.passRingUnit s).stab = s.stab ∧
    (ids.foldl State.passRingUnit s).audio = s.audio ∧
    (ids.foldl State.passRingUnit s).vf = s.vf ∧ (ids.foldl State.passRingUnit s).sup = s.sup ∧
    (ids.foldl State.passRingUnit s).mgmt = s.mgmt ∧
    (ids.foldl State.passRingUnit s).scene = s.scene ∧
    (ids.foldl State.passRingUnit s).items = s.items ∧
    (ids.foldl State.passRingUnit s).portSeq = s.portSeq ∧
    (ids.foldl State.passRingUnit s).inReset = s.inReset ∧
    (ids.foldl State.passRingUnit s).pending = s.pending := by
  induction ids generalizing s with
  | nil => simp
  | cons x xs ih => simp [ih]

@[simp] theorem State.passRing_keeps  :
    (s.passRing).zoom = s.zoom ∧ (s.passRing).stab = s.stab ∧ (s.passRing).audio = s.audio ∧
    (s.passRing).vf = s.vf ∧ (s.passRing).sup = s.sup ∧ (s.passRing).mgmt = s.mgmt ∧
    (s.passRing).scene = s.scene ∧ (s.passRing).items = s.items ∧
    (s.passRing).portSeq = s.portSeq ∧ (s.passRing).inReset = s.inReset ∧
    (s.passRing).pending = s.pending := by
  simp only [State.passRing]; simp

@[simp] theorem State.takeStart_keeps (xs : List SlotId) :
    (s.takeStart xs).zoom = s.zoom ∧ (s.takeStart xs).stab = s.stab ∧
    (s.takeStart xs).audio = s.audio ∧ (s.takeStart xs).vf = s.vf ∧
    (s.takeStart xs).sup = s.sup ∧ (s.takeStart xs).mgmt = s.mgmt ∧
    (s.takeStart xs).items = s.items ∧ (s.takeStart xs).portSeq = s.portSeq ∧
    (s.takeStart xs).inReset = s.inReset ∧ (s.takeStart xs).pending = s.pending := by
  simp only [State.takeStart]; simp

@[simp] theorem State.ignoreTrigger_keeps  :
    (s.ignoreTrigger).head = s.head ∧ (s.ignoreTrigger).body = s.body ∧
    (s.ignoreTrigger).zoom = s.zoom ∧ (s.ignoreTrigger).stab = s.stab ∧
    (s.ignoreTrigger).audio = s.audio ∧ (s.ignoreTrigger).slotA = s.slotA ∧
    (s.ignoreTrigger).slotB = s.slotB ∧ (s.ignoreTrigger).vf = s.vf ∧
    (s.ignoreTrigger).sup = s.sup ∧ (s.ignoreTrigger).mgmt = s.mgmt ∧
    (s.ignoreTrigger).scene = s.scene ∧ (s.ignoreTrigger).items = s.items ∧
    (s.ignoreTrigger).portSeq = s.portSeq ∧ (s.ignoreTrigger).inReset = s.inReset ∧
    (s.ignoreTrigger).out = s.out ∧ (s.ignoreTrigger).pending = s.pending := by
  simp only [State.ignoreTrigger]; simp

@[simp] theorem State.recStart_keeps  :
    (s.recStart.1).zoom = s.zoom ∧ (s.recStart.1).stab = s.stab ∧
    (s.recStart.1).audio = s.audio ∧ (s.recStart.1).vf = s.vf ∧ (s.recStart.1).sup = s.sup ∧
    (s.recStart.1).mgmt = s.mgmt ∧ (s.recStart.1).items = s.items ∧
    (s.recStart.1).portSeq = s.portSeq ∧ (s.recStart.1).inReset = s.inReset ∧
    (s.recStart.1).pending = s.pending := by
  simp only [State.recStart]; (repeat' split) <;> simp

@[simp] theorem State.recStop_keeps  :
    (s.recStop.1).zoom = s.zoom ∧ (s.recStop.1).stab = s.stab ∧ (s.recStop.1).audio = s.audio ∧
    (s.recStop.1).vf = s.vf ∧ (s.recStop.1).sup = s.sup ∧ (s.recStop.1).mgmt = s.mgmt ∧
    (s.recStop.1).scene = s.scene ∧ (s.recStop.1).items = s.items ∧
    (s.recStop.1).portSeq = s.portSeq ∧ (s.recStop.1).inReset = s.inReset ∧
    (s.recStop.1).pending = s.pending := by
  simp only [State.recStop]; (repeat' split) <;> simp

@[simp] theorem State.recEdge_keeps  :
    (s.recEdge).zoom = s.zoom ∧ (s.recEdge).stab = s.stab ∧ (s.recEdge).audio = s.audio ∧
    (s.recEdge).vf = s.vf ∧ (s.recEdge).sup = s.sup ∧ (s.recEdge).mgmt = s.mgmt ∧
    (s.recEdge).items = s.items ∧ (s.recEdge).portSeq = s.portSeq ∧
    (s.recEdge).inReset = s.inReset ∧ (s.recEdge).pending = s.pending := by
  simp only [State.recEdge]; (repeat' split) <;> simp

@[simp] theorem State.placeMark_keeps (k : MarkKind) :
    ((s.placeMark k).1).head = s.head ∧ ((s.placeMark k).1).body = s.body ∧
    ((s.placeMark k).1).zoom = s.zoom ∧ ((s.placeMark k).1).stab = s.stab ∧
    ((s.placeMark k).1).audio = s.audio ∧ ((s.placeMark k).1).slotA = s.slotA ∧
    ((s.placeMark k).1).slotB = s.slotB ∧ ((s.placeMark k).1).vf = s.vf ∧
    ((s.placeMark k).1).sup = s.sup ∧ ((s.placeMark k).1).mgmt = s.mgmt ∧
    ((s.placeMark k).1).scene = s.scene ∧ ((s.placeMark k).1).items = s.items ∧
    ((s.placeMark k).1).portSeq = s.portSeq ∧ ((s.placeMark k).1).inReset = s.inReset ∧
    ((s.placeMark k).1).out = s.out ∧ ((s.placeMark k).1).pending = s.pending := by
  simp only [State.placeMark]; (repeat' split) <;> simp

@[simp] theorem State.actionMark_keeps  :
    (s.actionMark.1).head = s.head ∧ (s.actionMark.1).body = s.body ∧
    (s.actionMark.1).zoom = s.zoom ∧ (s.actionMark.1).stab = s.stab ∧
    (s.actionMark.1).audio = s.audio ∧ (s.actionMark.1).slotA = s.slotA ∧
    (s.actionMark.1).slotB = s.slotB ∧ (s.actionMark.1).vf = s.vf ∧
    (s.actionMark.1).sup = s.sup ∧ (s.actionMark.1).mgmt = s.mgmt ∧
    (s.actionMark.1).scene = s.scene ∧ (s.actionMark.1).items = s.items ∧
    (s.actionMark.1).portSeq = s.portSeq ∧ (s.actionMark.1).inReset = s.inReset ∧
    (s.actionMark.1).out = s.out ∧ (s.actionMark.1).pending = s.pending := by
  simp only [State.actionMark]; simp

@[simp] theorem State.panelRecord_keeps (a b : Bool) :
    (s.panelRecord a b).zoom = s.zoom ∧ (s.panelRecord a b).stab = s.stab ∧
    (s.panelRecord a b).audio = s.audio ∧ (s.panelRecord a b).vf = s.vf ∧
    (s.panelRecord a b).sup = s.sup ∧ (s.panelRecord a b).mgmt = s.mgmt ∧
    (s.panelRecord a b).items = s.items ∧ (s.panelRecord a b).portSeq = s.portSeq ∧
    (s.panelRecord a b).inReset = s.inReset ∧ (s.panelRecord a b).pending = s.pending := by
  simp only [State.panelRecord]; (repeat' split) <;> simp

@[simp] theorem State.faultStopRec_keeps  :
    (s.faultStopRec).zoom = s.zoom ∧ (s.faultStopRec).stab = s.stab ∧
    (s.faultStopRec).audio = s.audio ∧ (s.faultStopRec).vf = s.vf ∧
    (s.faultStopRec).sup = s.sup ∧ (s.faultStopRec).mgmt = s.mgmt ∧
    (s.faultStopRec).scene = s.scene ∧ (s.faultStopRec).items = s.items ∧
    (s.faultStopRec).portSeq = s.portSeq ∧ (s.faultStopRec).inReset = s.inReset ∧
    (s.faultStopRec).pending = s.pending := by
  simp only [State.faultStopRec]; simp

@[simp] theorem State.faultMarkClip_keeps (g : Group) :
    (s.faultMarkClip g).head = s.head ∧ (s.faultMarkClip g).body = s.body ∧
    (s.faultMarkClip g).zoom = s.zoom ∧ (s.faultMarkClip g).stab = s.stab ∧
    (s.faultMarkClip g).audio = s.audio ∧ (s.faultMarkClip g).slotA = s.slotA ∧
    (s.faultMarkClip g).slotB = s.slotB ∧ (s.faultMarkClip g).vf = s.vf ∧
    (s.faultMarkClip g).sup = s.sup ∧ (s.faultMarkClip g).mgmt = s.mgmt ∧
    (s.faultMarkClip g).scene = s.scene ∧ (s.faultMarkClip g).items = s.items ∧
    (s.faultMarkClip g).portSeq = s.portSeq ∧ (s.faultMarkClip g).inReset = s.inReset ∧
    (s.faultMarkClip g).out = s.out ∧ (s.faultMarkClip g).pending = s.pending := by
  simp only [State.faultMarkClip]; simp

@[simp] theorem State.applyPreRec_keeps  :
    (s.applyPreRec).zoom = s.zoom ∧ (s.applyPreRec).stab = s.stab ∧
    (s.applyPreRec).audio = s.audio ∧ (s.applyPreRec).slotA = s.slotA ∧
    (s.applyPreRec).slotB = s.slotB ∧ (s.applyPreRec).vf = s.vf ∧ (s.applyPreRec).sup = s.sup ∧
    (s.applyPreRec).mgmt = s.mgmt ∧ (s.applyPreRec).scene = s.scene ∧
    (s.applyPreRec).items = s.items ∧ (s.applyPreRec).portSeq = s.portSeq ∧
    (s.applyPreRec).inReset = s.inReset ∧ (s.applyPreRec).out = s.out ∧
    (s.applyPreRec).pending = s.pending := by
  simp only [State.applyPreRec]; (repeat' split) <;> simp

end Sys2Proof.Machine
end

