-- ==== Sys2Proof/Laws/Blocks.lean ====
section
/-! SUPPORT. What the operations of the compositor, supervision, scene memory, management and the links leave as
it was. -/

namespace Sys2Proof.Machine

variable (s : State)

@[simp] theorem State.frameStart_keeps  :
    (s.frameStart).head = s.head ∧ (s.frameStart).body = s.body ∧ (s.frameStart).zoom = s.zoom ∧
    (s.frameStart).stab = s.stab ∧ (s.frameStart).audio = s.audio ∧
    (s.frameStart).recorder = s.recorder ∧ (s.frameStart).slotA = s.slotA ∧
    (s.frameStart).slotB = s.slotB ∧ (s.frameStart).sup = s.sup ∧ (s.frameStart).mgmt = s.mgmt ∧
    (s.frameStart).scene = s.scene ∧ (s.frameStart).items = s.items ∧
    (s.frameStart).portSeq = s.portSeq ∧ (s.frameStart).inReset = s.inReset ∧
    (s.frameStart).out = s.out ∧ (s.frameStart).pending = s.pending := by
  simp only [State.frameStart]; simp

@[simp] theorem State.sendLine_keeps (n : Nat) (px : List Pixel) :
    (s.sendLine n px).head = s.head ∧ (s.sendLine n px).body = s.body ∧
    (s.sendLine n px).zoom = s.zoom ∧ (s.sendLine n px).stab = s.stab ∧
    (s.sendLine n px).audio = s.audio ∧ (s.sendLine n px).recorder = s.recorder ∧
    (s.sendLine n px).slotA = s.slotA ∧ (s.sendLine n px).slotB = s.slotB ∧
    (s.sendLine n px).sup = s.sup ∧ (s.sendLine n px).mgmt = s.mgmt ∧
    (s.sendLine n px).scene = s.scene ∧ (s.sendLine n px).items = s.items ∧
    (s.sendLine n px).inReset = s.inReset ∧ (s.sendLine n px).pending = s.pending := by
  simp only [State.sendLine]; (repeat' split) <;> simp

@[simp] theorem State.replaceLine_keeps (n : Nat) :
    (s.replaceLine n).head = s.head ∧ (s.replaceLine n).body = s.body ∧
    (s.replaceLine n).zoom = s.zoom ∧ (s.replaceLine n).stab = s.stab ∧
    (s.replaceLine n).audio = s.audio ∧ (s.replaceLine n).recorder = s.recorder ∧
    (s.replaceLine n).slotA = s.slotA ∧ (s.replaceLine n).slotB = s.slotB ∧
    (s.replaceLine n).sup = s.sup ∧ (s.replaceLine n).mgmt = s.mgmt ∧
    (s.replaceLine n).scene = s.scene ∧ (s.replaceLine n).items = s.items ∧
    (s.replaceLine n).inReset = s.inReset ∧ (s.replaceLine n).pending = s.pending := by
  simp only [State.replaceLine]; simp

@[simp] theorem State.replaceLines_keeps (n k : Nat) :
    (s.replaceLines n k).head = s.head ∧ (s.replaceLines n k).body = s.body ∧
    (s.replaceLines n k).zoom = s.zoom ∧ (s.replaceLines n k).stab = s.stab ∧
    (s.replaceLines n k).audio = s.audio ∧ (s.replaceLines n k).recorder = s.recorder ∧
    (s.replaceLines n k).slotA = s.slotA ∧ (s.replaceLines n k).slotB = s.slotB ∧
    (s.replaceLines n k).sup = s.sup ∧ (s.replaceLines n k).mgmt = s.mgmt ∧
    (s.replaceLines n k).scene = s.scene ∧ (s.replaceLines n k).items = s.items ∧
    (s.replaceLines n k).inReset = s.inReset ∧ (s.replaceLines n k).pending = s.pending := by
  induction k generalizing s n with
  | zero => simp [State.replaceLines]
  | succ k ih => simp [State.replaceLines, ih]

@[simp] theorem State.ownLine_keeps (n : Nat) (px : List Pixel) :
    (s.ownLine n px).head = s.head ∧ (s.ownLine n px).body = s.body ∧
    (s.ownLine n px).zoom = s.zoom ∧ (s.ownLine n px).stab = s.stab ∧
    (s.ownLine n px).audio = s.audio ∧ (s.ownLine n px).recorder = s.recorder ∧
    (s.ownLine n px).slotA = s.slotA ∧ (s.ownLine n px).slotB = s.slotB ∧
    (s.ownLine n px).sup = s.sup ∧ (s.ownLine n px).mgmt = s.mgmt ∧
    (s.ownLine n px).scene = s.scene ∧ (s.ownLine n px).items = s.items ∧
    (s.ownLine n px).inReset = s.inReset ∧ (s.ownLine n px).pending = s.pending := by
  simp only [State.ownLine]; simp

@[simp] theorem State.dropLine_keeps  :
    (s.dropLine).head = s.head ∧ (s.dropLine).body = s.body ∧ (s.dropLine).zoom = s.zoom ∧
    (s.dropLine).stab = s.stab ∧ (s.dropLine).audio = s.audio ∧
    (s.dropLine).recorder = s.recorder ∧ (s.dropLine).slotA = s.slotA ∧
    (s.dropLine).slotB = s.slotB ∧ (s.dropLine).sup = s.sup ∧ (s.dropLine).mgmt = s.mgmt ∧
    (s.dropLine).scene = s.scene ∧ (s.dropLine).items = s.items ∧
    (s.dropLine).portSeq = s.portSeq ∧ (s.dropLine).inReset = s.inReset ∧
    (s.dropLine).out = s.out ∧ (s.dropLine).pending = s.pending := by
  simp only [State.dropLine]; simp

@[simp] theorem State.takeLine_keeps (n : Nat) (px : List Pixel) :
    (s.takeLine n px).head = s.head ∧ (s.takeLine n px).body = s.body ∧
    (s.takeLine n px).zoom = s.zoom ∧ (s.takeLine n px).stab = s.stab ∧
    (s.takeLine n px).audio = s.audio ∧ (s.takeLine n px).recorder = s.recorder ∧
    (s.takeLine n px).slotA = s.slotA ∧ (s.takeLine n px).slotB = s.slotB ∧
    (s.takeLine n px).sup = s.sup ∧ (s.takeLine n px).mgmt = s.mgmt ∧
    (s.takeLine n px).scene = s.scene ∧ (s.takeLine n px).items = s.items ∧
    (s.takeLine n px).inReset = s.inReset ∧ (s.takeLine n px).pending = s.pending := by
  simp only [State.takeLine]; (repeat' split) <;> simp

@[simp] theorem State.lineSilenceExpires_keeps  :
    (s.lineSilenceExpires).head = s.head ∧ (s.lineSilenceExpires).body = s.body ∧
    (s.lineSilenceExpires).zoom = s.zoom ∧ (s.lineSilenceExpires).stab = s.stab ∧
    (s.lineSilenceExpires).audio = s.audio ∧ (s.lineSilenceExpires).recorder = s.recorder ∧
    (s.lineSilenceExpires).slotA = s.slotA ∧ (s.lineSilenceExpires).slotB = s.slotB ∧
    (s.lineSilenceExpires).sup = s.sup ∧ (s.lineSilenceExpires).mgmt = s.mgmt ∧
    (s.lineSilenceExpires).scene = s.scene ∧ (s.lineSilenceExpires).items = s.items ∧
    (s.lineSilenceExpires).inReset = s.inReset ∧ (s.lineSilenceExpires).pending = s.pending := by
  simp only [State.lineSilenceExpires]; (repeat' split) <;> simp

@[simp] theorem State.faultWarn_keeps (g : Group) :
    (s.faultWarn g).head = s.head ∧ (s.faultWarn g).body = s.body ∧
    (s.faultWarn g).zoom = s.zoom ∧ (s.faultWarn g).stab = s.stab ∧
    (s.faultWarn g).audio = s.audio ∧ (s.faultWarn g).recorder = s.recorder ∧
    (s.faultWarn g).slotA = s.slotA ∧ (s.faultWarn g).slotB = s.slotB ∧
    (s.faultWarn g).sup = s.sup ∧ (s.faultWarn g).mgmt = s.mgmt ∧
    (s.faultWarn g).scene = s.scene ∧ (s.faultWarn g).items = s.items ∧
    (s.faultWarn g).portSeq = s.portSeq ∧ (s.faultWarn g).inReset = s.inReset ∧
    (s.faultWarn g).out = s.out ∧ (s.faultWarn g).pending = s.pending := by
  simp only [State.faultWarn]; simp

@[simp] theorem State.runActions_keeps (g : Group) (a : Actions) :
    (s.runActions g a).audio = s.audio ∧ (s.runActions g a).sup = s.sup ∧
    (s.runActions g a).mgmt = s.mgmt ∧ (s.runActions g a).scene = s.scene ∧
    (s.runActions g a).items = s.items ∧ (s.runActions g a).portSeq = s.portSeq ∧
    (s.runActions g a).inReset = s.inReset ∧ (s.runActions g a).pending = s.pending := by
  simp only [State.runActions, State.when]; (repeat' split) <;> simp

@[simp] theorem State.rise_keeps (g : Group) :
    (s.rise g).audio = s.audio ∧ (s.rise g).mgmt = s.mgmt ∧ (s.rise g).scene = s.scene ∧
    (s.rise g).items = s.items ∧ (s.rise g).portSeq = s.portSeq ∧
    (s.rise g).inReset = s.inReset ∧ (s.rise g).pending = s.pending := by
  simp only [State.rise]; simp

@[simp] theorem State.faultNotices_keeps (g : Group) (ds : List Nat) :
    (s.faultNotices g ds).head = s.head ∧ (s.faultNotices g ds).zoom = s.zoom ∧
    (s.faultNotices g ds).stab = s.stab ∧ (s.faultNotices g ds).audio = s.audio ∧
    (s.faultNotices g ds).recorder = s.recorder ∧ (s.faultNotices g ds).slotA = s.slotA ∧
    (s.faultNotices g ds).slotB = s.slotB ∧ (s.faultNotices g ds).vf = s.vf ∧
    (s.faultNotices g ds).sup = s.sup ∧ (s.faultNotices g ds).mgmt = s.mgmt ∧
    (s.faultNotices g ds).scene = s.scene ∧ (s.faultNotices g ds).items = s.items ∧
    (s.faultNotices g ds).portSeq = s.portSeq ∧ (s.faultNotices g ds).inReset = s.inReset ∧
    (s.faultNotices g ds).out = s.out ∧ (s.faultNotices g ds).pending = s.pending := by
  simp only [State.faultNotices]
  split
  · induction ds generalizing s with
    | nil => simp
    | cons d ds ih =>
      have h := ih (s.notify (.fault g d))
      simp_all
  · simp

@[simp] theorem State.checkGroup_keeps (g : Group) (ps : List Bool) :
    (s.checkGroup g ps).audio = s.audio ∧ (s.checkGroup g ps).mgmt = s.mgmt ∧
    (s.checkGroup g ps).scene = s.scene ∧ (s.checkGroup g ps).items = s.items ∧
    (s.checkGroup g ps).portSeq = s.portSeq ∧ (s.checkGroup g ps).inReset = s.inReset ∧
    (s.checkGroup g ps).pending = s.pending := by
  simp only [State.checkGroup]; (repeat' split) <;> simp

@[simp] theorem State.clearSampled_keeps (g : Group) :
    (s.clearSampled g).zoom = s.zoom ∧ (s.clearSampled g).stab = s.stab ∧
    (s.clearSampled g).audio = s.audio ∧ (s.clearSampled g).vf = s.vf ∧
    (s.clearSampled g).sup = s.sup ∧ (s.clearSampled g).mgmt = s.mgmt ∧
    (s.clearSampled g).scene = s.scene ∧ (s.clearSampled g).items = s.items ∧
    (s.clearSampled g).portSeq = s.portSeq ∧ (s.clearSampled g).inReset = s.inReset ∧
    (s.clearSampled g).out = s.out ∧ (s.clearSampled g).pending = s.pending := by
  cases g <;> simp [State.clearSampled]

@[simp] theorem State.checkGroups_keeps (xs : List (Group × List Bool)) :
    (xs.foldl (fun s p => s.checkGroup p.1 p.2) s).audio = s.audio ∧
    (xs.foldl (fun s p => s.checkGroup p.1 p.2) s).mgmt = s.mgmt ∧
    (xs.foldl (fun s p => s.checkGroup p.1 p.2) s).scene = s.scene ∧
    (xs.foldl (fun s p => s.checkGroup p.1 p.2) s).items = s.items ∧
    (xs.foldl (fun s p => s.checkGroup p.1 p.2) s).portSeq = s.portSeq ∧
    (xs.foldl (fun s p => s.checkGroup p.1 p.2) s).inReset = s.inReset ∧
    (xs.foldl (fun s p => s.checkGroup p.1 p.2) s).pending = s.pending := by
  induction xs generalizing s with
  | nil => simp
  | cons x xs ih => simp [ih]

@[simp] theorem State.clearAllSampled_keeps (xs : List Group) :
    (xs.foldl State.clearSampled s).zoom = s.zoom ∧
    (xs.foldl State.clearSampled s).stab = s.stab ∧
    (xs.foldl State.clearSampled s).audio = s.audio ∧ (xs.foldl State.clearSampled s).vf = s.vf ∧
    (xs.foldl State.clearSampled s).sup = s.sup ∧ (xs.foldl State.clearSampled s).mgmt = s.mgmt ∧
    (xs.foldl State.clearSampled s).scene = s.scene ∧
    (xs.foldl State.clearSampled s).items = s.items ∧
    (xs.foldl State.clearSampled s).portSeq = s.portSeq ∧
    (xs.foldl State.clearSampled s).inReset = s.inReset ∧
    (xs.foldl State.clearSampled s).out = s.out ∧
    (xs.foldl State.clearSampled s).pending = s.pending := by
  induction xs generalizing s with
  | nil => simp
  | cons x xs ih => simp [ih]

@[simp] theorem State.checkCycle_keeps  :
    (s.checkCycle).audio = s.audio ∧ (s.checkCycle).mgmt = s.mgmt ∧
    (s.checkCycle).scene = s.scene ∧ (s.checkCycle).items = s.items ∧
    (s.checkCycle).portSeq = s.portSeq ∧ (s.checkCycle).inReset = s.inReset ∧
    (s.checkCycle).pending = s.pending := by
  simp only [State.checkCycle]; simp

@[simp] theorem State.fall_keeps (g : Group) :
    (s.fall g).body = s.body ∧ (s.fall g).audio = s.audio ∧ (s.fall g).recorder = s.recorder ∧
    (s.fall g).slotA = s.slotA ∧ (s.fall g).slotB = s.slotB ∧ (s.fall g).mgmt = s.mgmt ∧
    (s.fall g).scene = s.scene ∧ (s.fall g).items = s.items ∧ (s.fall g).portSeq = s.portSeq ∧
    (s.fall g).inReset = s.inReset ∧ (s.fall g).out = s.out ∧ (s.fall g).pending = s.pending := by
  simp only [State.fall]; simp

@[simp] theorem State.clearDetails_keeps (w : Nat → Bool) (g : Group) :
    (s.clearDetails w g).body = s.body ∧ (s.clearDetails w g).audio = s.audio ∧
    (s.clearDetails w g).recorder = s.recorder ∧ (s.clearDetails w g).slotA = s.slotA ∧
    (s.clearDetails w g).slotB = s.slotB ∧ (s.clearDetails w g).mgmt = s.mgmt ∧
    (s.clearDetails w g).scene = s.scene ∧ (s.clearDetails w g).items = s.items ∧
    (s.clearDetails w g).portSeq = s.portSeq ∧ (s.clearDetails w g).inReset = s.inReset ∧
    (s.clearDetails w g).out = s.out ∧ (s.clearDetails w g).pending = s.pending := by
  simp only [State.clearDetails]; (repeat' split) <;> simp

@[simp] theorem State.clearGroups_keeps (w : Nat → Bool) (xs : List Group) :
    (xs.foldl (State.clearDetails · w) s).body = s.body ∧
    (xs.foldl (State.clearDetails · w) s).audio = s.audio ∧
    (xs.foldl (State.clearDetails · w) s).recorder = s.recorder ∧
    (xs.foldl (State.clearDetails · w) s).slotA = s.slotA ∧
    (xs.foldl (State.clearDetails · w) s).slotB = s.slotB ∧
    (xs.foldl (State.clearDetails · w) s).mgmt = s.mgmt ∧
    (xs.foldl (State.clearDetails · w) s).scene = s.scene ∧
    (xs.foldl (State.clearDetails · w) s).items = s.items ∧
    (xs.foldl (State.clearDetails · w) s).portSeq = s.portSeq ∧
    (xs.foldl (State.clearDetails · w) s).inReset = s.inReset ∧
    (xs.foldl (State.clearDetails · w) s).out = s.out ∧
    (xs.foldl (State.clearDetails · w) s).pending = s.pending := by
  induction xs generalizing s with
  | nil => simp
  | cons x xs ih => simp [ih]

@[simp] theorem State.clearFault_keeps (a b c : Nat) :
    ((s.clearFault a b c).1).body = s.body ∧ ((s.clearFault a b c).1).audio = s.audio ∧
    ((s.clearFault a b c).1).recorder = s.recorder ∧ ((s.clearFault a b c).1).slotA = s.slotA ∧
    ((s.clearFault a b c).1).slotB = s.slotB ∧ ((s.clearFault a b c).1).mgmt = s.mgmt ∧
    ((s.clearFault a b c).1).scene = s.scene ∧ ((s.clearFault a b c).1).items = s.items ∧
    ((s.clearFault a b c).1).portSeq = s.portSeq ∧ ((s.clearFault a b c).1).inReset = s.inReset ∧
    ((s.clearFault a b c).1).out = s.out ∧ ((s.clearFault a b c).1).pending = s.pending := by
  simp only [State.clearFault]; (repeat' split) <;> simp

@[simp] theorem State.storeScene_keeps (n : Nat) :
    ((s.storeScene n).1).head = s.head ∧ ((s.storeScene n).1).body = s.body ∧
    ((s.storeScene n).1).zoom = s.zoom ∧ ((s.storeScene n).1).stab = s.stab ∧
    ((s.storeScene n).1).audio = s.audio ∧ ((s.storeScene n).1).recorder = s.recorder ∧
    ((s.storeScene n).1).slotA = s.slotA ∧ ((s.storeScene n).1).slotB = s.slotB ∧
    ((s.storeScene n).1).vf = s.vf ∧ ((s.storeScene n).1).sup = s.sup ∧
    ((s.storeScene n).1).mgmt = s.mgmt ∧ ((s.storeScene n).1).items = s.items ∧
    ((s.storeScene n).1).portSeq = s.portSeq ∧ ((s.storeScene n).1).inReset = s.inReset ∧
    ((s.storeScene n).1).out = s.out ∧ ((s.storeScene n).1).pending = s.pending := by
  simp only [State.storeScene]; (repeat' split) <;> simp

@[simp] theorem State.storeFixed_keeps  :
    (s.storeFixed.1).head = s.head ∧ (s.storeFixed.1).body = s.body ∧
    (s.storeFixed.1).zoom = s.zoom ∧ (s.storeFixed.1).stab = s.stab ∧
    (s.storeFixed.1).audio = s.audio ∧ (s.storeFixed.1).recorder = s.recorder ∧
    (s.storeFixed.1).slotA = s.slotA ∧ (s.storeFixed.1).slotB = s.slotB ∧
    (s.storeFixed.1).vf = s.vf ∧ (s.storeFixed.1).sup = s.sup ∧ (s.storeFixed.1).mgmt = s.mgmt ∧
    (s.storeFixed.1).items = s.items ∧ (s.storeFixed.1).portSeq = s.portSeq ∧
    (s.storeFixed.1).inReset = s.inReset ∧ (s.storeFixed.1).out = s.out ∧
    (s.storeFixed.1).pending = s.pending := by
  simp only [State.storeFixed]; (repeat' split) <;> simp

@[simp] theorem State.endStore_keeps (ok : Bool) :
    (s.endStore ok).head = s.head ∧ (s.endStore ok).zoom = s.zoom ∧
    (s.endStore ok).stab = s.stab ∧ (s.endStore ok).audio = s.audio ∧
    (s.endStore ok).recorder = s.recorder ∧ (s.endStore ok).slotA = s.slotA ∧
    (s.endStore ok).slotB = s.slotB ∧ (s.endStore ok).vf = s.vf ∧ (s.endStore ok).sup = s.sup ∧
    (s.endStore ok).mgmt = s.mgmt ∧ (s.endStore ok).items = s.items ∧
    (s.endStore ok).portSeq = s.portSeq ∧ (s.endStore ok).inReset = s.inReset ∧
    (s.endStore ok).out = s.out ∧ (s.endStore ok).pending = s.pending := by
  simp only [State.endStore]; (repeat' split) <;> simp

@[simp] theorem State.loadContents_keeps (c : SceneArea) (b : Bool) :
    (s.loadContents c b).slotA = s.slotA ∧ (s.loadContents c b).slotB = s.slotB ∧
    (s.loadContents c b).sup = s.sup ∧ (s.loadContents c b).mgmt = s.mgmt ∧
    (s.loadContents c b).scene = s.scene ∧ (s.loadContents c b).portSeq = s.portSeq ∧
    (s.loadContents c b).inReset = s.inReset ∧ (s.loadContents c b).out = s.out ∧
    (s.loadContents c b).pending = s.pending := by
  simp only [State.loadContents]; (repeat' split) <;> simp

@[simp] theorem State.recallScene_keeps (n : Nat) :
    ((s.recallScene n).1).head = s.head ∧ ((s.recallScene n).1).body = s.body ∧
    ((s.recallScene n).1).zoom = s.zoom ∧ ((s.recallScene n).1).stab = s.stab ∧
    ((s.recallScene n).1).audio = s.audio ∧ ((s.recallScene n).1).recorder = s.recorder ∧
    ((s.recallScene n).1).slotA = s.slotA ∧ ((s.recallScene n).1).slotB = s.slotB ∧
    ((s.recallScene n).1).vf = s.vf ∧ ((s.recallScene n).1).sup = s.sup ∧
    ((s.recallScene n).1).mgmt = s.mgmt ∧ ((s.recallScene n).1).items = s.items ∧
    ((s.recallScene n).1).portSeq = s.portSeq ∧ ((s.recallScene n).1).inReset = s.inReset ∧
    ((s.recallScene n).1).out = s.out ∧ ((s.recallScene n).1).pending = s.pending := by
  simp only [State.recallScene]; (repeat' split) <;> simp

@[simp] theorem State.recallFactory_keeps  :
    (s.recallFactory.1).slotA = s.slotA ∧ (s.recallFactory.1).slotB = s.slotB ∧
    (s.recallFactory.1).sup = s.sup ∧ (s.recallFactory.1).mgmt = s.mgmt ∧
    (s.recallFactory.1).scene = s.scene ∧ (s.recallFactory.1).portSeq = s.portSeq ∧
    (s.recallFactory.1).inReset = s.inReset ∧ (s.recallFactory.1).out = s.out ∧
    (s.recallFactory.1).pending = s.pending := by
  simp only [State.recallFactory]; (repeat' split) <;> simp

@[simp] theorem State.endRecall_keeps  :
    (s.endRecall).slotA = s.slotA ∧ (s.endRecall).slotB = s.slotB ∧ (s.endRecall).sup = s.sup ∧
    (s.endRecall).mgmt = s.mgmt ∧ (s.endRecall).portSeq = s.portSeq ∧
    (s.endRecall).inReset = s.inReset ∧ (s.endRecall).out = s.out ∧
    (s.endRecall).pending = s.pending := by
  simp only [State.endRecall]; (repeat' split) <;> simp

@[simp] theorem State.blocksPowerOn_keeps :
    s.blocksPowerOn.scene = s.scene.powerOn ∧ s.blocksPowerOn.pending = s.pending := ⟨rfl, rfl⟩

@[simp] theorem State.loadFixed_keeps :
    s.loadFixed.scene = s.scene ∧ s.loadFixed.pending = s.pending ∧ s.loadFixed.slotA = s.slotA ∧
    s.loadFixed.slotB = s.slotB := by
  unfold State.loadFixed; split <;> simp

@[simp] theorem State.loadScene0_keeps :
    s.loadScene0.scene = s.scene ∧ s.loadScene0.pending = s.pending ∧ s.loadScene0.slotA = s.slotA ∧
    s.loadScene0.slotB = s.slotB := by
  unfold State.loadScene0; split <;> simp

@[simp] theorem State.startStabiliser_keeps :
    s.startStabiliser.scene = s.scene ∧ s.startStabiliser.pending = s.pending ∧
    s.startStabiliser.slotA = s.slotA ∧ s.startStabiliser.slotB = s.slotB := by
  unfold State.startStabiliser; (repeat' split) <;> simp

/-- The queue, the areas and the presence lines outlive a power-on reset (R195, R199). -/
@[simp] theorem State.powerOn_keeps :
    s.powerOn.pending = s.pending ∧ s.powerOn.scene = s.scene.powerOn ∧
    s.powerOn.slotA = .powerOn s.slotA.line ∧ s.powerOn.slotB = .powerOn s.slotB.line := by
  unfold State.powerOn
  simp only [State.startStabiliser_keeps, State.loadOptics, State.loadClip, State.loadScene0_keeps,
    State.loadFixed_keeps, State.blocksPowerOn_keeps, true_and]
  exact ⟨rfl, rfl⟩

@[simp] theorem State.startTimers_keeps  :
    (s.startTimers).head = s.head ∧ (s.startTimers).body = s.body ∧
    (s.startTimers).recorder = s.recorder ∧ (s.startTimers).slotA = s.slotA ∧
    (s.startTimers).slotB = s.slotB ∧ (s.startTimers).mgmt = s.mgmt ∧
    (s.startTimers).scene = s.scene ∧ (s.startTimers).items = s.items ∧
    (s.startTimers).portSeq = s.portSeq ∧ (s.startTimers).inReset = s.inReset ∧
    (s.startTimers).out = s.out ∧ (s.startTimers).pending = s.pending := by
  simp only [State.startTimers]; simp

@[simp] theorem State.insertPresent_keeps (x : SlotId) :
    (s.insertPresent x).head = s.head ∧ (s.insertPresent x).zoom = s.zoom ∧
    (s.insertPresent x).stab = s.stab ∧ (s.insertPresent x).audio = s.audio ∧
    (s.insertPresent x).recorder = s.recorder ∧ (s.insertPresent x).vf = s.vf ∧
    (s.insertPresent x).sup = s.sup ∧ (s.insertPresent x).mgmt = s.mgmt ∧
    (s.insertPresent x).scene = s.scene ∧ (s.insertPresent x).items = s.items ∧
    (s.insertPresent x).portSeq = s.portSeq ∧ (s.insertPresent x).inReset = s.inReset ∧
    (s.insertPresent x).pending = s.pending := by
  simp only [State.insertPresent]; (repeat' split) <;> simp

@[simp] theorem State.firstReset_keeps (l : LinkId) :
    (s.firstReset l).zoom = s.zoom ∧ (s.firstReset l).stab = s.stab ∧
    (s.firstReset l).audio = s.audio ∧ (s.firstReset l).recorder = s.recorder ∧
    (s.firstReset l).slotA = s.slotA ∧ (s.firstReset l).slotB = s.slotB ∧
    (s.firstReset l).vf = s.vf ∧ (s.firstReset l).sup = s.sup ∧ (s.firstReset l).mgmt = s.mgmt ∧
    (s.firstReset l).scene = s.scene ∧ (s.firstReset l).items = s.items ∧
    (s.firstReset l).portSeq = s.portSeq ∧ (s.firstReset l).inReset = s.inReset ∧
    (s.firstReset l).pending = s.pending := by
  simp only [State.firstReset]; simp

@[simp] theorem State.powerOnEnd_keeps  :
    (s.powerOnEnd).recorder = s.recorder ∧ (s.powerOnEnd).mgmt = s.mgmt ∧
    (s.powerOnEnd).scene = s.scene ∧ (s.powerOnEnd).items = s.items ∧
    (s.powerOnEnd).portSeq = s.portSeq ∧ (s.powerOnEnd).pending = s.pending := by
  simp only [State.powerOnEnd]; (repeat' split) <;> simp

@[simp] theorem State.countDenied_keeps  :
    (s.countDenied).head = s.head ∧ (s.countDenied).body = s.body ∧
    (s.countDenied).zoom = s.zoom ∧ (s.countDenied).stab = s.stab ∧
    (s.countDenied).audio = s.audio ∧ (s.countDenied).recorder = s.recorder ∧
    (s.countDenied).slotA = s.slotA ∧ (s.countDenied).slotB = s.slotB ∧
    (s.countDenied).vf = s.vf ∧ (s.countDenied).sup = s.sup ∧ (s.countDenied).scene = s.scene ∧
    (s.countDenied).items = s.items ∧ (s.countDenied).portSeq = s.portSeq ∧
    (s.countDenied).inReset = s.inReset ∧ (s.countDenied).out = s.out ∧
    (s.countDenied).pending = s.pending := by
  simp only [State.countDenied]; simp

@[simp] theorem State.reply_keeps (t : Byte) (st : Status) (d : List Byte) :
    (s.reply t st d).head = s.head ∧ (s.reply t st d).zoom = s.zoom ∧
    (s.reply t st d).stab = s.stab ∧ (s.reply t st d).audio = s.audio ∧
    (s.reply t st d).recorder = s.recorder ∧ (s.reply t st d).slotA = s.slotA ∧
    (s.reply t st d).slotB = s.slotB ∧ (s.reply t st d).vf = s.vf ∧
    (s.reply t st d).sup = s.sup ∧ (s.reply t st d).mgmt = s.mgmt ∧
    (s.reply t st d).scene = s.scene ∧ (s.reply t st d).items = s.items ∧
    (s.reply t st d).portSeq = s.portSeq ∧ (s.reply t st d).inReset = s.inReset ∧
    (s.reply t st d).out = s.out ∧ (s.reply t st d).pending = s.pending := by
  simp [State.reply]

@[simp] theorem State.ownerActs_keeps (n : Nat) :
    (s.ownerActs n).zoom = s.zoom ∧ (s.ownerActs n).slotA = s.slotA ∧
    (s.ownerActs n).slotB = s.slotB ∧ (s.ownerActs n).vf = s.vf ∧ (s.ownerActs n).sup = s.sup ∧
    (s.ownerActs n).mgmt = s.mgmt ∧ (s.ownerActs n).scene = s.scene ∧
    (s.ownerActs n).items = s.items ∧ (s.ownerActs n).portSeq = s.portSeq ∧
    (s.ownerActs n).inReset = s.inReset ∧ (s.ownerActs n).out = s.out ∧
    (s.ownerActs n).pending = s.pending := by
  simp only [State.ownerActs]; (repeat' split) <;> simp

@[simp] theorem State.setItem_keeps (sp : ItemSpec) (v : Nat) :
    ((s.setItem sp v).1).zoom = s.zoom ∧ ((s.setItem sp v).1).slotA = s.slotA ∧
    ((s.setItem sp v).1).slotB = s.slotB ∧ ((s.setItem sp v).1).vf = s.vf ∧
    ((s.setItem sp v).1).sup = s.sup ∧ ((s.setItem sp v).1).mgmt = s.mgmt ∧
    ((s.setItem sp v).1).scene = s.scene ∧ ((s.setItem sp v).1).portSeq = s.portSeq ∧
    ((s.setItem sp v).1).inReset = s.inReset ∧ ((s.setItem sp v).1).out = s.out ∧
    ((s.setItem sp v).1).pending = s.pending := by
  simp only [State.setItem]; (repeat' split) <;> simp

@[simp] theorem State.setCursor_keeps (src : Source) (c : Cursor) :
    (s.setCursor src c).head = s.head ∧ (s.setCursor src c).body = s.body ∧
    (s.setCursor src c).zoom = s.zoom ∧ (s.setCursor src c).stab = s.stab ∧
    (s.setCursor src c).audio = s.audio ∧ (s.setCursor src c).recorder = s.recorder ∧
    (s.setCursor src c).slotA = s.slotA ∧ (s.setCursor src c).slotB = s.slotB ∧
    (s.setCursor src c).vf = s.vf ∧ (s.setCursor src c).sup = s.sup ∧
    (s.setCursor src c).scene = s.scene ∧ (s.setCursor src c).items = s.items ∧
    (s.setCursor src c).portSeq = s.portSeq ∧ (s.setCursor src c).inReset = s.inReset ∧
    (s.setCursor src c).out = s.out ∧ (s.setCursor src c).pending = s.pending := by
  simp only [State.setCursor]; simp

@[simp] theorem State.writeTable_keeps (t : TableId) (c : Nat) (bs : List (List Byte)) :
    ((s.writeTable t c bs).1).head = s.head ∧ ((s.writeTable t c bs).1).body = s.body ∧
    ((s.writeTable t c bs).1).stab = s.stab ∧ ((s.writeTable t c bs).1).recorder = s.recorder ∧
    ((s.writeTable t c bs).1).slotA = s.slotA ∧ ((s.writeTable t c bs).1).slotB = s.slotB ∧
    ((s.writeTable t c bs).1).scene = s.scene ∧ ((s.writeTable t c bs).1).items = s.items ∧
    ((s.writeTable t c bs).1).portSeq = s.portSeq ∧
    ((s.writeTable t c bs).1).inReset = s.inReset ∧ ((s.writeTable t c bs).1).out = s.out ∧
    ((s.writeTable t c bs).1).pending = s.pending := by
  simp only [State.writeTable]; (repeat' split) <;> simp

@[simp] theorem State.writeEntries_keeps (src : Source) (c : Cursor) (n : Nat) (d : List Byte) :
    ((s.writeEntries src c n d).1).head = s.head ∧ ((s.writeEntries src c n d).1).body = s.body ∧
    ((s.writeEntries src c n d).1).stab = s.stab ∧
    ((s.writeEntries src c n d).1).recorder = s.recorder ∧
    ((s.writeEntries src c n d).1).slotA = s.slotA ∧
    ((s.writeEntries src c n d).1).slotB = s.slotB ∧
    ((s.writeEntries src c n d).1).scene = s.scene ∧
    ((s.writeEntries src c n d).1).items = s.items ∧
    ((s.writeEntries src c n d).1).portSeq = s.portSeq ∧
    ((s.writeEntries src c n d).1).inReset = s.inReset ∧
    ((s.writeEntries src c n d).1).out = s.out ∧
    ((s.writeEntries src c n d).1).pending = s.pending := by
  simp only [State.writeEntries]; (repeat' split) <;> simp

@[simp] theorem State.readEntries_keeps (src : Source) (c : Cursor) (n : Nat) :
    ((s.readEntries src c n).1).head = s.head ∧ ((s.readEntries src c n).1).body = s.body ∧
    ((s.readEntries src c n).1).zoom = s.zoom ∧ ((s.readEntries src c n).1).stab = s.stab ∧
    ((s.readEntries src c n).1).audio = s.audio ∧
    ((s.readEntries src c n).1).recorder = s.recorder ∧
    ((s.readEntries src c n).1).slotA = s.slotA ∧ ((s.readEntries src c n).1).slotB = s.slotB ∧
    ((s.readEntries src c n).1).vf = s.vf ∧ ((s.readEntries src c n).1).sup = s.sup ∧
    ((s.readEntries src c n).1).scene = s.scene ∧ ((s.readEntries src c n).1).items = s.items ∧
    ((s.readEntries src c n).1).portSeq = s.portSeq ∧
    ((s.readEntries src c n).1).inReset = s.inReset ∧ ((s.readEntries src c n).1).out = s.out ∧
    ((s.readEntries src c n).1).pending = s.pending := by
  simp only [State.readEntries]; (repeat' split) <;> simp

@[simp] theorem State.doGet_keeps (src : Source) (t : Byte) (n : Nat) :
    (s.doGet src t n).head = s.head ∧ (s.doGet src t n).zoom = s.zoom ∧
    (s.doGet src t n).stab = s.stab ∧ (s.doGet src t n).audio = s.audio ∧
    (s.doGet src t n).recorder = s.recorder ∧ (s.doGet src t n).slotA = s.slotA ∧
    (s.doGet src t n).slotB = s.slotB ∧ (s.doGet src t n).vf = s.vf ∧
    (s.doGet src t n).sup = s.sup ∧ (s.doGet src t n).scene = s.scene ∧
    (s.doGet src t n).items = s.items ∧ (s.doGet src t n).portSeq = s.portSeq ∧
    (s.doGet src t n).inReset = s.inReset ∧ (s.doGet src t n).out = s.out ∧
    (s.doGet src t n).pending = s.pending := by
  simp only [State.doGet]; (repeat' split) <;> simp [State.judge] <;> split <;> simp

@[simp] theorem State.doSet_keeps (src : Source) (t : Byte) (n v : Nat) :
    (s.doSet src t n v).zoom = s.zoom ∧ (s.doSet src t n v).slotA = s.slotA ∧
    (s.doSet src t n v).slotB = s.slotB ∧ (s.doSet src t n v).vf = s.vf ∧
    (s.doSet src t n v).sup = s.sup ∧ (s.doSet src t n v).scene = s.scene ∧
    (s.doSet src t n v).portSeq = s.portSeq ∧ (s.doSet src t n v).inReset = s.inReset ∧
    (s.doSet src t n v).out = s.out ∧ (s.doSet src t n v).pending = s.pending := by
  simp only [State.doSet]; (repeat' split) <;> simp [State.judge] <;> split <;> simp

@[simp] theorem State.doSelect_keeps (src : Source) (t : Byte) (n i : Nat) :
    (s.doSelect src t n i).head = s.head ∧ (s.doSelect src t n i).zoom = s.zoom ∧
    (s.doSelect src t n i).stab = s.stab ∧ (s.doSelect src t n i).audio = s.audio ∧
    (s.doSelect src t n i).recorder = s.recorder ∧ (s.doSelect src t n i).slotA = s.slotA ∧
    (s.doSelect src t n i).slotB = s.slotB ∧ (s.doSelect src t n i).vf = s.vf ∧
    (s.doSelect src t n i).sup = s.sup ∧ (s.doSelect src t n i).scene = s.scene ∧
    (s.doSelect src t n i).items = s.items ∧ (s.doSelect src t n i).portSeq = s.portSeq ∧
    (s.doSelect src t n i).inReset = s.inReset ∧ (s.doSelect src t n i).out = s.out ∧
    (s.doSelect src t n i).pending = s.pending := by
  simp only [State.doSelect]; (repeat' split) <;> simp [State.judge] <;> (repeat' split) <;> simp

@[simp] theorem State.doWrite_keeps (src : Source) (t : Byte) (n : Nat) (d : List Byte) :
    (s.doWrite src t n d).head = s.head ∧ (s.doWrite src t n d).stab = s.stab ∧
    (s.doWrite src t n d).recorder = s.recorder ∧ (s.doWrite src t n d).slotA = s.slotA ∧
    (s.doWrite src t n d).slotB = s.slotB ∧ (s.doWrite src t n d).scene = s.scene ∧
    (s.doWrite src t n d).items = s.items ∧ (s.doWrite src t n d).portSeq = s.portSeq ∧
    (s.doWrite src t n d).inReset = s.inReset ∧ (s.doWrite src t n d).out = s.out ∧
    (s.doWrite src t n d).pending = s.pending := by
  simp only [State.doWrite]; (repeat' split) <;> simp [State.judge] <;> (repeat' split) <;> simp

@[simp] theorem State.doRead_keeps (src : Source) (t : Byte) (n : Nat) :
    (s.doRead src t n).head = s.head ∧ (s.doRead src t n).zoom = s.zoom ∧
    (s.doRead src t n).stab = s.stab ∧ (s.doRead src t n).audio = s.audio ∧
    (s.doRead src t n).recorder = s.recorder ∧ (s.doRead src t n).slotA = s.slotA ∧
    (s.doRead src t n).slotB = s.slotB ∧ (s.doRead src t n).vf = s.vf ∧
    (s.doRead src t n).sup = s.sup ∧ (s.doRead src t n).scene = s.scene ∧
    (s.doRead src t n).items = s.items ∧ (s.doRead src t n).portSeq = s.portSeq ∧
    (s.doRead src t n).inReset = s.inReset ∧ (s.doRead src t n).out = s.out ∧
    (s.doRead src t n).pending = s.pending := by
  simp only [State.doRead]; (repeat' split) <;> simp [State.judge] <;> (repeat' split) <;> simp

@[simp] theorem State.modifyLink_keeps (l : LinkId) (f : LinkCtl → LinkCtl) :
    (s.modifyLink l f).zoom = s.zoom ∧ (s.modifyLink l f).stab = s.stab ∧
    (s.modifyLink l f).audio = s.audio ∧ (s.modifyLink l f).recorder = s.recorder ∧
    (s.modifyLink l f).slotA = s.slotA ∧ (s.modifyLink l f).slotB = s.slotB ∧
    (s.modifyLink l f).vf = s.vf ∧ (s.modifyLink l f).sup = s.sup ∧
    (s.modifyLink l f).mgmt = s.mgmt ∧ (s.modifyLink l f).scene = s.scene ∧
    (s.modifyLink l f).items = s.items ∧ (s.modifyLink l f).portSeq = s.portSeq ∧
    (s.modifyLink l f).inReset = s.inReset ∧ (s.modifyLink l f).out = s.out ∧
    (s.modifyLink l f).pending = s.pending := by
  simp only [State.modifyLink]; simp

@[simp] theorem State.linkDown_keeps (l : LinkId) :
    (s.linkDown l).head = s.head ∧ (s.linkDown l).body = s.body ∧
    (s.linkDown l).audio = s.audio ∧ (s.linkDown l).slotA = s.slotA ∧
    (s.linkDown l).slotB = s.slotB ∧ (s.linkDown l).vf = s.vf ∧ (s.linkDown l).sup = s.sup ∧
    (s.linkDown l).scene = s.scene ∧ (s.linkDown l).items = s.items ∧
    (s.linkDown l).portSeq = s.portSeq ∧ (s.linkDown l).inReset = s.inReset ∧
    (s.linkDown l).out = s.out ∧ (s.linkDown l).pending = s.pending := by
  cases l <;> simp [State.linkDown]

@[simp] theorem State.alignShift_keeps  :
    (s.alignShift).body = s.body ∧ (s.alignShift).zoom = s.zoom ∧ (s.alignShift).stab = s.stab ∧
    (s.alignShift).audio = s.audio ∧ (s.alignShift).recorder = s.recorder ∧
    (s.alignShift).slotA = s.slotA ∧ (s.alignShift).slotB = s.slotB ∧ (s.alignShift).vf = s.vf ∧
    (s.alignShift).sup = s.sup ∧ (s.alignShift).mgmt = s.mgmt ∧ (s.alignShift).scene = s.scene ∧
    (s.alignShift).items = s.items ∧ (s.alignShift).portSeq = s.portSeq ∧
    (s.alignShift).inReset = s.inReset ∧ (s.alignShift).out = s.out ∧
    (s.alignShift).pending = s.pending := by
  simp only [State.alignShift]; (repeat' split) <;> simp

@[simp] theorem State.linkAligned_keeps (l : LinkId) :
    (s.linkAligned l).body = s.body ∧ (s.linkAligned l).stab = s.stab ∧
    (s.linkAligned l).audio = s.audio ∧ (s.linkAligned l).recorder = s.recorder ∧
    (s.linkAligned l).slotA = s.slotA ∧ (s.linkAligned l).slotB = s.slotB ∧
    (s.linkAligned l).vf = s.vf ∧ (s.linkAligned l).sup = s.sup ∧
    (s.linkAligned l).mgmt = s.mgmt ∧ (s.linkAligned l).scene = s.scene ∧
    (s.linkAligned l).items = s.items ∧ (s.linkAligned l).portSeq = s.portSeq ∧
    (s.linkAligned l).inReset = s.inReset ∧ (s.linkAligned l).out = s.out ∧
    (s.linkAligned l).pending = s.pending := by
  cases l <;> simp [State.linkAligned]

@[simp] theorem State.loseAlignment_keeps (l : LinkId) :
    (s.loseAlignment l).audio = s.audio ∧ (s.loseAlignment l).slotA = s.slotA ∧
    (s.loseAlignment l).slotB = s.slotB ∧ (s.loseAlignment l).vf = s.vf ∧
    (s.loseAlignment l).sup = s.sup ∧ (s.loseAlignment l).scene = s.scene ∧
    (s.loseAlignment l).items = s.items ∧ (s.loseAlignment l).portSeq = s.portSeq ∧
    (s.loseAlignment l).inReset = s.inReset ∧ (s.loseAlignment l).pending = s.pending := by
  simp only [State.loseAlignment]; (repeat' split) <;> simp

@[simp] theorem State.align_keeps (l : LinkId) :
    (s.align l).stab = s.stab ∧ (s.align l).audio = s.audio ∧ (s.align l).recorder = s.recorder ∧
    (s.align l).slotA = s.slotA ∧ (s.align l).slotB = s.slotB ∧ (s.align l).vf = s.vf ∧
    (s.align l).sup = s.sup ∧ (s.align l).mgmt = s.mgmt ∧ (s.align l).scene = s.scene ∧
    (s.align l).items = s.items ∧ (s.align l).portSeq = s.portSeq ∧
    (s.align l).inReset = s.inReset ∧ (s.align l).out = s.out ∧
    (s.align l).pending = s.pending := by
  simp only [State.align]; simp

@[simp] theorem State.goodInResync_keeps (l : LinkId) :
    (s.goodInResync l).stab = s.stab ∧ (s.goodInResync l).audio = s.audio ∧
    (s.goodInResync l).recorder = s.recorder ∧ (s.goodInResync l).slotA = s.slotA ∧
    (s.goodInResync l).slotB = s.slotB ∧ (s.goodInResync l).vf = s.vf ∧
    (s.goodInResync l).sup = s.sup ∧ (s.goodInResync l).mgmt = s.mgmt ∧
    (s.goodInResync l).scene = s.scene ∧ (s.goodInResync l).items = s.items ∧
    (s.goodInResync l).portSeq = s.portSeq ∧ (s.goodInResync l).inReset = s.inReset ∧
    (s.goodInResync l).out = s.out ∧ (s.goodInResync l).pending = s.pending := by
  simp only [State.goodInResync]; (repeat' split) <;> simp

@[simp] theorem State.takeLinkReset_keeps (l : LinkId) (e : Byte) :
    (s.takeLinkReset l e).audio = s.audio ∧ (s.takeLinkReset l e).slotA = s.slotA ∧
    (s.takeLinkReset l e).slotB = s.slotB ∧ (s.takeLinkReset l e).vf = s.vf ∧
    (s.takeLinkReset l e).sup = s.sup ∧ (s.takeLinkReset l e).scene = s.scene ∧
    (s.takeLinkReset l e).items = s.items ∧ (s.takeLinkReset l e).portSeq = s.portSeq ∧
    (s.takeLinkReset l e).inReset = s.inReset ∧ (s.takeLinkReset l e).pending = s.pending := by
  simp only [State.takeLinkReset]; (repeat' split) <;> simp

@[simp] theorem State.failCrc_keeps (l : LinkId) :
    (s.failCrc l).audio = s.audio ∧ (s.failCrc l).slotA = s.slotA ∧
    (s.failCrc l).slotB = s.slotB ∧ (s.failCrc l).vf = s.vf ∧ (s.failCrc l).sup = s.sup ∧
    (s.failCrc l).scene = s.scene ∧ (s.failCrc l).items = s.items ∧
    (s.failCrc l).portSeq = s.portSeq ∧ (s.failCrc l).inReset = s.inReset ∧
    (s.failCrc l).pending = s.pending := by
  simp only [State.failCrc]; (repeat' split) <;> simp

@[simp] theorem State.refusePacket_keeps (l : LinkId) (f : LinkCtl → LinkCtl) :
    (s.refusePacket l f).stab = s.stab ∧ (s.refusePacket l f).audio = s.audio ∧
    (s.refusePacket l f).recorder = s.recorder ∧ (s.refusePacket l f).slotA = s.slotA ∧
    (s.refusePacket l f).slotB = s.slotB ∧ (s.refusePacket l f).vf = s.vf ∧
    (s.refusePacket l f).sup = s.sup ∧ (s.refusePacket l f).mgmt = s.mgmt ∧
    (s.refusePacket l f).scene = s.scene ∧ (s.refusePacket l f).items = s.items ∧
    (s.refusePacket l f).portSeq = s.portSeq ∧ (s.refusePacket l f).inReset = s.inReset ∧
    (s.refusePacket l f).out = s.out ∧ (s.refusePacket l f).pending = s.pending := by
  simp only [State.refusePacket]; (repeat' split) <;> simp

@[simp] theorem State.lineReady_keeps (l : LinkId) :
    (s.lineReady l).zoom = s.zoom ∧ (s.lineReady l).stab = s.stab ∧
    (s.lineReady l).audio = s.audio ∧ (s.lineReady l).recorder = s.recorder ∧
    (s.lineReady l).slotA = s.slotA ∧ (s.lineReady l).slotB = s.slotB ∧
    (s.lineReady l).vf = s.vf ∧ (s.lineReady l).sup = s.sup ∧ (s.lineReady l).mgmt = s.mgmt ∧
    (s.lineReady l).scene = s.scene ∧ (s.lineReady l).items = s.items ∧
    (s.lineReady l).portSeq = s.portSeq ∧ (s.lineReady l).inReset = s.inReset ∧
    (s.lineReady l).pending = s.pending := by
  simp only [State.lineReady]; (repeat' split) <;> simp

@[simp] theorem State.resendExpires_keeps (l : LinkId) :
    (s.resendExpires l).zoom = s.zoom ∧ (s.resendExpires l).stab = s.stab ∧
    (s.resendExpires l).audio = s.audio ∧ (s.resendExpires l).recorder = s.recorder ∧
    (s.resendExpires l).slotA = s.slotA ∧ (s.resendExpires l).slotB = s.slotB ∧
    (s.resendExpires l).vf = s.vf ∧ (s.resendExpires l).sup = s.sup ∧
    (s.resendExpires l).mgmt = s.mgmt ∧ (s.resendExpires l).scene = s.scene ∧
    (s.resendExpires l).items = s.items ∧ (s.resendExpires l).portSeq = s.portSeq ∧
    (s.resendExpires l).inReset = s.inReset ∧ (s.resendExpires l).pending = s.pending := by
  simp only [State.resendExpires]; (repeat' split) <;> simp

end Sys2Proof.Machine
end

