-- ==== Sys2Proof/Laws/Factory.lean ====
section
/-! SUPPORT. The two factory tables that the manual gives by a formula, checked entry by entry against it,
and the sizes of the tables. -/

namespace Sys2Proof.Machine

/-- Entry `k` is 65536 × 10^((k − 40) / 40) rounded to the nearest integer: both sides of the rounding,
times two, to the 40th power and times 10^40 (R58). -/
def gainRounds (k m : Nat) : Bool :=
  decide ((2 * m - 1) ^ 40 * 10 ^ 40 ≤ (2 * 65536) ^ 40 * 10 ^ k)
    && decide ((2 * 65536) ^ 40 * 10 ^ k < (2 * m + 1) ^ 40 * 10 ^ 40)

/-- A row of the gain table, whose first entry has the number `k`. -/
def gainRowRounds (k : Nat) (row : List Nat) : Bool :=
  (row.zipIdx k).all (fun p => gainRounds p.2 p.1)

theorem gainRow0_rounds : gainRow0.head? = some 0 ∧ gainRowRounds 1 gainRow0.tail = true := by decide
theorem gainRow1_rounds : gainRowRounds 41 gainRow1 = true := by decide
theorem gainRow2_rounds : gainRowRounds 82 gainRow2 = true := by decide
theorem gainRow3_rounds : gainRowRounds 123 gainRow3 = true := by decide

/-- Entry `n` is 8,388,607 × 10^(−n/20) rounded down, to the 20th power (R65). -/
def thresholdRounds (n t : Nat) : Bool :=
  decide (t ^ 20 * 10 ^ n ≤ 8388607 ^ 20) && decide (8388607 ^ 20 < (t + 1) ^ 20 * 10 ^ n)

theorem meterThresholds_low :
    ((meterThresholds.take 30).zipIdx 1).all (fun p => thresholdRounds p.2 p.1) = true := by decide

theorem meterThresholds_high :
    ((meterThresholds.drop 30).zipIdx 31).all (fun p => thresholdRounds p.2 p.1) = true := by decide

theorem factoryGain_length : factoryGain.length = 161 := by
  simp [factoryGain, gainRow0, gainRow1, gainRow2, gainRow3]

theorem meterThresholds_length : meterThresholds.length = 60 := by simp [meterThresholds, meterRow0]
theorem factoryPresets_length : factoryPresets.length = 4 := rfl
theorem factoryPalette_length : factoryPalette.length = 16 := rfl
theorem factoryFault_length : factoryFault.length = 12 := rfl
theorem factoryGlyphs_length : factoryGlyphs.length = 96 := by simp [factoryGlyphs]

end Sys2Proof.Machine
end

