-- ==== Sys2Proof/Laws/Sides.lean ====
section
/-! SUPPORT. Links and slots kept apart: what an operation on one link leaves of the other link and of the
blocks behind it, what an operation on one slot leaves of the other slot, and what a packet's intake
leaves. -/

namespace Sys2Proof.Machine

variable (s : State)

/-! ### Links -/

@[simp] theorem State.modifyLink_head (f : LinkCtl → LinkCtl) :
    (s.modifyLink .head f).head = f s.head ∧ (s.modifyLink .head f).body = s.body := ⟨rfl, rfl⟩

@[simp] theorem State.modifyLink_body (f : LinkCtl → LinkCtl) :
    (s.modifyLink .body f).body = f s.body ∧ (s.modifyLink .body f).head = s.head := ⟨rfl, rfl⟩

@[simp] theorem State.link_modifyLink (l : LinkId) (f : LinkCtl → LinkCtl) :
    (s.modifyLink l f).link l = f (s.link l) := by
  cases l <;> rfl

@[simp] theorem State.hand_shiftCmd_head (p : YawPitch Int) :
    (s.hand (.shiftCmd p)).body = s.body ∧ (s.hand (.shiftCmd p)).head = s.head.hand (.shiftCmd p) :=
  ⟨rfl, rfl⟩

@[simp] theorem State.hand_tally_head (v : Lamp) :
    (s.hand (.tally v)).body = s.body ∧ (s.hand (.tally v)).head = s.head.hand (.tally v) := ⟨rfl, rfl⟩

@[simp] theorem State.hand_zoomCmd_head (v : Int) :
    (s.hand (.zoomCmd v)).body = s.body ∧ (s.hand (.zoomCmd v)).head = s.head.hand (.zoomCmd v) := ⟨rfl, rfl⟩

@[simp] theorem State.hand_monitor_body (v : List (Int × Int)) :
    (s.hand (.monitor v)).head = s.head ∧ (s.hand (.monitor v)).body = s.body.hand (.monitor v) := ⟨rfl, rfl⟩

@[simp] theorem State.notify_body (n : Notice) :
    (s.notify n).head = s.head ∧ (s.notify n).body = s.body.hand (.notice n) := ⟨rfl, rfl⟩

@[simp] theorem State.reply_body (t : Byte) (st : Status) (d : List Byte) :
    (s.reply t st d).head = s.head := rfl

@[simp] theorem State.sendLinkReset_sides :
    (s.sendLinkReset .head).body = s.body ∧ (s.sendLinkReset .body).head = s.head := ⟨rfl, rfl⟩

@[simp] theorem State.alignShift_sides : s.alignShift.body = s.body := by
  unfold State.alignShift; split <;> simp

@[simp] theorem State.sendZoom_sides : s.sendZoom.body = s.body := rfl

@[simp] theorem State.linkAligned_sides :
    (s.linkAligned .head).body = s.body ∧ s.linkAligned .body = s := by
  simp [State.linkAligned]

@[simp] theorem State.linkDown_sides :
    (s.linkDown .head).mgmt = s.mgmt ∧ (s.linkDown .body).zoom = s.zoom ∧ (s.linkDown .body).stab = s.stab ∧
    (s.linkDown .body).recorder = s.recorder := ⟨rfl, rfl, rfl, rfl⟩

@[simp] theorem State.align_sides :
    (s.align .head).body = s.body ∧ (s.align .body).head = s.head ∧ (s.align .body).zoom = s.zoom := by
  simp [State.align]

@[simp] theorem State.goodInResync_sides :
    (s.goodInResync .head).body = s.body ∧ (s.goodInResync .body).head = s.head ∧
    (s.goodInResync .body).zoom = s.zoom := by
  simp only [State.goodInResync]; (repeat' split) <;> simp

@[simp] theorem State.refusePacket_sides (f : LinkCtl → LinkCtl) :
    (s.refusePacket .head f).body = s.body ∧ (s.refusePacket .body f).head = s.head ∧
    (s.refusePacket .body f).zoom = s.zoom := by
  simp only [State.refusePacket]; (repeat' split) <;> simp

@[simp] theorem State.loseAlignment_sides :
    (s.loseAlignment .head).body = s.body ∧ (s.loseAlignment .head).mgmt = s.mgmt ∧
    (s.loseAlignment .body).head = s.head ∧ (s.loseAlignment .body).zoom = s.zoom ∧
    (s.loseAlignment .body).stab = s.stab ∧ (s.loseAlignment .body).recorder = s.recorder := by
  simp only [State.loseAlignment]; (repeat' split) <;> simp

@[simp] theorem State.failCrc_sides :
    (s.failCrc .head).body = s.body ∧ (s.failCrc .head).mgmt = s.mgmt ∧
    (s.failCrc .body).head = s.head ∧ (s.failCrc .body).zoom = s.zoom ∧
    (s.failCrc .body).stab = s.stab ∧ (s.failCrc .body).recorder = s.recorder := by
  simp only [State.failCrc]; (repeat' split) <;> simp

@[simp] theorem State.takeLinkReset_sides (e : Byte) :
    (s.takeLinkReset .head e).body = s.body ∧ (s.takeLinkReset .head e).mgmt = s.mgmt ∧
    (s.takeLinkReset .body e).head = s.head ∧ (s.takeLinkReset .body e).zoom = s.zoom ∧
    (s.takeLinkReset .body e).stab = s.stab ∧ (s.takeLinkReset .body e).recorder = s.recorder := by
  simp only [State.takeLinkReset]; (repeat' split) <;> simp

@[simp] theorem State.lineReady_sides :
    (s.lineReady .head).body = s.body ∧ (s.lineReady .body).head = s.head := by
  simp only [State.lineReady]; (repeat' split) <;> simp

@[simp] theorem State.resendExpires_sides :
    (s.resendExpires .head).body = s.body ∧ (s.resendExpires .body).head = s.head := by
  simp only [State.resendExpires]; (repeat' split) <;> simp

/-! ### Slots -/

@[simp] theorem State.modifySlot_sides (f : Slot → Slot) :
    (s.modifySlot .a f).slotB = s.slotB ∧ (s.modifySlot .b f).slotA = s.slotA ∧
    (s.modifySlot .a f).slotA = f s.slotA ∧ (s.modifySlot .b f).slotB = f s.slotB := ⟨rfl, rfl, rfl, rfl⟩

@[simp] theorem State.slot_modifySlot (x : SlotId) (f : Slot → Slot) :
    (s.modifySlot x f).slot x = f (s.slot x) := by
  cases x <;> rfl

@[simp] theorem State.modifyCounts_sides (f : SlotPart → SlotPart) :
    (s.modifyCounts .a f).slotB = s.slotB ∧ (s.modifyCounts .b f).slotA = s.slotA := ⟨rfl, rfl⟩

@[simp] theorem State.issue_sides (r : RequestBody) :
    (s.issue .a r).slotB = s.slotB ∧ (s.issue .b r).slotA = s.slotA := ⟨rfl, rfl⟩

@[simp] theorem State.slotTo_sides (st : SlotState) (r : SlotReason) :
    (s.slotTo .a st r).slotB = s.slotB ∧ (s.slotTo .b st r).slotA = s.slotA := ⟨rfl, rfl⟩

@[simp] theorem State.startMount_sides (r : SlotReason) :
    (s.startMount .a r).slotB = s.slotB ∧ (s.startMount .b r).slotA = s.slotA := by
  simp [State.startMount]

@[simp] theorem State.takeInsertion_sides :
    (s.takeInsertion .a).slotB = s.slotB ∧ (s.takeInsertion .b).slotA = s.slotA := by
  simp only [State.takeInsertion]; (repeat' split) <;> simp

@[simp] theorem State.mountOk_sides (n : Nat) :
    (s.mountOk .a n).slotB = s.slotB ∧ (s.mountOk .b n).slotA = s.slotA := by
  simp [State.mountOk]

@[simp] theorem State.mountError_sides :
    (s.mountError .a).slotB = s.slotB ∧ (s.mountError .b).slotA = s.slotA := by
  simp [State.mountError]

@[simp] theorem State.staleCompletion_sides :
    (s.staleCompletion .a).slotB = s.slotB ∧ (s.staleCompletion .b).slotA = s.slotA := ⟨rfl, rfl⟩

@[simp] theorem State.issueWrite_sides :
    (s.issueWrite .a).slotB = s.slotB ∧ (s.issueWrite .b).slotA = s.slotA := by
  simp only [State.issueWrite]; (repeat' split) <;> simp

@[simp] theorem State.issueClose_sides :
    (s.issueClose .a).slotB = s.slotB ∧ (s.issueClose .b).slotA = s.slotA := by
  simp only [State.issueClose]; (repeat' split) <;> simp

@[simp] theorem State.continueSlot_sides :
    (s.continueSlot .a).slotB = s.slotB ∧ (s.continueSlot .b).slotA = s.slotA := by
  simp [State.continueSlot]

@[simp] theorem State.beginClose_sides (r : CloseReason) :
    (s.beginClose .a r).slotB = s.slotB ∧ (s.beginClose .b r).slotA = s.slotA := by
  simp only [State.beginClose]; (repeat' split) <;> simp

@[simp] theorem State.releaseQueue_sides :
    (s.releaseQueue .a).slotB = s.slotB ∧ (s.releaseQueue .b).slotA = s.slotA := by
  simp [State.releaseQueue]

@[simp] theorem State.loseInFlight_sides :
    (s.loseInFlight .a).slotB = s.slotB ∧ (s.loseInFlight .b).slotA = s.slotA := by
  simp only [State.loseInFlight]; (repeat' split) <;> simp

@[simp] theorem State.endPart_sides (x : SlotId) :
    (s.endPart x).slotA = s.slotA ∧ (s.endPart x).slotB = s.slotB := by
  simp [State.endPart]

@[simp] theorem State.unitWriteOk_sides :
    (s.unitWriteOk .a).slotB = s.slotB ∧ (s.unitWriteOk .b).slotA = s.slotA := by
  simp only [State.unitWriteOk]; (repeat' split) <;> simp

@[simp] theorem State.unitWriteError_sides :
    (s.unitWriteError .a).slotB = s.slotB ∧ (s.unitWriteError .b).slotA = s.slotA := by
  simp only [State.unitWriteError, State.writeSkip, State.writeAbort]; (repeat' split) <;>
    simp [State.damagePart]

@[simp] theorem State.partCloseEnd_sides (ok : Bool) :
    (s.partCloseEnd .a ok).slotB = s.slotB ∧ (s.partCloseEnd .b ok).slotA = s.slotA := by
  cases ok <;> simp [State.partCloseEnd, State.damagePart]

/-! ### Intake -/

/-- Outside its owner's work, a packet of an inbound kind changes at most what any good packet of its
link may (R170, R172 to R174). -/
theorem State.intake_same {k : InKind} {seq : Byte} {owner : State → Nat → State} {b : Block}
    (hb : b ∉ packetBlocks k.link) (ho : ∀ u n, Block.same u (owner u n) b) :
    Block.same s (s.intake k seq owner) b := by
  have hset : ∀ (u : State) c, Block.same u (u.setLink k.link c) b := by
    intro u c
    cases hk : k.link <;> rw [hk] at hb <;> cases b <;> simp_all [packetBlocks, Block.same]
  have hres : ∀ u : State, Block.same u (u.goodInResync k.link) b := by
    intro u
    cases hk : k.link <;> rw [hk] at hb <;> cases b <;> simp_all [packetBlocks, Block.same]
  have trans : ∀ {u v w : State}, Block.same u v b → Block.same v w b → Block.same u w b := by
    intro u v w h h'
    cases b <;> simp_all [Block.same]
  unfold State.intake State.unlessReset
  split
  · cases b <;> rfl
  · dsimp only
    split
    · exact trans (hset _ _) (hres _)
    · split
      · exact trans (hset _ _) (hset _ _)
      · exact trans (trans (hset _ _) (hset _ _)) (ho _ _)

end Sys2Proof.Machine
end

