-- ==== Sys2Proof/Laws/Intake.lean ====
section
/-! SUPPORT. What the intake of a packet answers, said once: a packet taken, a repeat, a packet in RESYNC; a
COMMAND allowed and a COMMAND denied. -/

namespace Sys2Proof.Machine

variable {s : State} {k : InKind} {seq : Byte} {n : Nat}

@[simp] theorem State.setLink_setLink (s : State) (l : LinkId) (c d : LinkCtl) :
    (s.setLink l c).setLink l d = s.setLink l d := by
  cases l <;> rfl

@[simp] theorem State.permits_setLink (s : State) (l : LinkId) (c : LinkCtl) (src : Source) (bits : List Nat) :
    (s.setLink l c).permits src bits = s.permits src bits := by
  cases l <;> rfl

@[simp] theorem State.permits_taken (src : Source) (bits : List Nat) :
    (s.taken k seq n).permits src bits = s.permits src bits := by
  simp only [State.taken, State.permits_setLink]; rfl

/-- A packet taken is handed to its owner with the number missed, in the state `taken` (R173, R174). -/
theorem State.intake_of_takes {owner : State → Nat → State} (h : s.takes k seq n = true) :
    s.begin.intake k seq owner = owner (s.taken k seq n) n := by
  simp only [State.takes, Bool.and_eq_true, Bool.not_eq_true', decide_eq_true_eq] at h
  obtain ⟨⟨hr, ha⟩, hn⟩ := h
  have hb : s.begin.link k.link = s.link k.link := by cases k.link <;> rfl
  have ht : ∀ m, ((s.begin.modifyLink k.link LinkCtl.goodCrc).setLink k.link
      ((LinkCtl.goodCrc (s.link k.link)).takeSequence k.place seq m)) = s.taken k seq m := by
    intro m
    simp only [State.modifyLink, State.setLink_setLink, State.taken]
    rfl
  have hc : (LinkCtl.goodCrc (s.link k.link)).expect = (s.link k.link).expect := rfl
  have hst : (LinkCtl.goodCrc (s.link k.link)).state = .aligned := ha
  simp only [State.intake, State.unlessReset, State.begin_keeps, hr, Bool.false_eq_true, if_false,
    State.link_modifyLink, hb, hst, LinkCtl.checkSequence, hc]
  cases he : (s.link k.link).expect.get k.place with
  | none =>
    simp only [he, decide_eq_true_eq] at hn ⊢
    subst hn
    rw [ht]
  | some e =>
    simp only [he, Bool.and_eq_true, decide_eq_true_eq] at hn ⊢
    obtain ⟨rfl, h255⟩ := hn
    simp only [h255, if_false]
    rw [ht]

/-- A packet carrying the sequence of the one before it changes REPEATS alone (R173). -/
theorem State.intake_of_repeat {owner : State → Nat → State} (hr : s.inReset = false)
    (ha : (s.link k.link).state = .aligned) (he : (s.link k.link).expect.get k.place = some (seq + 1)) :
    s.begin.intake k seq owner = { s with out := [] }.setLink k.link
      { s.link k.link with crcFails := 0, repeats := sat16 ((s.link k.link).repeats + 1) } := by
  have hb : s.begin.link k.link = s.link k.link := by cases k.link <;> rfl
  have hc : (LinkCtl.goodCrc (s.link k.link)).expect = (s.link k.link).expect := rfl
  have hst : (LinkCtl.goodCrc (s.link k.link)).state = .aligned := ha
  have hn : (seq - (seq + 1)).toNat = 255 := by
    have : seq - (seq + 1) = 255#8 := by bv_omega
    rw [this]; rfl
  have hq : (LinkCtl.goodCrc (s.link k.link)).checkSequence k.place seq =
      ({ s.link k.link with crcFails := 0, repeats := sat16 ((s.link k.link).repeats + 1) }, none) := by
    simp only [LinkCtl.checkSequence, hc, he, hn, if_true]; rfl
  change _ = s.begin.setLink k.link _
  simp only [State.intake, State.unlessReset, State.begin_keeps, hr, Bool.false_eq_true, if_false,
    State.link_modifyLink, hb, hst, hq]
  simp only [State.modifyLink, State.setLink_setLink]

/-- A packet of an inbound kind in RESYNC counts to the good run (R170). -/
theorem State.intake_of_resync {owner : State → Nat → State} (hr : s.inReset = false)
    (ha : (s.link k.link).state = .resync) :
    s.begin.intake k seq owner = (s.begin.modifyLink k.link LinkCtl.goodCrc).goodInResync k.link := by
  have hb : s.begin.link k.link = s.link k.link := by cases k.link <;> rfl
  have hst : (LinkCtl.goodCrc (s.link k.link)).state = .resync := ha
  simp only [State.intake, State.unlessReset, State.begin_keeps, hr, Bool.false_eq_true, if_false,
    State.link_modifyLink, hb, hst]

/-- An ACTION allowed is carried out in the state `taken`, and then replied (R181, R182). -/
theorem State.action_of_takes {src : Source} {tag : Byte} {bits : List Nat} {run : State → State × Status}
    (h : s.takesCommand seq src bits n = true) :
    s.begin.action seq src tag bits run =
      (run (s.taken .command seq n)).1.reply tag (run (s.taken .command seq n)).2 [] := by
  simp only [State.takesCommand, Bool.and_eq_true] at h
  simp only [State.action, State.command]
  rw [State.intake_of_takes h.1]
  simp only [State.judgeAction, State.judge, State.permits_taken, h.2, if_true]

/-- An ACTION denied counts in DENIED_COUNT and is replied DENIED (R189). -/
theorem State.action_of_denied {src : Source} {tag : Byte} {bits : List Nat} {run : State → State × Status}
    (h : s.takes .command seq n = true) (hp : s.permits src bits = false) :
    s.begin.action seq src tag bits run =
      (s.taken .command seq n).countDenied.reply tag .denied [] := by
  simp only [State.action, State.command]
  rw [State.intake_of_takes h]
  simp only [State.judgeAction, State.judge, State.permits_taken, hp, Bool.false_eq_true, if_false]

end Sys2Proof.Machine
end

