-- ==== Sys2Proof/Laws/PerInstr.lean ====
section
/-! SUPPORT. One lemma per command on the framing of its packet: the length field, the largest payload, the
link and the sequence in the header (R167, R172, R200). -/

namespace Sys2Proof.Laws.Framing

open Sys2Proof Sys2Proof.Machine

/-- The packet formed for a well-formed row is at most 4103 bytes long, its length field spells its
payload's length, and a row with a checked sequence goes to its kind's link with that sequence in the
header. -/
def Statement (i : Instr) : Prop :=
  i.wellFormed = true → ∀ l bytes, packetOf i = some (l, bytes) →
    bytes.length ≤ 4103 ∧ leNat ((bytes.drop 3).take 2) + 7 = bytes.length ∧
    ∀ k seq, i.sequenced = some (k, seq) → l = k.link ∧ bytes[2]? = some seq

theorem leBytes_length (n v : Nat) : (leBytes n v).length = n := by
  induction n generalizing v with
  | zero => rfl
  | succ n ih => simp [leBytes, ih]

/-- The frame of R200: seven bytes about the payload, the length in the fourth and fifth. -/
theorem frameBytes_framed (kind channel seq : Byte) (payload : List Byte) (h : payload.length ≤ 4096) :
    (frameBytes kind channel seq payload).length ≤ 4103 ∧
    leNat (((frameBytes kind channel seq payload).drop 3).take 2) + 7 =
      (frameBytes kind channel seq payload).length ∧
    (frameBytes kind channel seq payload)[2]? = some seq := by
  simp only [frameBytes, leBytes, leNat, List.cons_append, List.nil_append, List.drop_succ_cons, List.drop_zero,
    List.take_succ_cons, List.take_zero, List.length_cons, List.length_append, List.length_nil,
    BitVec.toNat_ofNat, List.getElem?_cons_succ, List.getElem?_cons_zero]
  refine ⟨by omega, by omega, trivial⟩

/-- A row presented on its kind's link in a frame with its own sequence has the property. -/
theorem of_frame {i : Instr} {l : LinkId} {kind seq : Byte} {payload : List Byte}
    (hp : i.wellFormed = true → payload.length ≤ 4096)
    (hi : packetOf i = some (l, frameBytes kind 0#8 seq payload))
    (hs : ∀ k q, i.sequenced = some (k, q) → l = k.link ∧ q = seq) : Statement i := by
  intro hw l' bytes h
  rw [hi] at h
  cases h
  obtain ⟨h1, h2, h3⟩ := frameBytes_framed kind 0#8 seq payload (hp hw)
  refine ⟨h1, h2, fun k q h => ?_⟩
  obtain ⟨rfl, rfl⟩ := hs k q h
  exact ⟨rfl, h3⟩

/-- The same, for a payload whose length needs no premise. -/
theorem of_small {i : Instr} {l : LinkId} {kind seq : Byte} {payload : List Byte}
    (hp : decide (payload.length ≤ 4096) = true)
    (hi : packetOf i = some (l, frameBytes kind 0#8 seq payload))
    (hs : ∀ k q, i.sequenced = some (k, q) → l = k.link ∧ q = seq) : Statement i :=
  of_frame (fun _ => of_decide_eq_true hp) hi hs

/-- A row that is no packet has the property. -/
theorem of_none {i : Instr} (hi : packetOf i = none) : Statement i := by
  intro _ l bytes h
  rw [hi] at h
  cases h

theorem flatMap_length {α : Type} (f : α → List Byte) (n : Nat) (h : ∀ a, (f a).length = n) (xs : List α) :
    (xs.flatMap f).length = xs.length * n := by
  induction xs with
  | nil => simp
  | cons a xs ih => rw [List.flatMap_cons, List.length_append, ih, h, List.length_cons]; ring

theorem powerOnReset : Statement .powerOnReset := of_none rfl
theorem powerOnResetEnd : Statement .powerOnResetEnd := of_none rfl
theorem motion (seq : Byte) (yaw pitch : BitVec 16) : Statement (.motion seq yaw pitch) :=
  of_small rfl rfl (by simp [Instr.sequenced, InKind.link])

theorem lensReport (seq : Byte) (z shiftYaw shiftPitch : BitVec 16) (status : Byte) :
    Statement (.lensReport seq z shiftYaw shiftPitch status) :=
  of_small rfl rfl (by simp [Instr.sequenced, InKind.link])

theorem panel (seq : Byte) (rocker buttons : Byte) : Statement (.panel seq rocker buttons) :=
  of_small rfl rfl (by simp [Instr.sequenced, InKind.link])

theorem audioIn (seq : Byte) (samples : List InputSamples) : Statement (.audioIn seq samples) :=
  of_frame (fun hw => by
    have hn : samples.length = 48 := by simpa [Instr.wellFormed] using hw
    have hb : ∀ q, (sampleBytes q).length = 12 := fun q => by simp [sampleBytes, leBytes_length]
    rw [flatMap_length sampleBytes 12 hb]; omega) rfl (by simp [Instr.sequenced, InKind.link])

theorem frameMark (seq : Byte) (frame : BitVec 32) (tc : Timecode) (rate : RateCode) :
    Statement (.frameMark seq frame tc rate) :=
  of_small rfl rfl (by simp [Instr.sequenced, InKind.link])

theorem essence (seq : Byte) (frame : BitVec 32) (stream : Stream) (last : Bool) (offset : BitVec 32) (bytes : List Byte) :
    Statement (.essence seq frame stream last offset bytes) :=
  of_frame (fun hw => by
    have hn : bytes.length ≤ 4086 := of_decide_eq_true hw
    simp only [List.length_append, leBytes_length, List.length_cons, List.length_nil]; omega) rfl
    (by simp [Instr.sequenced, InKind.link])

theorem vfLine (seq : Byte) (line : BitVec 16) (pixels : List (BitVec 32)) :
    Statement (.vfLine seq line pixels) := of_frame (fun hw => by
    have hn : pixels.length = 960 := by simpa [Instr.wellFormed] using hw
    have hb : ∀ p : BitVec 32, (leBytes 4 p.toNat).length = 4 := fun p => leBytes_length 4 _
    rw [List.length_append, flatMap_length _ 4 hb, leBytes_length]; omega) rfl
    (by simp [Instr.sequenced, InKind.link])

theorem linkReset (link : LinkId) (epoch : Byte) : Statement (.linkReset link epoch) :=
  of_small rfl rfl (by simp [Instr.sequenced])

theorem inboundCrcFailure (link : LinkId) : Statement (.inboundCrcFailure link) := of_none rfl
theorem foreignPacket (link : LinkId) : Statement (.foreignPacket link) := of_none rfl
theorem rejectedPacket (link : LinkId) : Statement (.rejectedPacket link) := of_none rfl
theorem lossOfFraming (link : LinkId) : Statement (.lossOfFraming link) := of_none rfl
theorem resendTimerExpiry (link : LinkId) : Statement (.resendTimerExpiry link) := of_none rfl
theorem transmitLineReady (link : LinkId) : Statement (.transmitLineReady link) := of_none rfl
theorem get (seq : Byte) (src : Source) (tag item : Byte) : Statement (.get seq src tag item) :=
  of_small rfl rfl (by simp [Instr.sequenced, InKind.link])

theorem set (seq : Byte) (src : Source) (tag item : Byte) (value : BitVec 32) :
    Statement (.set seq src tag item value) := of_small rfl rfl (by simp [Instr.sequenced, InKind.link])

theorem select (seq : Byte) (src : Source) (tag table : Byte) (index : BitVec 16) :
    Statement (.select seq src tag table index) :=
  of_small rfl rfl (by simp [Instr.sequenced, InKind.link])

theorem write (seq : Byte) (src : Source) (tag : Byte) (n : BitVec 16) (data : List Byte) :
    Statement (.write seq src tag n data) := of_frame (fun hw => by
    have hn : data.length ≤ 4091 := of_decide_eq_true hw
    simp only [commandPayload, List.length_append, leBytes_length, List.length_cons]; omega) rfl
    (by simp [Instr.sequenced, InKind.link])

theorem read (seq : Byte) (src : Source) (tag : Byte) (n : BitVec 16) :
    Statement (.read seq src tag n) := of_small rfl rfl (by simp [Instr.sequenced, InKind.link])

theorem undefinedCommand (seq tag : Byte) : Statement (.undefinedCommand seq tag) := of_none rfl
theorem recStart (seq : Byte) (src : Source) (tag : Byte) : Statement (.recStart seq src tag) :=
  of_small rfl rfl (by simp [Instr.sequenced, InKind.link])

theorem recStop (seq : Byte) (src : Source) (tag : Byte) : Statement (.recStop seq src tag) :=
  of_small rfl rfl (by simp [Instr.sequenced, InKind.link])

theorem mark (seq : Byte) (src : Source) (tag : Byte) : Statement (.mark seq src tag) :=
  of_small rfl rfl (by simp [Instr.sequenced, InKind.link])

theorem zoomPreset (seq : Byte) (src : Source) (tag n : Byte) : Statement (.zoomPreset seq src tag n) :=
  of_small rfl rfl (by simp [Instr.sequenced, InKind.link])

theorem zoomStop (seq : Byte) (src : Source) (tag : Byte) : Statement (.zoomStop seq src tag) :=
  of_small rfl rfl (by simp [Instr.sequenced, InKind.link])

theorem stabOn (seq : Byte) (src : Source) (tag : Byte) : Statement (.stabOn seq src tag) :=
  of_small rfl rfl (by simp [Instr.sequenced, InKind.link])

theorem stabOff (seq : Byte) (src : Source) (tag : Byte) : Statement (.stabOff seq src tag) :=
  of_small rfl rfl (by simp [Instr.sequenced, InKind.link])

theorem baselineReset (seq : Byte) (src : Source) (tag : Byte) :
    Statement (.baselineReset seq src tag) := of_small rfl rfl (by simp [Instr.sequenced, InKind.link])

theorem enterSetup (seq : Byte) (src : Source) (tag : Byte) : Statement (.enterSetup seq src tag) :=
  of_small rfl rfl (by simp [Instr.sequenced, InKind.link])

theorem enterRun (seq : Byte) (src : Source) (tag : Byte) : Statement (.enterRun seq src tag) :=
  of_small rfl rfl (by simp [Instr.sequenced, InKind.link])

theorem lensTableClear (seq : Byte) (src : Source) (tag : Byte) :
    Statement (.lensTableClear seq src tag) := of_small rfl rfl (by simp [Instr.sequenced, InKind.link])

theorem clearHold (seq : Byte) (src : Source) (tag slot : Byte) :
    Statement (.clearHold seq src tag slot) := of_small rfl rfl (by simp [Instr.sequenced, InKind.link])

theorem clearFault (seq : Byte) (src : Source) (tag scope group detail : Byte) :
    Statement (.clearFault seq src tag scope group detail) :=
  of_small rfl rfl (by simp [Instr.sequenced, InKind.link])

theorem storeScene (seq : Byte) (src : Source) (tag area : Byte) :
    Statement (.storeScene seq src tag area) :=
  of_small rfl rfl (by simp [Instr.sequenced, InKind.link])

theorem recallScene (seq : Byte) (src : Source) (tag area : Byte) :
    Statement (.recallScene seq src tag area) :=
  of_small rfl rfl (by simp [Instr.sequenced, InKind.link])

theorem recallFactory (seq : Byte) (src : Source) (tag : Byte) :
    Statement (.recallFactory seq src tag) := of_small rfl rfl (by simp [Instr.sequenced, InKind.link])

theorem storeFixed (seq : Byte) (src : Source) (tag : Byte) : Statement (.storeFixed seq src tag) :=
  of_small rfl rfl (by simp [Instr.sequenced, InKind.link])

theorem cardInsertion (slot : SlotId) : Statement (.cardInsertion slot) := of_none rfl
theorem cardRemoval (slot : SlotId) : Statement (.cardRemoval slot) := of_none rfl
theorem mountCompletion (slot : SlotId) (number : Byte) (ok : Bool) (free : BitVec 32) :
    Statement (.mountCompletion slot number ok free) := of_none rfl

theorem partOpenCompletion (slot : SlotId) (number : Byte) (ok : Bool) :
    Statement (.partOpenCompletion slot number ok) := of_none rfl

theorem unitWriteCompletion (slot : SlotId) (number : Byte) (ok : Bool) :
    Statement (.unitWriteCompletion slot number ok) := of_none rfl

theorem partCloseCompletion (slot : SlotId) (number : Byte) (ok : Bool) :
    Statement (.partCloseCompletion slot number ok) := of_none rfl

theorem mountTimeout (slot : SlotId) : Statement (.mountTimeout slot) := of_none rfl
theorem slowTimerExpiry (slot : SlotId) : Statement (.slowTimerExpiry slot) := of_none rfl
theorem requestTimeout (slot : SlotId) : Statement (.requestTimeout slot) := of_none rfl
theorem lensSilenceTimerExpiry : Statement .lensSilenceTimerExpiry := of_none rfl
theorem rockerLapseTimerExpiry : Statement .rockerLapseTimerExpiry := of_none rfl
theorem presetTimeoutExpiry : Statement .presetTimeoutExpiry := of_none rfl
theorem refreshTimerExpiry : Statement .refreshTimerExpiry := of_none rfl
theorem gyroSilenceTimerExpiry : Statement .gyroSilenceTimerExpiry := of_none rfl
theorem longGapTimerExpiry : Statement .longGapTimerExpiry := of_none rfl
theorem audioSilenceTimerExpiry : Statement .audioSilenceTimerExpiry := of_none rfl
theorem meterLapseTimerExpiry : Statement .meterLapseTimerExpiry := of_none rfl
theorem markSilenceTimerExpiry : Statement .markSilenceTimerExpiry := of_none rfl
theorem lineSilenceTimerExpiry : Statement .lineSilenceTimerExpiry := of_none rfl
theorem checkCycle : Statement .checkCycle := of_none rfl
theorem storeCompletion (ok : Bool) : Statement (.storeCompletion ok) := of_none rfl
theorem storeTimeout : Statement .storeTimeout := of_none rfl
theorem recallCompletion : Statement .recallCompletion := of_none rfl
theorem cellWriteCompletion (ok : Bool) : Statement (.cellWriteCompletion ok) := of_none rfl

end Sys2Proof.Laws.Framing
end

