-- ==== Sys2Proof/Laws/Shared.lean ====
section
/-! SUPPORT. What the shared operations answer, said once: a packet handed, the arbiter, clamping, counting,
places of a quad, entries of a table, the end of a recording. -/

namespace Sys2Proof.Machine

@[simp] theorem Quad.get_set_same {α : Type} (q : Quad α) (i : Four) (a : α) : (q.set i a).get i = a := by
  cases i <;> rfl

theorem Quad.get_set_other {α : Type} (q : Quad α) (i j : Four) (a : α) (h : j ≠ i) :
    (q.set i a).get j = q.get j := by
  cases i <;> cases j <;> first | rfl | exact absurd rfl h

theorem sat16_le (n : Nat) : sat16 n ≤ 65535 := Nat.min_le_right ..

theorem sat16_of_le {n : Nat} (h : n ≤ 65535) : sat16 n = n := Nat.min_eq_left h

theorem clampInt_mem {lo hi : Int} (h : lo ≤ hi) (x : Int) : lo ≤ clampInt lo hi x ∧ clampInt lo hi x ≤ hi := by
  unfold clampInt; (repeat' split) <;> omega

theorem clampInt_of_mem {lo hi x : Int} (h₁ : lo ≤ x) (h₂ : x ≤ hi) : clampInt lo hi x = x := by
  unfold clampInt; (repeat' split) <;> omega

theorem clampNat_mem {lo hi : Nat} (h : lo ≤ hi) (x : Nat) : lo ≤ clampNat lo hi x ∧ clampNat lo hi x ≤ hi := by
  unfold clampNat; (repeat' split) <;> omega

theorem clampNat_of_mem {lo hi x : Nat} (h₁ : lo ≤ x) (h₂ : x ≤ hi) : clampNat lo hi x = x := by
  unfold clampNat; (repeat' split) <;> omega

theorem keepLast_length {α : Type} (n : Nat) (xs : List α) : (keepLast n xs).length ≤ n := by
  simp only [keepLast, List.length_drop]; omega

/-- Entries replaced inside a table leave its size as it was. -/
theorem replaceAt_length {α : Type} (xs es : List α) (c : Nat) (h : c + es.length ≤ xs.length) :
    (replaceAt xs c es).length = xs.length := by
  simp only [replaceAt, List.length_append, List.length_take, List.length_drop]; omega

/-- What a table reads at an index after entries were replaced: the entry written there, else its own. -/
theorem replaceAt_getElem? {α : Type} (xs es : List α) (c i : Nat) (h : c + es.length ≤ xs.length) :
    (replaceAt xs c es)[i]? = if c ≤ i ∧ i < c + es.length then es[i - c]? else xs[i]? := by
  have hc : (xs.take c).length = c := by rw [List.length_take]; omega
  simp only [replaceAt, List.append_assoc]
  by_cases h₁ : i < c
  · rw [List.getElem?_append_left (by omega), List.getElem?_take_of_lt h₁, if_neg (by omega)]
  · rw [List.getElem?_append_right (by omega), hc]
    by_cases h₂ : i < c + es.length
    · rw [List.getElem?_append_left (by omega), if_pos ⟨by omega, h₂⟩]
    · rw [List.getElem?_append_right (by omega), List.getElem?_drop, if_neg (by omega)]
      congr 1; omega

/-- A WRITE of the permission map keeps its 17 entries, and its count covers the entries written (R188). -/
theorem Management.putMap_keeps (m : Management) (c : Nat) (es : List (BitVec 16))
    (h : c + es.length ≤ m.map.length) :
    (m.putMap c es).map.length = m.map.length ∧ m.mapCount ≤ (m.putMap c es).mapCount ∧
      c + es.length ≤ (m.putMap c es).mapCount :=
  ⟨replaceAt_length _ _ _ h, Nat.le_max_left .., Nat.le_max_right ..⟩

/-- A packet handed touches the sequence of its kind, the queue and the two counters of packets lost. -/
@[simp] theorem LinkCtl.hand_keeps (c : LinkCtl) (m : OutMsg) :
    (c.hand m).state = c.state ∧ (c.hand m).expect = c.expect ∧ (c.hand m).crcFails = c.crcFails ∧
    (c.hand m).goodRun = c.goodRun ∧ (c.hand m).ownEpoch = c.ownEpoch ∧
    (c.hand m).partnerEpoch = c.partnerEpoch ∧ (c.hand m).resend = c.resend ∧
    (c.hand m).crcErrors = c.crcErrors ∧ (c.hand m).missed = c.missed ∧ (c.hand m).repeats = c.repeats ∧
    (c.hand m).rejected = c.rejected ∧ (c.hand m).foreign = c.foreign ∧
    (c.hand m).linkResets = c.linkResets ∧ (c.hand m).crcPresent = c.crcPresent := by
  simp only [LinkCtl.hand]
  cases c.state <;> simp only [] <;> (try split) <;> simp

/-- The queue stays at 32 packets at most, and a link in RESYNC queues nothing. -/
theorem LinkCtl.hand_sound (c : LinkCtl) (m : OutMsg) (h : c.sound) : (c.hand m).sound := by
  obtain ⟨hq, hf, hs⟩ := h
  cases hc : c.state <;> simp only [hc] at hs
  · refine ⟨?_, by simpa using hf, by simpa [hc] using hs⟩
    simp only [LinkCtl.hand, hc]
    split <;> simp_all
  · refine ⟨?_, by simpa using hf, ?_⟩
    · simp only [LinkCtl.hand, hc]; exact hq
    · simp only [LinkCtl.hand, hc]; exact hs

/-- The arbiter leaves the sent speed at the masked class speed; a changed one gives one ZOOM_CMD, restarts the
refresh timer and loads the drop window (R21, R39). -/
theorem State.arbitrate_cases (s : State) :
    (s.zoom.maskSpeed s.zoom.classSpeed = s.zoom.sentSpeed ∧ s.arbitrate = s) ∨
    (s.zoom.maskSpeed s.zoom.classSpeed ≠ s.zoom.sentSpeed ∧
      s.arbitrate = { s with
        head := s.head.hand (.zoomCmd (s.zoom.maskSpeed s.zoom.classSpeed))
        zoom := { s.zoom with sentSpeed := s.zoom.maskSpeed s.zoom.classSpeed, refresh := .running 20 }
        stab := { s.stab with dropWindow := s.items.stab.dropWindow } }) := by
  unfold State.arbitrate
  by_cases h : s.zoom.maskSpeed s.zoom.classSpeed = s.zoom.sentSpeed
  · exact .inl ⟨h, if_pos h⟩
  · exact .inr ⟨h, if_neg h⟩

/-- What the end of a part makes of the recording: with every part ended a recording ends, with the reason that
its state gives, and else nothing happens (R92, R94). -/
theorem State.afterPartEnd_eq (s : State) :
    s.afterPartEnd =
      if s.recorder.allEnded = true ∧ s.recorder.state.recording? = true then
        s.endRecording
          (match s.recorder.state with
          | .starting => s.recorder.pendingStop.getD .openFailed
          | .recording => s.recorder.pendingStop.getD .mediaLost
          | _ => s.recorder.stopReason.getD .operator)
      else s := by
  unfold State.afterPartEnd
  cases s.recorder.allEnded <;> cases h : s.recorder.state <;> simp [RecState.recording?]

/-- A reply is one packet handed to the body link, with data where the command was taken (R182). -/
theorem State.reply_eq (s : State) (tag : Byte) (st : Status) (d : List Byte) :
    s.reply tag st d = { s with body := s.body.hand (.reply tag st (if st.taken then d else [])) } := by
  simp [State.reply, State.hand, OutMsg.link, State.setLink, State.link]

/-- A notice is one packet handed to the body link. -/
theorem State.notify_eq (s : State) (n : Notice) :
    s.notify n = { s with body := s.body.hand (.notice n) } := by
  simp [State.notify, State.hand, OutMsg.link, State.setLink, State.link]

end Sys2Proof.Machine
end

