-- ==== Sys2Proof/Tests/Slice0.lean ====
section
/-! SUPPORT. Tests of single steps against the manual's worked examples, the refusals of `wellFormed`, packets and
completions written out byte by byte, and a witness for the premises of each statement that has some. -/

namespace Sys2Proof.Tests

open Sys2Proof Sys2Proof.Machine

/-! ### States to start from -/

/-- Both links ALIGNED after power-on, nothing expected, optics in SETUP. -/
def up : State :=
  { State.reset with
    inReset := false
    head := { LinkCtl.powerOn with state := .aligned }
    body := { LinkCtl.powerOn with state := .aligned } }

/-- Both links in RESYNC after power-on, their resend timers running. -/
def lost : State :=
  { up with
    head := { LinkCtl.powerOn with resend := .running 2 }, body := { LinkCtl.powerOn with resend := .running 2 } }

/-- The lens table of the manual's interpolation example (1.3). -/
def lens4 : List LensEntry :=
  [⟨0, 80, 6400, 4000⟩, ⟨20000, 300, 25600, 3000⟩, ⟨40000, 700, 51200, 2500⟩, ⟨60000, 1600, 38400, 1200⟩]

/-- The speed curve of the manual's rocker example (1.4). -/
def curve9 : List (Option Nat) := [0, 40, 200, 320, 480, 640, 800, 920, 1023].map some

/-- Optics in RUN at Z = 20000, with presets 1 and 2. -/
def zooming : State :=
  { up with
    zoom :=
      { Zoom.powerOn with
        mode := .run, lens := lens4, curve := curve9, presets := [⟨0, 512⟩, ⟨50000, 600⟩, ⟨0, 0⟩, ⟨0, 0⟩]
        report := ⟨20000, .both 0, false, false, false⟩ } }

/-- The stabiliser in the state given, at the zoom of `zooming`. -/
def stabIn (st : StabState) : State := { zooming with stab := { Stabiliser.powerOn with state := st } }

/-- Slot A as given. -/
def slotA (c : Slot) : State := { up with slotA := c }

/-- A card present, its request outstanding. -/
def asking (k : RequestKind) (st : SlotState) : Slot :=
  { Slot.powerOn true with
    cardPresent := true, state := st, request := some ⟨k, 7#8⟩, requestNumber := 7#8, free := 300
    slowTimer := .running 500, requestTimer := .running 2000 }

def part0 : SlotPart := ⟨7, 1, 0, 0, 0, false, false, .stop, none, none⟩

def unit0 : RecordUnit :=
  ⟨3, 100, ⟨0#8, 0#8, 0#8, 0#8⟩, .r25, ⟨[], 0, false⟩, ⟨[], 0, false⟩, .fill [], 0, none, .off, [], false, false,
    false, false, false, [1, 2], 1⟩

/-- A recording with one part open on slot A and the unit of frame 100 under assembly. -/
def recordingA : State :=
  { up with
    recorder :=
      { Recorder.powerOn with
        state := .recording, lamp := .on, clipCounter := 7, assembly := some 3
        openFrame := some ⟨100, ⟨0#8, 0#8, 0#8, 0#8⟩, .r25⟩, lastMark := some ⟨100, ⟨0#8, 0#8, 0#8, 0#8⟩, .r25⟩
        markSilence := .running 200
        store := ⟨[], 3, [unit0], 4⟩, parts := [⟨7, 1, .a, .opened, 0, [], 0⟩] }
    slotA := { asking .unitWrite .writing with part := some part0, inFlight := some 3, reserved := 2 } }

/-- The state a command answers. -/
def after (i : Instr) (s : State) : State :=
  match exec i s with
  | .next t => t
  | .fault _ | .refused _ => s

/-! ### Well-formed terms (R200) -/

theorem test_audioIn_of_47 : (Instr.audioIn 0#8 (List.replicate 47 (.fill 0#24))).wellFormed = false := by decide
theorem test_audioIn_of_48 : (Instr.audioIn 0#8 (List.replicate 48 (.fill 0#24))).wellFormed = true := by decide
theorem test_vfLine_of_2 : (Instr.vfLine 0#8 0#16 [0#32, 0#32]).wellFormed = false := by decide
theorem test_essence_too_long :
    (Instr.essence 0#8 0#32 .main false 0#32 (List.replicate 4087 0#8)).wellFormed = false := by
  decide +kernel
theorem test_write_too_long : (Instr.write 0#8 .system 0#8 1#16 (List.replicate 4092 0#8)).wellFormed = false := by
  decide +kernel

/-! ### Packets written out from the layouts, CRC included (R200, R201, R203, R206) -/

theorem test_receive_panel :
    receive .head [0x03#8, 0x00#8, 0x07#8, 0x02#8, 0x00#8, 0x28#8, 0x09#8, 0x96#8, 0xBD#8] =
      .panel 0x07#8 0x28#8 0x09#8 := by decide +kernel
theorem test_receive_get :
    receive .body [0x13#8, 0x00#8, 0x01#8, 0x04#8, 0x00#8, 0x00#8, 0x2A#8, 0x01#8, 0x29#8, 0x75#8, 0x1F#8] =
      .get 0x01#8 .system 0x2A#8 41#8 := by decide +kernel
theorem test_receive_mount :
    receiveCompletion .b [0x00#8, 0x05#8, 0x00#8, 0x80#8, 0x4F#8, 0x12#8, 0x00#8] =
      some (.mountCompletion .b 0x05#8 true 1200000#32) := by decide
theorem test_receive_unit_write_error :
    receiveCompletion .a [0x02#8, 0x36#8, 0x01#8] = some (.unitWriteCompletion .a 0x36#8 false) := by decide

/-! ### Links -/

/-- The manual's sequence arithmetic: 255 expected, 1 arrives, two are missed (8.4). -/
theorem test_sequence_two_missed :
    let s := { up with head := { up.head with expect := { up.head.expect with q1 := some 255#8 } } }
    (after (.motion 1#8 0#16 0#16) s).head.missed = 2 ∧
      (after (.motion 1#8 0#16 0#16) s).head.expect.q1 = some 2#8 := by decide

/-- The manual's damage on the head link: the fourth failure in a row (8.6). -/
theorem test_fourth_failure :
    let s := { up with head := { up.head with ownEpoch := 3#8, partnerEpoch := some 16#8, crcFails := 3 } }
    (after (.inboundCrcFailure .head) s).head.state = .resync ∧
      (after (.inboundCrcFailure .head) s).out = [.linkReset .head 0#8 4#8] := by decide

theorem test_new_epoch_aligns : (after (.linkReset .head 17#8) lost).head.state = .aligned := by decide

theorem test_outbound_kind_rejected : (after (.rejectedPacket .body) up).body.rejected = 1 := by decide

theorem test_other_channel_foreign : (after (.foreignPacket .head) up).head.foreign = 1 := by decide

theorem test_framing_lost : (after (.lossOfFraming .body) up).body.linkResets = 1 := by decide

theorem test_line_takes_oldest :
    let s := { up with body := { up.body with txQueue := [⟨4#8, .tally .off⟩, ⟨5#8, .tally .on⟩] } }
    (after (.transmitLineReady .body) s).out = [.packet .body ⟨4#8, .tally .off⟩] := by decide

theorem test_resend :
    (after (.resendTimerExpiry .head) lost).out = [.linkReset .head 0#8 0#8] := by decide

/-! ### Zoom drive: the manual's worked examples (1.3, 1.4, 1.6) -/

theorem test_interpolation :
    lensValues lens4 30000 = ⟨38400, 500, 2500⟩ ∧ lensValues lens4 40003 = ⟨51199, 700, 1200⟩ ∧
      lensValues lens4 20000 = ⟨25600, 300, 3000⟩ ∧ zoomPercent lens4 62000 = 100 := by decide

theorem test_rocker :
    let it (scale : Nat) : ZoomItems := { defaultItems.zoom with scale := scale }
    rockerDemand curve9 (it 0x100) 6 = none ∧ rockerDemand curve9 (it 0x180) 7 = some 25 ∧
      rockerDemand curve9 (it 0x40) 20 = some 20 ∧ rockerDemand curve9 (it 0x180) 40 = some 390 ∧
      rockerDemand curve9 (it 0x100) (-60) = some (-440) ∧
      rockerDemand curve9 (it 0x180) (-127) = some (-1023) := by decide

/-- Step 1 of the manual's preset sequence. -/
theorem test_preset_starts : (after (.zoomPreset 0#8 .system 1#8 2#8) zooming).zoom.sentSpeed = 600 := by
  decide

/-- Step 6 of the manual's preset sequence: 600 × 1500 / 2048. -/
theorem test_preset_slows :
    let s := { zooming with zoom := { zooming.zoom with move := some ⟨2, 50000, 600, 600, .running 10000⟩ } }
    (after (.lensReport 0#8 48500#16 0#16 0#16 0#8) s).zoom.sentSpeed = 439 := by decide

/-- Step 7: inside the window, ARRIVED. -/
theorem test_preset_arrives :
    let s := { zooming with zoom := { zooming.zoom with move := some ⟨2, 50000, 600, 439, .running 10000⟩ } }
    (after (.lensReport 0#8 49980#16 0#16 0#16 0#8) s).body.txQueue =
      [⟨0#8, .notice (.preset .arrived)⟩] := by decide

/-- Step 3: the rocker takes the grant with −260. -/
theorem test_rocker_preempts : (after (.panel 0#8 0xD8#8 0#8) zooming).zoom.sentSpeed = -260 := by decide

theorem test_rocker_lapses :
    let s := { zooming with zoom := { zooming.zoom with rocker := some 440, rockerLapse := .running 12 } }
    (after .rockerLapseTimerExpiry s).zoom.rocker = none := by decide

theorem test_enter_run_with_valid_tables :
    (after (.enterRun 0#8 .system 1#8) { zooming with zoom := { zooming.zoom with mode := .setup } }).zoom.mode =
      .run := by decide

theorem test_enter_setup : (after (.enterSetup 0#8 .system 1#8) zooming).zoom.mode = .setup := by decide

/-! ### Stabiliser: the manual's worked examples (2.3, 2.4, 2.5) -/

/-- The 64th sample of the settle example: sums 6432 and 128,000 give 100 and 1536. -/
theorem test_settle :
    let s := stabIn .settling
    let s := { s with
      stab :=
        { s.stab with
          settleCount := 63, yaw := { s.stab.yaw with settleSum := 6331 }
          pitch := { s.stab.pitch with settleSum := 126000 } } }
    (after (.motion 0#8 101#16 2000#16) s).stab.yaw.base = 100 ∧
      (after (.motion 0#8 101#16 2000#16) s).stab.pitch.base = 1536 := by decide

theorem test_correction :
    correction 42667 76800 = -100 ∧ correction (-42667) 76800 = 100 ∧ correction 300000 76800 = -703 ∧
      correction 1200000 76800 = -2813 := by decide

/-- Sample 8 of the baseline example: the bucket reaches 100 and the baseline steps. -/
theorem test_bucket_overflow :
    let a : Axis := { Axis.powerOn with base := 100, bucket := 95, integ := 112, window := [140, 100, 90, 122] }
    let b := (a.take { defaultItems.stab with bucketTh := 100 } 0 ⟨76800, 0, 2500⟩ 110).1
    b.base = 101 ∧ b.bucket = 0 ∧ b.integ = 122 := by decide

/-- Sample 8 of the pan example: the axis leaves PAN and loads its hold-off. -/
theorem test_pan_left :
    let a : Axis := { Axis.powerOn with pan := true, integ := 11169 }
    let b := a.take { defaultItems.stab with avgCount := 1 } 0 ⟨76800, 0, 2500⟩ 1000
    b.1.pan = false ∧ b.1.integ = 12164 ∧ b.1.holdOff = 20 ∧ b.2 = -29 := by decide

/-- The manual's cross-check: yaw 70 apart, pitch 8. -/
theorem test_cross_check :
    let s := stabIn .running
    let s := { s with stab := { s.stab with ring := [⟨-40, 12⟩, ⟨-52, 10⟩, ⟨-61, 9⟩, ⟨-70, 8⟩] } }
    let t := after (.lensReport 0#8 20000#16 (BitVec.ofInt 16 (-110)) 20#16 0#8) s
    t.stab.yaw.mismatch = true ∧ t.stab.pitch.mismatch = false := by decide

theorem test_gyro_silence :
    let s := stabIn .running
    (after .gyroSilenceTimerExpiry { s with stab := { s.stab with gyroSilence := .running 5 } }).stab.hold = true := by
  decide

theorem test_stab_on : (after (.stabOn 0#8 .system 1#8) zooming).stab.state = .settling := by decide

/-! ### Audio: the manual's worked examples (3.2, 3.5) -/

theorem test_swaps :
    swapAssign ⟨1, 2, 3, 4⟩ .i1 3 = ⟨3, 2, 1, 4⟩ ∧ swapAssign ⟨3, 2, 1, 4⟩ .i3 4 = ⟨3, 2, 4, 1⟩ := by decide

/-- Index 1 and index 2 of the linked pair. -/
theorem test_linked_peak :
    limitPair true true true 4194304 65536 65536 5000000 2000000 = ((54975, 54975), (4194259, 1677703)) ∧
      limitPair true true true 4194304 54975 54975 (-3000000) (-2800000) =
        ((54975, 54975), (-2516555, -2348785)) := by decide

theorem test_meter_lapse :
    (after .meterLapseTimerExpiry
      { up with audio := { up.audio with meterLapse := .running 100, meter := .fill (some 3) } }).audio.meter =
      .fill none := by decide

/-! ### Recording and slots (4, 5) -/

/-- A mark of the next frame takes 1920 samples at rate 25 and closes the unit into the open part. -/
theorem test_frame_closes :
    (after (.frameMark 0#8 101#32 ⟨0#8, 0#8, 0#8, 0#8⟩ .r25) recordingA).recorder.parts.map ClipPart.offered = [1] := by
  decide

theorem test_essence_taken :
    ((after (.essence 0#8 100#32 .main true 0#32 [1#8, 2#8]) recordingA).recorder.store.find 3).map
      (fun u => u.main) = some ⟨[1#8, 2#8], 2, true⟩ := by decide

/-- The clip counter steps from 9999 to 1 (R97). -/
theorem test_clip_wraps :
    let s := slotA { asking .mount .ready with request := none }
    (after (.recStart 0#8 .system 1#8)
      { s with recorder := { s.recorder with clipCounter := 9999 } }).recorder.clipCounter = 1 := by decide

/-- F of 288 is READY, 287 is FULL (5.4). -/
theorem test_mounted :
    (after (.mountCompletion .a 7#8 true 288#32) (slotA (asking .mount .mounting))).slotA.state = .ready ∧
      (after (.mountCompletion .a 7#8 true 287#32) (slotA (asking .mount .mounting))).slotA.state = .full := by
  decide

/-- The relay example's step 5: F and reserved fall by the unit's size, and the drained slot closes. -/
theorem test_write_drains :
    (after (.unitWriteCompletion .a 7#8 true)
      { recordingA with slotA := { recordingA.slotA with state := .closing } }).slotA.request =
      some ⟨.partClose, 8#8⟩ := by decide

theorem test_insertion : (after (.cardInsertion .b) up).slotB.state = .mounting := by decide

theorem test_removal : (after (.cardRemoval .a) recordingA).slotA.hold = true := by decide

/-! ### Viewfinder: the manual's worked examples (6.5, 6.6) -/

theorem test_zebra_blend :
    (Pixel.mk 980 512 512).drawn (paletteAt factoryPalette 14) = ⟨407, 512, 512⟩ ∧
      (Pixel.mk 720 512 512).drawn (paletteAt factoryPalette 15) = ⟨857, 512, 512⟩ := by decide

/-- "160.0" after a space, "  7", "0042". -/
theorem test_value_rows :
    focalRow (some 1600) = [32, 49, 54, 48, 46, 48] ∧ percentRow (some 7) = [32, 32, 55] ∧
      clipRow (some 42) = [48, 48, 52, 50] := by decide

theorem test_meter_fill : meterFill 120 20 = 80 ∧ meterFill 120 4 = 112 := by decide

/-- The late line of the manual's sequence: expected 104, line 102 dropped. -/
theorem test_late_line :
    (after (.vfLine 0#8 102#16 (List.replicate 960 0#32))
      { up with vf := { up.vf with expected := 104 } }).vf.dropped = 1 := by decide +kernel

/-! ### Supervision and management: the manual's worked sequences (7.7, 9.9) -/

/-- The cycle of count 154: the counter of SLOT_SLOW passes NR 1 and its flag is set. -/
theorem test_slow_card :
    let g : GroupState := ⟨[1, 0], [false, false], false⟩
    g.check ⟨1, false, 1, .both, noActions⟩ [true, false] = ⟨[2, 0], [true, false], true⟩ := by decide

theorem test_check_cycle_counts :
    (after .checkCycle { up with sup := { up.sup with timer := .running 10, cycle := 839 } }).sup.cycle = 0 := by
  decide +kernel

/-- Step 1 of the remote panel's sequence: beyond a map of length 0. -/
theorem test_panel_denied : (after (.get 0#8 .panel 5#8 122#8) up).mgmt.denied = 1 := by decide

/-- Step 4: IN_GAIN_2 to 50. -/
theorem test_set_gain : (after (.set 0#8 .system 8#8 101#8 50#32) up).items.audio.inGain.q2 = 50 := by decide

/-- Step 2: SELECT 9, 0. -/
theorem test_select_map : (after (.select 0#8 .system 6#8 9#8 0#16) up).mgmt.cursor0 = some ⟨.map, 0⟩ := by
  decide

theorem test_store_takes_copy :
    (after (.storeScene 0#8 .system 1#8 1#8) up).scene.op =
      .storeScene .i2 ⟨up.items, up.zoom.presets, up.vf.editList⟩ := by decide

theorem test_store_completes :
    let c : SceneArea := ⟨defaultItems, [], []⟩
    (after (.storeCompletion true)
      { up with scene := { up.scene with op := .storeScene .i2 c } }).scene.scenes.q2 = some c := by decide

/-! ### Witnesses: states and operands that meet the premises of each statement -/

/-- The expectation `e` of a kind at the state's link. -/
def expecting (k : InKind) (e : Byte) (s : State) : State :=
  s.setLink k.link { s.link k.link with expect := (s.link k.link).expect.set k.place (some e) }

/-- Every map bit clear for source 1. -/
def openMap (s : State) : State := { s with mgmt := { s.mgmt with map := List.replicate 17 0#16, mapCount := 17 } }

/-- SLOT_SLOW of slot A flagged and its timer running, attention asserted. -/
def flagged : State :=
  { up with
    sup :=
      { Supervision.powerOn with
        timer := .running 10, cycle := 154, attention := true
        table := factoryFault.set 6 ⟨1, false, 1, .both, noActions⟩
        groups := Group.all.map (fun g => if g = .slotSlow then ⟨[8, 0], [true, false], true⟩ else clearGroup g) }
    slotA := { asking .unitWrite .writing with slowPresent := true } }

theorem witness_FrameOfEveryCommand : ∃ t, exec (.stabOn 0#8 .system 1#8) zooming = .next t := ⟨_, rfl⟩

theorem witness_PacketsReadBack :
    (Instr.panel 7#8 0x28#8 9#8).wellFormed = true ∧
      packetOf (.panel 7#8 0x28#8 9#8) =
        some (.head, [0x03#8, 0x00#8, 0x07#8, 0x02#8, 0x00#8, 0x28#8, 0x09#8, 0x96#8, 0xBD#8]) := by
  decide +kernel

theorem witness_LinksStaySound :
    (∃ t, step (lost.push (.linkReset .head 3#8)) = .next t) ∧
      (lost.push (.linkReset .head 3#8)).linksSound := by
  refine ⟨⟨_, rfl⟩, fun l => ?_⟩
  cases l <;> exact ⟨⟨by decide, by decide, rfl, rfl, by decide⟩, by decide⟩

theorem witness_OpticsAndZoomStaySound :
    (∃ t, step (zooming.push (.panel 0#8 0xD8#8 0#8)) = .next t) ∧
      (zooming.push (.panel 0#8 0xD8#8 0#8)).opticsSound ∧ (zooming.push (.panel 0#8 0xD8#8 0#8)).zoomSound :=
  ⟨⟨_, rfl⟩, (by decide : zooming.zoom.tablesValid = true), by unfold State.zoomSound; decide⟩

/-- At the bounds: baseline 1536, bucket one below BUCKET_TH, integrator 2^28, four shifts held. -/
theorem witness_StabiliserStaysBounded :
    let a : Axis := { Axis.powerOn with base := -1536, bucket := defaultItems.stab.bucketTh - 1, integ := 268435456 }
    let s := stabIn .running
    let s := { s with stab := { s.stab with yaw := a, pitch := a, ring := List.replicate 4 ⟨1, 2⟩ } }
    (∃ t, step (s.push (.motion 0#8 5#16 6#16)) = .next t) ∧ (s.push (.motion 0#8 5#16 6#16)).stabSound :=
  ⟨⟨_, rfl⟩, by unfold State.stabSound Axis.sound; decide⟩

theorem witness_AudioStaysBounded :
    (∃ t, step (up.push .meterLapseTimerExpiry) = .next t) ∧ (up.push .meterLapseTimerExpiry).audioSound := by
  refine ⟨⟨_, rfl⟩, by decide, fun t => ?_⟩
  cases t <;> exact ⟨by decide, by decide, fun _ => rfl⟩

theorem flagged_supSound : flagged.supSound := by
  refine ⟨rfl, fun g => ?_, ?_⟩
  · cases g <;> exact ⟨rfl, rfl, by decide, by decide⟩
  · exact ⟨fun _ => ⟨.slotSlow, rfl, rfl⟩, fun _ => rfl⟩

theorem witness_SupervisionStaysBounded :
    (∃ t, step (flagged.push .checkCycle) = .next t) ∧ (flagged.push .checkCycle).supSound :=
  ⟨⟨_, rfl⟩, flagged_supSound⟩

theorem recordingA_storeSound : recordingA.storeSound := by
  refine ⟨by decide, ?_, by simp [recordingA, Recorder.powerOn], ?_⟩
  · intro u h
    obtain rfl : u = unit0 := by simpa [recordingA] using h
    decide
  · intro id h
    obtain rfl : 3 = id := by simpa [recordingA] using h
    decide

/-- At the tops of the ranges; a store with a unit under assembly. -/
theorem witness_CountsStayInRange :
    let s := { up with
      recorder := { up.recorder with clipCounter := 9999 }, vf := { up.vf with expected := 539 }
      sup := { up.sup with cycle := 839 }, scene := { up.scene with cell := some 9999 } }
    (∃ t, step (s.push .lineSilenceTimerExpiry) = .next t) ∧ (s.push .lineSilenceTimerExpiry).countsSound ∧
      (∃ t, step (recordingA.push .markSilenceTimerExpiry) = .next t) ∧
      (recordingA.push .markSilenceTimerExpiry).storeSound := by
  refine ⟨⟨_, rfl⟩, ⟨by decide, by decide, by decide, by decide, by decide, by decide, ?_, ?_, ?_⟩, ⟨_, rfl⟩,
    recordingA_storeSound⟩ <;>
    simp [clipRange, up, State.push, State.reset, SceneMemory.blank]

theorem zooming_tablesSound : zooming.tablesSound := by
  refine ⟨⟨by decide, by decide, rfl, rfl, rfl, rfl⟩, ⟨rfl, rfl⟩, rfl, by decide, by decide, ?_, ?_, trivial⟩
  · simp [zooming, up, State.reset, SceneMemory.blank]
  · intro n c; cases n <;> simp [zooming, up, State.reset, SceneMemory.blank, Quad.fill, Quad.get]

theorem witness_TablesKeepTheirSizes :
    (∃ t, step (zooming.push .checkCycle) = .next t) ∧ (zooming.push .checkCycle).tablesSound :=
  ⟨⟨_, rfl⟩, zooming_tablesSound⟩

/-- A fixed area of valid lens tables and a scene 0, as POWER_ON_RESET finds them. -/
def stored : State :=
  { up with
    scene :=
      { SceneMemory.blank with
        fixed := some { zooming.fixedCopy with glyphs := [] }, cell := some 12
        scenes := ⟨some ⟨defaultItems, factoryPresets, []⟩, none, none, none⟩ } }

theorem witness_PowerOnReset :
    (after .powerOnReset stored).zoom.mode = .run ∧ (after .powerOnReset stored).stab.state = .settling ∧
      (after .powerOnReset up).zoom.mode = .setup ∧ (after .powerOnReset stored).recorder.clipCounter = 12 ∧
      (after .powerOnReset stored).vf.editChanged = true ∧
      (after .powerOnReset { stored with vf := { stored.vf with blink := 3, warnGroups := [.linkCrc] } }).vf.blink =
        31 := by
  decide

theorem witness_PowerOnResetEnd :
    let s := { State.reset with slotB := { State.reset.slotB with line := true } }
    s.inReset = true ∧ s.head.state = .resync ∧ s.body.state = .resync ∧
      s.slotB.line = true ∧ s.slotB.state = .empty ∧ s.slotA.line = false := by decide

/-- None expected, a repeat, 254 missed, and none missed. -/
theorem witness_SequenceIsChecked :
    (Instr.motion 255#8 0#16 0#16).wellFormed = true ∧
      (Instr.motion 255#8 0#16 0#16).sequenced = some (.motion, 255#8) ∧
      up.inReset = false ∧ (up.link .head).state = .aligned ∧ up.head.expect.get .i1 = none ∧
      (expecting .motion 0#8 up).inReset = false ∧ ((expecting .motion 0#8 up).link .head).state = .aligned ∧
      (expecting .motion 0#8 up).head.expect.get .i1 = some 0#8 ∧
      (expecting .motion 1#8 up).takes .motion 255#8 254 = true ∧
      (expecting .motion 0#8 up).takes .motion 255#8 255 = false ∧
      (expecting .motion 255#8 up).takes .motion 255#8 0 = true := by decide

/-- Both links, aligned and not; the fourth failure and the one before. -/
theorem witness_AlignmentIsLost :
    up.inReset = false ∧ (up.link .head).state = .aligned ∧ (up.link .body).state = .aligned ∧
      lost.inReset = false ∧ (lost.link .head).state = .resync ∧
      (after (.inboundCrcFailure .body) { up with body := { up.body with crcFails := 2 } }).body.state = .aligned ∧
      (after (.inboundCrcFailure .body) { up with body := { up.body with crcFails := 3 } }).body.state = .resync ∧
      (after (.inboundCrcFailure .body) { lost with body := { lost.body with crcFails := 3 } }).body.crcFails = 0 := by
  decide

/-- In RESYNC a first and a second good packet; in ALIGNED the epoch recorded and a new one. -/
theorem witness_LinkResetTaken :
    let s := { lost with head := { lost.head with partnerEpoch := some 9#8 } }
    let a := { up with head := { up.head with partnerEpoch := some 9#8 } }
    (after (.linkReset .head 9#8) s).head.goodRun = 1 ∧ (after (.linkReset .head 10#8) s).head.state = .aligned ∧
      (after (.linkReset .head 9#8) { s with head := { s.head with goodRun := 1 } }).head.state = .aligned ∧
      (after (.linkReset .head 9#8) a).head.linkResets = 0 ∧
      (after (.linkReset .head 10#8) a).head.linkResets = 1 := by decide

/-- In RESYNC a first and a second good packet, on each link; in ALIGNED. -/
theorem witness_GoodPacketsNotTaken :
    let second (l : LinkId) := lost.setLink l { lost.link l with goodRun := 1 }
    lost.inReset = false ∧ (lost.link .head).state = .resync ∧ (up.link .body).state = .aligned ∧
      (Instr.mark 0#8 .panel 1#8).wellFormed = true ∧
      (Instr.mark 0#8 .panel 1#8).sequenced = some (.command, 0#8) ∧ InKind.link .command = .body ∧
      (after (.foreignPacket .head) (second .head)).head.txQueue.length = 3 ∧
      (after (.mark 0#8 .panel 1#8) (second .body)).body.state = .aligned ∧
      (after (.foreignPacket .body) lost).body.goodRun = 1 := by
  decide

theorem witness_HandingAndSending :
    (lost.link .head).resend = .running 2 ∧
      ({ up.body with txQueue := List.replicate 32 ⟨0#8, .tally .off⟩ }.hand (.tally .on)).outDropped = 1 := by
  decide

/-- OFF; SETTLING with four missed and with five; the 64th sample as the packet and as a fill; a long gap. -/
theorem witness_MotionOffAndSettling :
    let at_ (k : Nat) := { stabIn .settling with stab := { (stabIn .settling).stab with settleCount := k } }
    let gap (st : StabState) := { stabIn st with
      stab := { (stabIn st).stab with hold := true, longGap := .expired, gyroSilence := .expired } }
    up.takes .motion 0#8 0 = true ∧ up.stab.state = .off ∧
      (expecting .motion 0#8 (at_ 58)).takes .motion 4#8 4 = true ∧
      (expecting .motion 0#8 (at_ 58)).takes .motion 5#8 5 = true ∧
      (after (.motion 4#8 1#16 1#16) (expecting .motion 0#8 (at_ 58))).stab.settleCount = 63 ∧
      (after (.motion 4#8 1#16 1#16) (expecting .motion 0#8 (at_ 59))).stab.ring = [] ∧
      (after (.motion 4#8 1#16 1#16) (expecting .motion 0#8 (at_ 60))).stab.ring.length = 1 ∧
      (after (.motion 5#8 1#16 1#16) (expecting .motion 0#8 (at_ 60))).stab.settleCount = 61 ∧
      (gap .running).takes .motion 0#8 0 = true ∧ (gap .running).stab.longGap = .expired ∧
      (after (.motion 0#8 1#16 1#16) (gap .running)).stab.settleCount = 1 := by
  decide

/-- Running with none, four and five missed, and with gyro hold set before a gap is long. -/
theorem witness_MotionRunning :
    let s := stabIn .running
    s.takes .motion 9#8 0 = true ∧ (expecting .motion 0#8 s).takes .motion 4#8 4 = true ∧
      (expecting .motion 0#8 s).takes .motion 5#8 5 = true ∧ s.stab.hold = false ∧ s.stab.longGap ≠ .expired ∧
      (after (.motion 9#8 100#16 100#16) s).stab.ring.length = 1 ∧
      (after (.motion 4#8 100#16 100#16) (expecting .motion 0#8 s)).stab.yaw.window.length = 5 ∧
      (after (.motion 5#8 100#16 100#16) (expecting .motion 0#8 s)).stab.yaw.window.length = 1 := by decide

/-- Source 0, and source 1 where the map allows it; each mode and state; the button's edge and no edge. -/
theorem witness_StabiliserActions :
    let released (s : State) := { s with stab := { s.stab with button := .released } }
    up.takesCommand 0#8 .system [80, 81] 0 = true ∧ up.takesCommand 0#8 .panel [80, 81] 0 = false ∧
      (openMap (stabIn .running)).takesCommand 0#8 .panel [80, 81] 0 = true ∧ zooming.zoom.mode = .run ∧
      (after (.stabOff 0#8 .panel 0#8) (openMap (stabIn .running))).stab.state = .off ∧
      (after (.baselineReset 0#8 .system 0#8) (stabIn .running)).stab.state = .settling ∧
      (released zooming).takes .panel 0#8 0 = true ∧
      (after (.panel 0#8 0#8 4#8) (released zooming)).stab.state = .settling ∧
      (after (.panel 0#8 0#8 4#8) zooming).stab.state = .off ∧
      (after (.panel 0#8 0#8 4#8) (released (stabIn .running))).stab.state = .off ∧
      (after (.panel 0#8 0#8 4#8) (released up)).stab.state = .off := by decide

/-- No move; a move that goes on at exactly the approach; one at the window's edge; a lens fault, alone and at the
window's edge, with a preset pending; the masks. -/
theorem witness_LensReportTaken :
    let s := { zooming with zoom := { zooming.zoom with move := some ⟨2, 50000, 600, 600, .running 10000⟩ } }
    let p := { s with zoom := { s.zoom with pendingPreset := some 1 } }
    let said (t : State) := t.body.txQueue.map OutPacket.msg
    zooming.takes .lensReport 0#8 0 = true ∧ s.takes .lensReport 0#8 0 = true ∧
      (after (.lensReport 0#8 47952#16 0#16 0#16 0#8) s).zoom.sentSpeed = 600 ∧
      (after (.lensReport 0#8 49968#16 0#16 0#16 0#8) s).zoom.move = none ∧
      (after (.lensReport 0#8 47952#16 0#16 0#16 4#8) s).zoom.move = none ∧
      (after (.lensReport 0#8 47952#16 0#16 0#16 2#8) s).zoom.sentSpeed = 0 ∧
      said (after (.lensReport 0#8 49968#16 0#16 0#16 0#8) p) = [.notice (.preset .arrived)] ∧
      (after (.lensReport 0#8 49968#16 0#16 0#16 0#8) p).zoom.pendingPreset = some 1 ∧
      said (after (.lensReport 0#8 49968#16 0#16 0#16 4#8) p) =
        [.notice (.preset .arrived), .notice (.preset .stopped)] ∧
      said (after (.lensReport 0#8 47952#16 0#16 0#16 4#8) p) =
        [.notice (.preset .stopped), .notice (.preset .stopped)] := by decide

/-- Inside the dead band, at the deflection read as −127, and with an expectation met; P1 and P2; the lapse. -/
theorem witness_PanelDemand :
    let s := { zooming with
      zoom := { zooming.zoom with p1 := .released, p2 := .released, rockerLapse := .running 12 } }
    zooming.takes .panel 0#8 0 = true ∧ (expecting .panel 7#8 zooming).takes .panel 7#8 0 = true ∧
      (after (.panel 0#8 0x80#8 0#8) zooming).zoom.rocker = (after (.panel 0#8 0x81#8 0#8) zooming).zoom.rocker ∧
      (after (.panel 0#8 0x06#8 0#8) zooming).zoom.rocker = none ∧
      (after (.panel 0#8 0x07#8 0#8) zooming).zoom.rocker = some 17 ∧
      (after (.panel 0#8 0#8 24#8) s).zoom.move.map Move.preset = some 2 ∧
      (after (.panel 0#8 0x28#8 8#8) s).zoom.pendingPreset = some 1 ∧ s.zoom.rockerLapse = .running 12 ∧
      (after .rockerLapseTimerExpiry (after (.panel 0#8 0x28#8 8#8) s)).zoom.pendingPreset = none := by decide

/-- n of 0, 1, 4 and 5; SETUP; the stop claim; the rocker's grant. -/
theorem witness_ZoomPresetJudged :
    zooming.takesCommand 0#8 .system [258] 0 = true ∧ zooming.zoom.sentSpeed = zooming.zoom.maskSpeed zooming.zoom.classSpeed ∧
      (after (.zoomPreset 0#8 .system 1#8 0#8) zooming).body.txQueue = [⟨0#8, .reply 1#8 .badCommand []⟩] ∧
      (after (.zoomPreset 0#8 .system 1#8 5#8) zooming).body.txQueue = [⟨0#8, .reply 1#8 .badCommand []⟩] ∧
      (after (.zoomPreset 0#8 .system 1#8 4#8) zooming).zoom.move.isSome = true ∧
      (after (.zoomPreset 0#8 .system 1#8 1#8) up).body.txQueue = [⟨0#8, .reply 1#8 .wrongMode []⟩] ∧
      (after (.zoomPreset 1#8 .system 1#8 1#8) (after (.panel 0#8 0xD8#8 0#8) zooming)).zoom.pendingPreset = some 1 := by
  decide

theorem witness_ZoomStopEndsPresets :
    let s := { zooming with
      zoom := { zooming.zoom with move := some ⟨2, 50000, 600, 600, .running 10000⟩, pendingPreset := some 1 } }
    s.takesCommand 0#8 .system [42] 0 = true ∧ zooming.takesCommand 0#8 .system [42] 0 = true ∧
      (after (.zoomStop 0#8 .system 1#8) s).body.txQueue.length = 3 := by decide

theorem witness_ZoomTimers :
    let z := { zooming.zoom with
      rocker := some 440, rockerLapse := .running 12, refresh := .running 20
      move := some ⟨2, 50000, 600, 600, .running 10000⟩ }
    let s := { zooming with zoom := z }
    s.zoom.rockerLapse = .running 12 ∧ s.zoom.refresh = .running 20 ∧
      s.zoom.move = some ⟨2, 50000, 600, 600, .running 10000⟩ ∧
      (after .presetTimeoutExpiry s).zoom.move = none ∧ (after .rockerLapseTimerExpiry s).zoom.sentSpeed = 600 := by
  decide

/-- Each mode; tables valid and not; a recording and a move. -/
theorem witness_OpticsModeActions :
    zooming.takesCommand 0#8 .system [40, 256, 257] 0 = true ∧ up.takesCommand 0#8 .system [40, 256, 257] 0 = true ∧
      zooming.zoom.mode = .run ∧ up.zoom.mode = .setup ∧
      (after (.enterRun 0#8 .system 1#8) up).body.txQueue = [⟨0#8, .reply 1#8 .tableInvalid []⟩] ∧
      (after (.enterSetup 0#8 .system 1#8)
        { zooming with recorder := { zooming.recorder with state := .recording } }).zoom.mode = .run ∧
      (after (.enterSetup 0#8 .system 1#8) (stabIn .running)).stab.reason = .setup := by decide

theorem witness_LensTableClear :
    zooming.takesCommand 0#8 .system [256] 0 = true ∧ zooming.zoom.mode = .run ∧
      up.takesCommand 0#8 .system [256] 0 = true ∧ up.zoom.mode = .setup := by decide

/-- At an entry, between two, below the first and above the last. -/
theorem witness_LensInterpolation :
    lensTableValid lens4 = true ∧ lensTableValid (lens4.drop 1) = true ∧
      lens4[1]? = some ⟨20000, 300, 25600, 3000⟩ ∧ lens4[2]? = some ⟨40000, 700, 51200, 2500⟩ ∧
      (lens4.drop 1).head? = some ⟨20000, 300, 25600, 3000⟩ ∧
      lens4.getLast? = some ⟨60000, 1600, 38400, 1200⟩ ∧
      lensValues (lens4.drop 1) 19999 = ⟨25600, 300, 3000⟩ ∧ lensValues lens4 60001 = ⟨38400, 1600, 1200⟩ := by
  decide

/-- None missed and three, in and after the silence timer's run; the tenth packet of a meter period. -/
theorem witness_AudioInTaken :
    let s := { up with audio := { up.audio with period := 9, silence := .running 5 } }
    (List.replicate 48 (Quad.fill 0#24)).length = 48 ∧ up.takes .audioIn 0#8 0 = true ∧
      (expecting .audioIn 0#8 up).takes .audioIn 3#8 3 = true ∧
      (expecting .audioIn 0#8 s).takes .audioIn 3#8 3 = true ∧ s.audio.silence.isRunning = true ∧
      (∀ k, (s.audio.fifo.get k).length ≤ 4096) ∧
      (after (.audioIn 0#8 (List.replicate 48 (Quad.fill 0#24))) s).audio.meter = .fill (some 60) := by
  refine ⟨by decide, by decide, by decide, by decide, by decide, fun k => ?_, by decide +kernel⟩
  cases k <;> decide

/-- An output at the threshold and one just beyond it. -/
theorem witness_LimiterHoldsThreshold :
    limitOne true 1000 65536 1000 = (65536, 1000) ∧ (limitOne true 1000 65536 1001).1 = 65470 := by decide

/-- With a frame open and none; a number that follows, one left out, one held already; a unit under assembly in
each record state, dropped and not, with free blocks; a stop pending; the end of mark silence. -/
theorem witness_FrameMarksAndSilence :
    let s (st : RecState) := { recordingA with recorder := { recordingA.recorder with state := st } }
    let mark (f : BitVec 32) (s : State) := after (.frameMark 0#8 f ⟨0#8, 0#8, 0#8, 0#8⟩ .r25) s
    recordingA.takes .frameMark 0#8 0 = true ∧ up.takes .frameMark 0#8 0 = true ∧
      up.recorder.state = .idle ∧ up.recorder.assembly = none ∧ up.recorder.lastMark = none ∧
      recordingA.recorder.markSilence = .running 200 ∧
      recordingA.recorder.assembly.bind recordingA.recorder.store.find = some unit0 ∧ unit0.refs = 1 ∧
      0 < recordingA.recorder.store.freeCount ∧
      (mark 101#32 (s .standby)).recorder.state = .standby ∧ (mark 101#32 (s .standby)).recorder.ring = [3] ∧
      (mark 101#32 (s .stopping)).recorder.store.find 3 = none ∧
      (mark 101#32 (s .recording)).recorder.lossCount = 1 ∧ (mark 102#32 (s .recording)).recorder.essenceGap = true ∧
      (mark 100#32 (s .recording)).recorder.stopReason = some .frameDiscontinuity ∧
      (mark 101#32 { s .recording with
        recorder := { recordingA.recorder with pendingStop := some .fault } }).recorder.stopReason = some .fault ∧
      (after .markSilenceTimerExpiry (s .recording)).recorder.assembly = none := by decide

/-- The premise on the store is met by the states of `witness_FrameMarksAndSilence`. -/
theorem witness_FrameMarksAndSilence_store : recordingA.storeSound := recordingA_storeSound

/-- A recording whose unit holds its head block alone, with the free list and the ring as given. -/
def fullStore (fresh : Nat) (ring : List Nat) (u : RecordUnit) : State :=
  { recordingA with
    recorder :=
      { recordingA.recorder with
        ring := ring
        store := ⟨[], fresh, [{ unit0 with id := 2, frame := 90, blocks := [7, 8] }, { u with blocks := [1] }], 4⟩ } }

/-- IDLE; no unit open; the open unit's frame, at its count and with the space just enough; another frame; the
unit dropped, oversize, ended; a new block from the free list, from the ring, and none to be had. -/
theorem witness_EssenceTaken :
    let put (s : State) := after (.essence 0#8 100#32 .main true 0#32 [1#8, 2#8]) s
    up.takes .essence 0#8 0 = true ∧ up.recorder.state = .idle ∧
      { up with recorder := { up.recorder with state := .standby } }.takes .essence 0#8 0 = true ∧
      recordingA.takes .essence 0#8 0 = true ∧ recordingA.recorder.state ≠ .idle ∧
      recordingA.recorder.assembly = some 3 ∧ recordingA.recorder.store.find 3 = some unit0 ∧
      (expecting .essence 0#8 recordingA).takes .essence 2#8 2 = true ∧
      (put (after (.essence 0#8 99#32 .main true 0#32 []) recordingA)).recorder.essenceDiscarded = 1 ∧
      (put (put recordingA)).recorder.essenceDiscarded = 0 ∧
      (put (fullStore 9 [] { unit0 with dropped := true })).recorder.essenceDiscarded = 0 ∧
      (put (fullStore 9 [] { unit0 with main := ⟨[], 0, true⟩ })).recorder.essenceDiscarded = 1 ∧
      (put (fullStore 9 [] { unit0 with main := ⟨[], 1, false⟩ })).recorder.essenceDiscarded = 1 ∧
      (put (fullStore 9 [] unit0)).recorder.store.freeCount = 16374 ∧
      (put (fullStore 16384 [2] unit0)).recorder.ringEvicted = 1 ∧
      (put (fullStore 16384 [2] unit0)).recorder.store.freeCount = 1 ∧
      (put (fullStore 16384 [] unit0)).recorder.droppedUnits = 1 := by decide

theorem witness_EssenceTaken_store : (fullStore 16384 [2] unit0).storeSound := by
  refine ⟨by decide, ?_, by decide, ?_⟩
  · intro u h
    rcases (by simpa [fullStore] using h : u = _ ∨ u = _) with rfl | rfl <;> decide
  · intro id h
    obtain rfl : 3 = id := by simpa [fullStore, recordingA] using h
    decide

/-- IDLE with no slot ready, and with slot A ready, its clip counter at the wrap; STANDBY with a unit in the ring, which
the part queues, or refuses for space; the button. -/
theorem witness_RecordStart :
    let s := slotA { asking .mount .ready with request := none }
    let ring (free : Nat) : State := { s with
      items := { s.items with record := { s.items.record with preRecSeconds := 1 } }
      slotA := { s.slotA with free := free }
      recorder := { recordingA.recorder with
        state := .standby, lamp := .off, clipCounter := 9999, ring := [3], assembly := none, parts := [] } }
    let released (s : State) := { s with recorder := { s.recorder with recButton := .released } }
    up.takesCommand 0#8 .system [128, 129] 0 = true ∧ up.recorder.state = .idle ∧ s.slotA.state = .ready ∧
      s.slotA.hold = false ∧ s.takesCommand 0#8 .system [128, 129] 0 = true ∧ s.recorder.ring = [] ∧
      s.scene.cellWrite = none ∧ (after (.recStart 0#8 .system 1#8) s).recorder.state = .starting ∧
      (after (.recStart 0#8 .system 1#8) { s with scene := { s.scene with cellWrite := some 5 } }).scene.cellPending =
        some 1 ∧
      (released s).takes .panel 0#8 0 = true ∧
      (after (.panel 0#8 0#8 1#8) (released s)).recorder.state = .starting ∧
      (ring 300).takesCommand 0#8 .system [128, 129] 0 = true ∧ (ring 300).recorder.state = .standby ∧
      (after (.recStart 0#8 .system 1#8) (ring 300)).slotA.queue = [3] ∧
      (after (.recStart 0#8 .system 1#8) (ring 300)).recorder.clipCounter = 1 ∧
      (after (.recStart 0#8 .system 1#8) (ring 300)).recorder.store.units.map RecordUnit.refs = [1] ∧
      (after (.recStart 0#8 .system 1#8) (ring 33)).recorder.pendingStop = some .mediaFull ∧
      (after (.recStart 0#8 .system 1#8) (ring 33)).recorder.store.units = [] ∧
      (after (.panel 0#8 0#8 1#8) (released up)).body.txQueue =
        [⟨0#8, .notice (.record .idle 0 .noMedia)⟩] := by decide

/-- A frame open and none, by the action and by the button. -/
theorem witness_RecordStop :
    let s := { recordingA with recorder := { recordingA.recorder with openFrame := none, assembly := none } }
    let released (s : State) := { s with recorder := { s.recorder with recButton := .released } }
    recordingA.takesCommand 0#8 .system [136] 0 = true ∧ recordingA.recorder.state = .recording ∧
      recordingA.recorder.pendingStop = none ∧ recordingA.recorder.openFrame.isSome = true ∧
      s.takesCommand 0#8 .system [136] 0 = true ∧ s.partOpened .a = true ∧
      (after (.recStop 0#8 .system 1#8) s).slotA.state = .closing ∧
      (released recordingA).takes .panel 0#8 0 = true ∧
      (after (.panel 0#8 0#8 1#8) (released recordingA)).recorder.pendingStop = some .operator ∧
      (after (.panel 0#8 0#8 1#8) (released s)).slotA.state = .closing := by decide

/-- A part open and a mark taken, and neither; the button's edge; a list that holds the mark, one of 63 marks and
one of 64. -/
theorem witness_MarkPlaced :
    let s := { recordingA with recorder := { recordingA.recorder with markButton := .released } }
    let p (n : Nat) : ClipPart := ⟨7, 1, .a, .opened, 0, List.replicate n ⟨.gap 1, 5⟩, 0⟩
    recordingA.takesCommand 0#8 .system [139] 0 = true ∧ recordingA.recorder.lastMark.isSome = true ∧
      recordingA.recorder.parts.any (fun p => p.phase == .opened) = true ∧
      up.takesCommand 0#8 .system [139] 0 = true ∧ up.recorder.lastMark = none ∧
      s.takes .panel 0#8 0 = true ∧ ¬(s.recorder.recButton = .released ∧ (2#8).getLsbD 0 = true) ∧
      (after (.panel 0#8 0#8 2#8) s).recorder.parts.map ClipPart.marks = [[⟨.shot, 100⟩]] ∧
      (after (.panel 0#8 0#8 2#8) recordingA).recorder.parts.map ClipPart.marks = [[]] ∧
      ((p 63).addMark ⟨.shot, 4⟩).marks.head? = some ⟨.shot, 4⟩ ∧ ((p 64).addMark ⟨.shot, 4⟩).marksLost = 1 ∧
      (((p 1).addMark ⟨.shot, 5⟩).addMark ⟨.shot, 5⟩).marks.length = 2 := by decide

/-- STARTING, and RECORDING with a stop pending; the plain states; the button's edge. -/
theorem witness_TriggersIgnored :
    let s := { recordingA with
      recorder := { recordingA.recorder with pendingStop := some .operator, recButton := .released, triggerIgnored := 65535 } }
    let b := { up with recorder := { up.recorder with state := .starting } }
    s.takesCommand 0#8 .system [128, 129] 0 = true ∧ s.takesCommand 0#8 .system [136] 0 = true ∧
      b.takesCommand 0#8 .system [136] 0 = true ∧ s.takes .panel 0#8 0 = true ∧ (1#8).getLsbD 0 = true ∧
      (after (.panel 0#8 0#8 1#8) s).recorder.triggerIgnored = 65535 ∧
      recordingA.takesCommand 0#8 .system [128, 129] 0 = true ∧ up.takesCommand 0#8 .system [136] 0 = true := by
  decide

/-- Each kind of slot state; a part active on the slot, and a continuation that is still opening, with the other
part ended or not. -/
theorem witness_CardLines :
    let b (ph : Phase) := { recordingA with
      recorder :=
        { recordingA.recorder with
          openFrame := none, parts := [⟨7, 2, .b, .opened, 0, [], 0⟩, ⟨7, 1, .a, ph, 0, [], 0⟩] }
      slotB := { asking .partOpen .opening with part := some { part0 with number := 2 }, queue := [3] } }
    up.inReset = false ∧ (up.slot .b).line = false ∧ (up.slot .b).state = .empty ∧
      recordingA.inReset = false ∧ (recordingA.slot .a).line = true ∧ (recordingA.slot .a).state = .writing ∧
      (slotA (asking .mount .mounting)).slotA.line = true ∧
      (after (.cardRemoval .a) recordingA).recorder.stopReason = some .mediaLost ∧
      ((after (.cardRemoval .a) recordingA).slotA.part.map SlotPart.lost) = some 1 ∧
      (b .closing).inReset = false ∧ ((b .closing).slot .b).line = true ∧
      (after (.cardRemoval .b) (b .closing)).recorder.state = .stopping ∧
      (after (.cardRemoval .b) (b .ended)).recorder.stopReason = some .relayExhausted := by decide

/-- A mount outstanding, its timer running; CLEAR_HOLD with a card and without; slot 2. -/
theorem witness_MountsAndHolds :
    let s := slotA { asking .mount .mounting with mountTimer := .running 5000 }
    s.inReset = false ∧ (s.slot .a).request = some ⟨.mount, 7#8⟩ ∧ (s.slot .a).mountTimer = .running 5000 ∧
      up.takesCommand 0#8 .system [166 + (0#8).toNat] 0 = true ∧ up.takesCommand 0#8 .system [] 0 = true ∧
      (after (.clearHold 0#8 .system 1#8 0#8) (slotA { asking .mount .empty with hold := true })).slotA.state =
        .mounting ∧
      (after (.clearHold 0#8 .system 1#8 2#8) up).body.txQueue = [⟨0#8, .reply 1#8 .badCommand []⟩] := by decide

/-- A part open whose opening is outstanding, with a unit queued, in STARTING; one that has begun to close; a
continuation. -/
theorem witness_PartOpenEnds :
    let s (ph : Phase) (number : Nat) (queue : List Nat) := { recordingA with
      recorder :=
        { recordingA.recorder with state := .starting, parts := [⟨7, number, .a, ph, 0, [], 0⟩] }
      slotA := { asking .partOpen .opening with part := some { part0 with number := number }, queue := queue } }
    (s .opened 1 [3]).inReset = false ∧ ((s .opened 1 [3]).slot .a).request = some ⟨.partOpen, 7#8⟩ ∧
      (s .opened 1 [3]).partOpened .a = true ∧
      (after (.partOpenCompletion .a 7#8 true) (s .opened 1 [3])).slotA.inFlight = some 3 ∧
      (after (.partOpenCompletion .a 7#8 true) (s .closing 1 [])).slotA.request = some ⟨.partClose, 8#8⟩ ∧
      (after (.partOpenCompletion .a 7#8 false) (s .opened 1 [3])).slotA.part.map SlotPart.lost = some 1 ∧
      (after (.partOpenCompletion .a 7#8 false) (s .opened 1 [3])).recorder.stopReason = some .openFailed ∧
      (after (.partOpenCompletion .a 7#8 false) (s .opened 2 [3])).recorder.stopReason =
        some .relayExhausted := by decide

/-- WRITING and CLOSING, each policy; a WRITE_SKIP mark that ends at the frame, and one that does not. -/
theorem witness_UnitWriteEnds :
    let s (st : SlotState) (g : Nat) := { recordingA with
      recorder :=
        { recordingA.recorder with parts := [⟨7, 1, .a, .opened, 0, [⟨.writeSkip 2 .a, g⟩], 0⟩] }
      slotA := { recordingA.slotA with state := st } }
    let abort (s : State) := { s with items := { s.items with slots := ⟨.abort, .skip⟩ } }
    recordingA.inReset = false ∧ (recordingA.slot .a).request = some ⟨.unitWrite, 7#8⟩ ∧
      (recordingA.slot .a).inFlight = some 3 ∧ (recordingA.slot .a).part = some part0 ∧
      (recordingA.slot .a).state = .writing ∧ recordingA.partOpened .a = true ∧
      (after (.unitWriteCompletion .a 7#8 true) recordingA).slotA.free = 298 ∧
      (after (.unitWriteCompletion .a 7#8 true) (s .closing 98)).slotA.request = some ⟨.partClose, 8#8⟩ ∧
      (after (.unitWriteCompletion .a 7#8 false) (s .writing 98)).recorder.parts.map ClipPart.marks =
        [[⟨.writeSkip 3 .a, 98⟩]] ∧
      (after (.unitWriteCompletion .a 7#8 false) (s .writing 97)).recorder.parts.map ClipPart.marks =
        [[⟨.writeSkip 2 .a, 97⟩, ⟨.writeSkip 1 .a, 100⟩]] ∧
      (after (.unitWriteCompletion .a 7#8 false) (abort recordingA)).slotA.state = .closing := by
  decide

/-- 289 free blocks leave 288, READY; 288 leave 287, FULL. The last part ends the recording; with another part still
closing, or at rest, the record state stands. -/
theorem witness_PartCloseEnds :
    let s (f : Nat) := { recordingA with
      slotA := { asking .partClose .closing with part := some part0, free := f } }
    let t (r : RecState) (parts : List ClipPart) : State := { s 289 with
      recorder :=
        { (s 289).recorder with
          state := r, lamp := lampOf r, parts := parts, stopReason := some .operator, assembly := none } }
    let a : ClipPart := ⟨7, 1, .a, .closing, 0, [], 0⟩
    let b : ClipPart := ⟨7, 1, .b, .closing, 0, [], 0⟩
    let done (s : State) := after (.partCloseCompletion .a 7#8 true) s
    (s 289).inReset = false ∧ ((s 289).slot .a).request = some ⟨.partClose, 7#8⟩ ∧
      ((s 289).slot .a).part = some part0 ∧
      (after (.partCloseCompletion .a 7#8 true) (s 289)).slotA.state = .ready ∧
      (after (.partCloseCompletion .a 7#8 true) (s 288)).slotA.state = .full ∧
      (done (t .stopping [a])).recorder.state = .idle ∧
      (done (t .stopping [a])).body.txQueue.map OutPacket.msg =
        [.notice (.slot .a .ready .closed), .notice (.record .idle 7 .operator)] ∧
      (done (t .stopping [a])).head.txQueue.map OutPacket.msg = [.tally .off] ∧
      (done (t .stopping [b, a])).recorder.state = .stopping ∧
      (done (t .recording [a])).recorder.stopReason = some .mediaLost ∧
      (done (t .standby [a])).recorder.state = .standby := by decide

theorem witness_StaleAndTimeouts :
    let s := slotA (asking .partOpen .opening)
    s.inReset = false ∧ (s.slot .a).request = some ⟨.partOpen, 7#8⟩ ∧
      (s.slot .a).request ≠ some ⟨.partOpen, 8#8⟩ ∧ (s.slot .a).slowTimer = .running 500 ∧
      (s.slot .a).requestTimer = .running 2000 ∧ (recordingA.slot .a).request = some ⟨.unitWrite, 7#8⟩ ∧
      (after (.partOpenCompletion .a 8#8 true) s).slotA.stale = 1 := by decide

/-- 35 blocks with two reserved for a unit of two: refused; 36: queued. The outcomes of a refusal in each mode, with
a frame open and none; part 254 continues and part 255 does not; a unit of one holder and of two. -/
theorem witness_OfferedUnitsAreAccounted :
    let s (f : Nat) := { recordingA with slotA := { recordingA.slotA with free := f } }
    let t (m : RecMode) (number : Nat) (f : Option OpenFrame) : State := { s 35 with
      items := { (s 35).items with record := { (s 35).items.record with mode := m } }
      recorder := { (s 35).recorder with openFrame := f, parts := [⟨7, number, .a, .opened, 0, [], 0⟩] }
      slotB := { asking .mount .ready with request := none } }
    let frame := recordingA.recorder.openFrame
    (recordingA.slot .a).part = some part0 ∧ (recordingA.recorder.partOn .a).isSome = true ∧
      ((recordingA.slot .a).request = none → (recordingA.slot .a).inFlight = none) ∧
      ((s 36).offerOnce .a 3).1.slotA.queue = [3] ∧ ((s 35).offerOnce .a 3).1.slotA.queue = [] ∧
      ((t .single 1 frame).offer 3 .a).recorder.pendingStop = some .mediaFull ∧
      ((t .dual 1 none).offer 3 .a).recorder.stopReason = some .mediaFull ∧
      ((t .relay 254 frame).offer 3 .a).slotB.queue = [3] ∧
      ((t .relay 255 frame).offer 3 .a).recorder.pendingStop = some .relayExhausted ∧
      (recordingA.recorder.store.release 3).find 3 = none ∧
      (((recordingA.recorder.store.addRef 3).release 3).find 3).map RecordUnit.refs = some 1 := by decide

/-- Lines 0, 539 and 540, and an expected line at each end of its range; a frame whose snapshot is held, with a
visible box over one pixel of two. -/
theorem witness_ViewfinderLines :
    let s (e : Nat) := { up with vf := { up.vf with expected := e, lineSilence := .running 40 } }
    let f : Viewfinder :=
      { up.vf with
        snapshot := some up.latch
        liveList := [.none, .item ⟨1, 0, 1, 1, 2, .always, false⟩ .box] }
    (s 539).vf.expected < 540 ∧ (s 0).vf.expected < 540 ∧ (s 539).takes .vfLine 0#8 0 = true ∧
      (List.replicate 960 0#32).length = 960 ∧ (s 539).vf.lineSilence = .running 40 ∧
      (after (.vfLine 0#8 540#16 (List.replicate 960 0#32)) (s 539)).vf.dropped = 1 ∧
      (after (.vfLine 0#8 539#16 (List.replicate 960 0#32)) (s 539)).vf.expected = 0 ∧
      (after .lineSilenceTimerExpiry (s 0)).vf.repeated = 0 ∧ f.snapshot = some up.latch ∧
      f.composeLine 0 [⟨5, 6, 7⟩, ⟨5, 6, 7⟩] = [⟨5, 6, 7⟩, ⟨940, 512, 512⟩] := by decide +kernel

theorem witness_CheckCounts : flagged.sup.timer = .running 10 ∧ flagged.supSound := ⟨rfl, flagged_supSound⟩

/-- GYRO_LOST present and about to rise with every action, in a recording at the zoom of `zooming`. -/
def rising : State :=
  { recordingA with
    zoom := { zooming.zoom with pendingPreset := some 1 }
    stab := { Stabiliser.powerOn with state := .running, gyroLost := true }
    sup :=
      { Supervision.powerOn with
        timer := .running 10, table := factoryFault.set 0 ⟨0, false, 0, .both, ⟨true, true, true, true, true⟩⟩ } }

theorem rising_supSound : rising.supSound := by
  refine ⟨rfl, fun g => ?_, ?_⟩
  · cases g <;> exact ⟨rfl, rfl, by decide, by decide⟩
  · exact ⟨fun h => (by simp [rising, Supervision.powerOn] at h), fun ⟨g, h, _⟩ => (by cases g <;> cases h)⟩

/-- A check with no rising, and one with a rising and every action. -/
theorem witness_CheckFlags :
    (flagged.sup.timer = .running 10 ∧ flagged.supSound ∧ flagged.sup.risings ≤ 65535) ∧
      (rising.sup.timer = .running 10 ∧ rising.supSound ∧ rising.sup.risings ≤ 65535) ∧
      rising.body.state = .aligned ∧ (after .checkCycle rising).body.txQueue.length < 32 ∧
      (after .checkCycle rising).stab.reason = .fault ∧ (after .checkCycle rising).zoom.stopGroups = [.gyroLost] ∧
      (after .checkCycle rising).vf.warnGroups = [.gyroLost] ∧
      (after .checkCycle rising).recorder.pendingStop = some .fault ∧
      (after .checkCycle rising).recorder.parts.map ClipPart.marks = [[⟨.fault .gyroLost, 100⟩]] :=
  ⟨⟨rfl, flagged_supSound, by decide⟩, ⟨rfl, rising_supSound, by decide⟩, by decide +kernel⟩

/-- Both details of SLOT_SLOW flagged, the group in both holding sets, at the zoom of `zooming`. -/
def twiceFlagged : State :=
  { flagged with
    sup :=
      { flagged.sup with
        groups := Group.all.map (fun g => if g = .slotSlow then ⟨[8, 3], [true, true], true⟩ else clearGroup g) }
    zoom := { zooming.zoom with stopGroups := [.slotSlow], rocker := some 40 }
    vf := { flagged.vf with warnGroups := [.slotSlow] } }

theorem twiceFlagged_supSound : twiceFlagged.supSound := by
  refine ⟨rfl, fun g => ?_, ?_⟩
  · cases g <;> exact ⟨rfl, rfl, by decide, by decide⟩
  · exact ⟨fun _ => ⟨.slotSlow, rfl, rfl⟩, fun _ => rfl⟩

/-- One detail of two cleared keeps the group in its sets; the group cleared gives the grant back to the rocker. -/
theorem witness_ClearFault_sets :
    twiceFlagged.takesCommand 0#8 .system [229] 0 = true ∧ twiceFlagged.supSound ∧ twiceFlagged.zoomSound ∧
      (after (.clearFault 0#8 .system 1#8 0#8 6#8 0#8) twiceFlagged).zoom.stopGroups = [.slotSlow] ∧
      (after (.clearFault 0#8 .system 1#8 0#8 6#8 0#8) twiceFlagged).vf.warnGroups = [.slotSlow] ∧
      (after (.clearFault 0#8 .system 1#8 1#8 6#8 0#8) twiceFlagged).zoom.stopGroups = [] ∧
      (after (.clearFault 0#8 .system 1#8 1#8 6#8 0#8) twiceFlagged).zoom.sentSpeed = 40 ∧
      (after (.clearFault 0#8 .system 1#8 2#8 0#8 0#8) twiceFlagged).sup.attention = false :=
  ⟨by decide, twiceFlagged_supSound, rfl, by decide, by decide, by decide, by decide, by decide⟩

/-- Scope 0 at the last detail of group 6 and one beyond, group 12, scope 3, and the sole flag's fall. -/
theorem witness_ClearFault :
    flagged.takesCommand 0#8 .system [229] 0 = true ∧ flagged.supSound ∧ Group.slotSlow.number = 6 ∧
      Group.slotSlow.details = 2 ∧
      (after (.clearFault 0#8 .system 1#8 0#8 6#8 0#8) flagged).sup.attention = false ∧
      (after (.clearFault 0#8 .system 1#8 0#8 6#8 1#8) flagged).sup.attention = true ∧
      (after (.clearFault 0#8 .system 1#8 0#8 6#8 2#8) flagged).body.txQueue = [⟨0#8, .reply 1#8 .badCommand []⟩] ∧
      (after (.clearFault 0#8 .system 1#8 1#8 12#8 0#8) flagged).body.txQueue = [⟨0#8, .reply 1#8 .badCommand []⟩] ∧
      (after (.clearFault 0#8 .system 1#8 3#8 0#8 0#8) flagged).body.txQueue = [⟨0#8, .reply 1#8 .badCommand []⟩] :=
  ⟨by decide, flagged_supSound, by decide, by decide, by decide, by decide, by decide, by decide, by decide⟩

/-- A bit beyond the map, and a bit set in it; an item, a table, and a cursor of source 1. -/
theorem witness_DeniedActionsChangeNothing :
    let s := { openMap up with
      mgmt := { (openMap up).mgmt with map := List.replicate 17 0xFFFF#16, cursor1 := some ⟨.presets, 3⟩ } }
    (Instr.mark 0#8 .panel 1#8).asks = some (0#8, .panel, 1#8, [139]) ∧ up.takes .command 0#8 0 = true ∧
      16 * up.mgmt.mapCount ≤ 139 ∧ s.takes .command 0#8 0 = true ∧ 139 < 16 * s.mgmt.mapCount ∧
      (s.mgmt.map.getD (139 / 16) 0#16).getLsbD (139 % 16) = true ∧ (up.itemValue 41).isSome = true ∧
      s.mgmt.cursor1 = some ⟨.presets, 3⟩ ∧ (1#16) ≠ 0#16 ∧
      [1#8, 2#8, 3#8, 4#8].length = (1#16).toNat * TableId.presets.entryBytes ∧
      (after (.write 0#8 .panel 1#8 1#16 [1#8, 2#8, 3#8, 4#8]) s).mgmt.denied = 1 ∧
      (after (.read 0#8 .panel 1#8 1#16) s).mgmt.denied = 1 ∧
      (after (.select 0#8 .panel 1#8 9#8 0#16) s).mgmt.denied = 1 := by decide

theorem witness_GetItem :
    up.takes .command 0#8 0 = true ∧ up.itemValue 18 = none ∧ (up.itemValue 41).isSome = true ∧
      up.permits .system [41] = true ∧ up.permits .panel [41] = false := by decide

/-- A range's ends, the bound items at their bounds, a recording item at rest and not, a read-only item, no item. -/
theorem witness_SetItem :
    let value (i : Byte) (v : BitVec 32) := (after (.set 0#8 .system 1#8 i v) up).itemValue i.toNat
    up.takes .command 0#8 0 = true ∧ up.permits .system [128] = true ∧ (specOf 128).isSome = true ∧
      up.recorder.state = .idle ∧ (up.taken .command 0#8 0).itemValue 18 = none ∧
      value 101#8 0xFFFFFFFF#32 = some [160] ∧ value 101#8 0#32 = some [0] ∧
      value 65#8 7#32 = some [4] ∧ value 65#8 0#32 = some [1] ∧ value 65#8 8#32 = some [8] ∧
      value 68#8 200#32 = some [(up.items.stab.panHyst : Int) + 1] ∧
      value 69#8 8191#32 = some [(up.items.stab.panTh : Int) - 1] ∧
      value 71#8 0#32 = some [6] ∧ value 72#8 14#32 = some [(up.items.stab.leakSteady : Int)] ∧
      (after (.set 0#8 .system 1#8 96#8 4#32) up).items.audio.assign = ⟨4, 2, 3, 1⟩ ∧
      specOf 41 = none ∧ (up.itemValue 41).isSome = true ∧ recordingA.recorder.state.recording? = true := by decide

/-- The owners' acts: a bucket at the new BUCKET_TH and one below it, a limiter turned off and on, STANDBY entered
from IDLE, the ring trimmed at 1 s of 25 frames and emptied with STANDBY left. -/
theorem witness_SetItem_acts :
    let set (i : Byte) (v : BitVec 32) (s : State) := after (.set 0#8 .system 1#8 i v) s
    let b := { up with
      stab := { up.stab with yaw := { Axis.powerOn with bucket := -5 }, pitch := { Axis.powerOn with bucket := 4 } }
      audio := { up.audio with limGain := ⟨7, 7, 7, 7⟩ } }
    let r := { up with recorder := { recordingA.recorder with
      state := .standby, lamp := .off, parts := [], ring := 3 :: List.replicate 25 9 } }
    b.takes .command 0#8 0 = true ∧ r.takes .command 0#8 0 = true ∧
      (set 67#8 5#32 b).stab.yaw.bucket = 0 ∧ (set 67#8 5#32 b).stab.pitch.bucket = 4 ∧
      (set 105#8 0#32 b).audio.limGain.q2 = 65536 ∧
      (set 130#8 1#32 up).recorder.state = .standby ∧
      (set 130#8 1#32 up).body.txQueue.map OutPacket.msg =
        [.notice (.record .standby 0 .preRec), .reply 1#8 .ok [1#8, 0#8, 0#8, 0#8]] ∧
      (set 130#8 1#32 r).recorder.ring = List.replicate 25 9 ∧ (set 130#8 1#32 r).recorder.store.units = [] ∧
      (set 130#8 0#32 r).recorder.ring = [] ∧ (set 130#8 0#32 r).recorder.assembly = none ∧
      (set 130#8 0#32 r).recorder.state = .idle := by decide

/-- Index at the capacity and one below, tables 0, 9 and 10. -/
theorem witness_SelectTable :
    up.takes .command 0#8 0 = true ∧ TableId.ofNumber (9#8).toNat = some .map ∧
      TableId.ofNumber (0#8).toNat = none ∧ TableId.ofNumber (10#8).toNat = none ∧
      up.permits .system [255 + (9#8).toNat] = true ∧
      (after (.select 0#8 .system 1#8 9#8 16#16) up).mgmt.cursor0 = some ⟨.map, 16⟩ ∧
      (after (.select 0#8 .system 1#8 9#8 17#16) up).mgmt.cursor0 = none := by decide

/-- The map filled from index 0, and from beyond its end refused; a palette entry out of range, held at its bounds
with CLAMPED; each refusal. -/
theorem witness_WriteAndRead :
    let s (k : TableId) (c : Nat) := { zooming with mgmt := { up.mgmt with cursor0 := some ⟨k, c⟩ } }
    let write (m : BitVec 16) (data : List Byte) (s : State) := after (.write 0#8 .system 1#8 m data) s
    let answer (s : State) := s.body.txQueue.map OutPacket.msg
    (s .map 0).takes .command 0#8 0 = true ∧ (s .map 0).permits .system [255 + TableId.map.code] = true ∧
      (s .map 0).mgmt.cursor .system = some ⟨.map, 0⟩ ∧ up.mgmt.cursor .system = none ∧
      (write 2#16 [1#8, 2#8, 3#8, 4#8] (s .map 0)).mgmt.map.take 3 = [0x0201#16, 0x0403#16, 0#16] ∧
      (write 2#16 [1#8, 2#8, 3#8, 4#8] (s .map 0)).mgmt.mapCount = 2 ∧
      answer (write 2#16 [1#8, 2#8, 3#8, 4#8] (s .map 1)) = [.reply 1#8 .badLength []] ∧
      answer (write 1#16 [255#8, 255#8, 0#8, 2#8, 0#8, 2#8, 17#8] (s .palette 15)) =
        [.reply 1#8 .clamped [16#8, 0#8]] ∧
      (write 1#16 [255#8, 255#8, 0#8, 2#8, 0#8, 2#8, 17#8] (s .palette 15)).vf.palette[15]? =
        some ⟨1023, 512, 512, 16⟩ ∧
      answer (write 1#16 [0#8, 2#8] (s .speedCurve 8)) = [.reply 1#8 .wrongMode []] ∧
      answer (write 1#16 [0#8, 2#8] up) = [.reply 1#8 .noCursor []] ∧
      answer (write 0#16 [] (s .map 0)) = [.reply 1#8 .badCommand []] ∧
      answer (after (.read 0#8 .system 1#8 1#16) (s .map 0)) = [.reply 1#8 .badLength []] ∧
      answer (after (.read 0#8 .system 1#8 1#16) up) = [.reply 1#8 .noCursor []] := by decide

theorem witness_WriteAndRead_tables : zooming.tablesSound := zooming_tablesSound

theorem witness_StoreActions :
    up.takesCommand 0#8 .system [28] 0 = true ∧ up.scene.op = .idle ∧
      up.takesCommand 0#8 .system [28, 256, 257, 259, 261, 262, 263] 0 = true ∧
      (after (.storeScene 0#8 .system 1#8 4#8) up).scene.op = .idle ∧
      (after (.storeScene 1#8 .system 2#8 0#8) (after (.storeScene 0#8 .system 1#8 3#8) up)).body.txQueue =
        [⟨0#8, .reply 1#8 .ok []⟩, ⟨1#8, .reply 2#8 .busy []⟩] := by decide

/-- A valid area and an invalid one. -/
theorem witness_RecallActions :
    up.takesCommand 0#8 .system (28 :: itemSpecs.map ItemSpec.number ++ [258, 260]) 0 = true ∧
      up.scene.op = .idle ∧ up.recorder.state = .idle ∧ up.scene.scenes.q2 = none ∧
      stored.scene.scenes.q1.isSome = true ∧ stored.scene.op = .idle ∧
      recordingA.recorder.state.recording? = true ∧
      (after (.recallScene 0#8 .system 1#8 0#8) stored).body.txQueue = [⟨0#8, .reply 1#8 .ok []⟩] := by decide

theorem witness_SceneMemoryEnds :
    let c : SceneArea := ⟨defaultItems, factoryPresets, []⟩
    let s (op : SceneOp) := { up with scene := { up.scene with op := op, cellWrite := some 7 } }
    (s (.storeScene .i1 c)).scene.op = .storeScene .i1 c ∧ (s (.storeFixed stored.fixedCopy)).scene.op =
      .storeFixed stored.fixedCopy ∧ (s (.recallScene .i1 c true)).scene.op = .recallScene .i1 c true ∧
      (s .idle).scene.cellWrite = some 7 := ⟨rfl, rfl, rfl, rfl⟩

theorem witness_SilenceTimers :
    let s := after .powerOnResetEnd State.reset
    s.zoom.lensSilence = .running 20 ∧ s.stab.gyroSilence = .running 5 ∧ s.stab.longGap = .running 100 ∧
      s.audio.silence = .running 5 ∧ s.audio.meterLapse = .running 100 := by decide

end Sys2Proof.Tests
end

section
/-! PROOF. The lens table cleared (R5). -/

namespace Sys2Proof.Machine

/-- LENS_TABLE_CLEAR, allowed: its answer in the state `taken`, and then its reply. -/
theorem exec_lensTableClear_of_takes {s : State} {seq : Byte} {src : Source} {n : Nat} (tag : Byte)
    (h : s.takesCommand seq src [256] n = true) :
    exec (.lensTableClear seq src tag) s =
      .next ((s.taken .command seq n).lensTableClear.1.reply tag (s.taken .command seq n).lensTableClear.2 []) :=
  congrArg Host.Outcome.next (State.action_of_takes h)

theorem State.lensTableClear_of_run {s : State} (h : s.zoom.mode = .run) :
    s.lensTableClear = (s, .wrongMode) := by
  simp only [State.lensTableClear, h]

theorem State.lensTableClear_of_setup {s : State} (h : s.zoom.mode = .setup) :
    s.lensTableClear = ({ s with zoom := { s.zoom with lens := [] } }, .ok) := by
  simp only [State.lensTableClear, h]

/-- A packet taken leaves the zoom drive and the management unit to its owner. -/
theorem State.taken_keeps (s : State) (k : InKind) (seq : Byte) (n : Nat) :
    (s.taken k seq n).zoom = s.zoom ∧ (s.taken k seq n).mgmt = s.mgmt := by
  simp [State.taken]

/-- In an empty lens table a WRITE fits at index 0 alone (R4). -/
theorem State.writeFits_lens_of_empty {s : State} (h : s.zoom.lens = []) (c m : Nat) :
    s.writeFits .lens c m = true ↔ c = 0 ∧ m ≤ 32 := by
  have hcap : TableId.lens.capacity = 32 := rfl
  simp only [State.writeFits, h, List.length_nil, Bool.and_eq_true, decide_eq_true_eq]
  omega

/-- Settles O30, by the two optics modes. -/
theorem lensTableClear : Obligations.LensTableClear := by
  intro s seq src tag n h u
  have hexec := exec_lensTableClear_of_takes tag h
  obtain ⟨hz, hm⟩ := s.taken_keeps .command seq n
  cases hmode : s.zoom.mode with
  | run =>
    rw [State.lensTableClear_of_run (hz ▸ hmode), State.reply_eq] at hexec
    exact hexec
  | setup =>
    rw [State.lensTableClear_of_setup (hz ▸ hmode), State.reply_eq] at hexec
    refine ⟨_, hexec, ?_, congrArg Management.cursor0 hm, congrArg Management.cursor1 hm, rfl,
      State.writeFits_lens_of_empty rfl⟩
    rw [← hz]
    rfl

end Sys2Proof.Machine
end

section
/-! PROOF. A PANEL at the zoom drive and the rocker lapse (R9, R10, R12 to R21): what each operation of the zoom
drive makes of the drive and of the body link, and the statement assembled from them. -/

namespace Sys2Proof.Machine

/-! ### The drive and the link of its notices -/

/-- The zoom drive with the body link that carries its notices. -/
def State.drive (s : State) : Zoom × LinkCtl := (s.zoom, s.body)

/-- The body link once the move of a drive, if there is one, has ended. -/
def moveEnded (z : Zoom) (b : LinkCtl) (e : MoveEnd) : LinkCtl :=
  if z.move.isSome = true then b.hand (.notice (.preset e)) else b

theorem State.endMove_drive (s : State) (e : MoveEnd) :
    (s.endMove e).drive = ({ s.zoom with move := none }, moveEnded s.zoom s.body e) := by
  cases hm : s.zoom.move with
  | none =>
    have hz : { s.zoom with move := none } = s.zoom := by rw [← hm]
    simp [State.endMove, State.drive, moveEnded, hm, hz]
  | some m => simp [State.endMove, State.drive, moveEnded, hm, State.notify_eq]

theorem State.endPending_drive (s : State) (e : MoveEnd) :
    (s.endPending e).drive =
      ({ s.zoom with pendingPreset := none },
        if s.zoom.pendingPreset.isSome = true then s.body.hand (.notice (.preset e)) else s.body) := by
  cases hp : s.zoom.pendingPreset with
  | none =>
    have hz : { s.zoom with pendingPreset := none } = s.zoom := by rw [← hp]
    simp [State.endPending, State.drive, hp, hz]
  | some j => simp [State.endPending, State.drive, hp, State.notify_eq]

/-- A drive whose preset `j` has just started: ended at once inside the window, else under way with the speed for
its distance (R13, R14). -/
def presetStarted (it : ZoomItems) (z : Zoom) (b : LinkCtl) (j : Nat) : Zoom × LinkCtl :=
  let p := z.presets.getD (j - 1) ⟨0, 0⟩
  let far : Int := (p.target : Int) - z.report.z
  let mag : Nat :=
    if it.approach ≤ far.natAbs then p.speed else max 16 (p.speed * far.natAbs / it.approach)
  if far.natAbs ≤ it.arriveWindow then ({ z with move := none }, b.hand (.notice (.preset .arrived)))
  else
    ({ z with
        move := some ⟨j, p.target, p.speed, if far < 0 then -(mag : Int) else mag,
          .running (it.presetTimeout * 1000)⟩ }, b)

/-- The preset speed with its magnitude among the naturals (R14). -/
theorem presetSpeed_eq (it : ZoomItems) (speed : Nat) (far : Int) :
    presetSpeed it speed far =
      (let mag : Nat := if it.approach ≤ far.natAbs then speed else max 16 (speed * far.natAbs / it.approach)
       if far < 0 then -(mag : Int) else mag) := by
  have hdiv : truncDiv ((speed : Int) * far.natAbs) it.approach =
      ((speed * far.natAbs / it.approach : Nat) : Int) := by
    rw [truncDiv, ← Int.natCast_mul, ← Int.ofNat_tdiv]
  simp only [presetSpeed, hdiv, Int.ofNat_le]
  split <;> simp

theorem State.startPreset_drive (s : State) (j : Nat) :
    (s.startPreset j).drive = presetStarted s.items.zoom s.zoom s.body j := by
  simp only [State.startPreset, State.stepMove, presetStarted]
  split
  · rw [State.endMove_drive]; rfl
  · rw [presetSpeed_eq]; rfl

/-! ### The demand of a PANEL (R9, R10, R16, R19) -/

/-- A drive that has taken a demand, under a stop claim or none. -/
def demandTaken (it : ZoomItems) (stop : Prop) [Decidable stop] (demand : Option Int) (z : Zoom) (b : LinkCtl) :
    Zoom × LinkCtl :=
  let kept : Zoom := { z with rocker := demand, stopFresh := false }
  if demand.isSome = true then
    ({ kept with
        move := none
        ignored := if stop ∧ (z.rocker = none ∨ z.stopFresh = true) then sat16 (z.ignored + 1) else z.ignored },
      moveEnded z b .preempted)
  else
    match z.pendingPreset with
    | none => (kept, b)
    | some j => if stop then (kept, b) else presetStarted it { kept with pendingPreset := none } b j

theorem Zoom.stopClaim_iff (z : Zoom) : z.stopClaim = true ↔ z.report.fault = true ∨ z.stopGroups ≠ [] := by
  simp [Zoom.stopClaim]

/-- A rocker claim placed or withdrawn leaves the stop claim as it was. -/
theorem Zoom.stopClaim_with_rocker (z : Zoom) (demand : Option Int) (fresh : Bool) :
    { z with rocker := demand, stopFresh := fresh }.stopClaim = z.stopClaim := rfl

theorem State.drive_with_rocker (s : State) (demand : Option Int) (fresh : Bool) :
    { s with zoom := { s.zoom with rocker := demand, stopFresh := fresh } }.drive =
      ({ s.drive.1 with rocker := demand, stopFresh := fresh }, s.drive.2) := rfl

theorem State.panelRocker_drive (s : State) (d : Int) {stop : Prop} [Decidable stop]
    (hstop : s.zoom.stopClaim = true ↔ stop) :
    (s.panelRocker d).drive =
      demandTaken s.items.zoom stop (rockerDemand s.zoom.curve s.items.zoom d) s.zoom s.body := by
  cases hd : rockerDemand s.zoom.curve s.items.zoom d with
  | some v =>
    have hcount : ((s.zoom.stopClaim && (s.zoom.rocker.isNone || s.zoom.stopFresh)) = true) =
        (stop ∧ (s.zoom.rocker = none ∨ s.zoom.stopFresh = true)) := by simp [hstop]
    simp only [State.panelRocker, hd, hcount, State.drive_with_rocker, State.endMove_drive, demandTaken,
      Option.isSome_some, if_true]
    split <;> rfl
  | none =>
    cases hp : s.zoom.pendingPreset with
    | none => simp [State.panelRocker, State.drive, demandTaken, hd, hp]
    | some j =>
      have hkept := Zoom.stopClaim_with_rocker s.zoom none false
      simp only [hp] at hkept
      simp only [State.panelRocker, hd, hp, hkept, hstop, demandTaken, Option.isSome_none, Bool.false_eq_true,
        if_false]
      split
      · rfl
      · rw [State.startPreset_drive]

/-! ### A preset button (R12) -/

/-- A drive at preset button `j`, with a rising edge or none, under a stop claim or none. -/
def buttonTaken (it : ZoomItems) (stop edge : Prop) [Decidable stop] [Decidable edge] (demand : Option Int)
    (mode : OpticsMode) (j : Nat) (w : Zoom × LinkCtl) : Zoom × LinkCtl :=
  if edge ∧ mode = .run then
    if stop then ({ w.1 with ignored := sat16 (w.1.ignored + 1) }, w.2)
    else if demand.isSome = true then
      ({ w.1 with pendingPreset := some j },
        if w.1.pendingPreset.isSome = true then w.2.hand (.notice (.preset .cancelled)) else w.2)
    else presetStarted it w.1 (moveEnded w.1 w.2 .cancelled) j
  else w

theorem Zoom.grant_of_stop {z : Zoom} (h : z.stopClaim = true) : z.grant = .stop := by
  simp [Zoom.grant, h]

theorem Zoom.grant_of_rocker {z : Zoom} (h : ¬z.stopClaim = true) (hr : z.rocker.isSome = true) :
    z.grant = .rocker := by
  simp [Zoom.grant, h, hr]

theorem Zoom.grant_of_unclaimed {z : Zoom} (h : ¬z.stopClaim = true) (hr : ¬z.rocker.isSome = true) :
    z.grant = .preset ∨ z.grant = .none := by
  cases hm : z.move.isSome <;> simp [Zoom.grant, h, hr, hm]

/-- A preset button's request in RUN, by the claim that holds the grant (R12 steps 3 to 5). -/
theorem State.requestPreset_drive (s : State) (j : Nat) (hrun : s.zoom.mode = .run) :
    (s.requestPreset true j).1.drive =
      if s.zoom.stopClaim = true then s.ignoreZoom.drive
      else if s.zoom.rocker.isSome = true then
        ({ s.zoom with pendingPreset := some j },
          if s.zoom.pendingPreset.isSome = true then s.body.hand (.notice (.preset .cancelled)) else s.body)
      else presetStarted s.items.zoom s.zoom (moveEnded s.zoom s.body .cancelled) j := by
  split
  next hs => simp [State.requestPreset, hrun, Zoom.grant_of_stop hs]
  next hs =>
    split
    next hr =>
      have hend := s.endPending_drive .cancelled
      simp only [State.drive, Prod.mk.injEq] at hend
      simp [State.requestPreset, hrun, Zoom.grant_of_rocker hs hr, State.drive, hend]
    next hr =>
      have hstart : (s.requestPreset true j).1 = (s.endMove .cancelled).startPreset j := by
        rcases Zoom.grant_of_unclaimed hs hr with hg | hg <;> simp [State.requestPreset, hrun, hg]
      have hend := s.endMove_drive .cancelled
      simp only [State.drive, Prod.mk.injEq] at hend
      rw [hstart, State.startPreset_drive, hend.1, hend.2]
      simp [presetStarted]

theorem State.presetEdge_drive (s : State) (pressed : Bool) (j : Nat) {stop edge : Prop} [Decidable stop]
    [Decidable edge] (hstop : s.zoom.stopClaim = true ↔ stop) (hedge : pressed = true ↔ edge) :
    (s.presetEdge pressed j).drive = buttonTaken s.items.zoom stop edge s.zoom.rocker s.zoom.mode j s.drive := by
  simp only [State.presetEdge, hedge, buttonTaken]
  by_cases he : edge
  · cases hmode : s.zoom.mode with
    | run =>
      simp only [he, if_true, and_self, s.requestPreset_drive j hmode, hstop]
      rfl
    | setup => simp [he, State.requestPreset, hmode]
  · simp [he]

/-! ### What a PANEL leaves of the claims until the arbiter (R18, R21) -/

/-- The claims but for the move, the mode and the sending of a drive are those of another. -/
structure Zoom.SameClaims (z z' : Zoom) : Prop where
  report : z'.report = z.report
  stopGroups : z'.stopGroups = z.stopGroups
  rocker : z'.rocker = z.rocker
  mode : z'.mode = z.mode
  sentSpeed : z'.sentSpeed = z.sentSpeed
  refresh : z'.refresh = z.refresh

theorem Zoom.SameClaims.trans {z z' z'' : Zoom} (h : z.SameClaims z') (h' : z'.SameClaims z'') :
    z.SameClaims z'' :=
  ⟨h'.report.trans h.report, h'.stopGroups.trans h.stopGroups, h'.rocker.trans h.rocker, h'.mode.trans h.mode,
    h'.sentSpeed.trans h.sentSpeed, h'.refresh.trans h.refresh⟩

theorem Zoom.SameClaims.stopClaim {z z' : Zoom} (h : z.SameClaims z') : z'.stopClaim = z.stopClaim := by
  simp only [Zoom.stopClaim, h.report, h.stopGroups]

theorem presetStarted_sameClaims (it : ZoomItems) (z : Zoom) (b : LinkCtl) (j : Nat) :
    z.SameClaims (presetStarted it z b j).1 := by
  simp only [presetStarted]
  split <;> constructor <;> rfl

theorem demandTaken_sameClaims (it : ZoomItems) (stop : Prop) [Decidable stop] (demand : Option Int) (z : Zoom)
    (b : LinkCtl) : { z with rocker := demand }.SameClaims (demandTaken it stop demand z b).1 := by
  simp only [demandTaken]
  split
  · constructor <;> rfl
  · split
    · constructor <;> rfl
    · split
      · constructor <;> rfl
      · exact .trans (by constructor <;> rfl) (presetStarted_sameClaims ..)

theorem buttonTaken_sameClaims (it : ZoomItems) (stop edge : Prop) [Decidable stop] [Decidable edge]
    (demand : Option Int) (mode : OpticsMode) (j : Nat) (w : Zoom × LinkCtl) :
    w.1.SameClaims (buttonTaken it stop edge demand mode j w).1 := by
  simp only [buttonTaken]
  split
  · split
    · constructor <;> rfl
    · split
      · constructor <;> rfl
      · exact presetStarted_sameClaims ..
  · constructor <;> rfl

/-- A rocker demand replaces the rocker claim alone. -/
theorem State.panelRocker_sameClaims (s : State) (d : Int) :
    { s.zoom with rocker := rockerDemand s.zoom.curve s.items.zoom d }.SameClaims (s.panelRocker d).zoom := by
  have h := demandTaken_sameClaims s.items.zoom (s.zoom.stopClaim = true)
    (rockerDemand s.zoom.curve s.items.zoom d) s.zoom s.body
  rwa [← s.panelRocker_drive d Iff.rfl] at h

theorem State.presetEdge_sameClaims (s : State) (pressed : Bool) (j : Nat) :
    s.zoom.SameClaims (s.presetEdge pressed j).zoom := by
  have h := buttonTaken_sameClaims s.items.zoom (s.zoom.stopClaim = true) (pressed = true) s.zoom.rocker
    s.zoom.mode j s.drive
  rwa [← s.presetEdge_drive pressed j Iff.rfl Iff.rfl] at h

/-! ### The arbiter (R18, R20, R21) -/

theorem Zoom.classSpeed_eq (z : Zoom) {stop : Prop} [Decidable stop] (hstop : z.stopClaim = true ↔ stop) :
    z.classSpeed =
      if stop then 0
      else match z.rocker, z.move with
        | some v, _ => v
        | none, some m => m.current
        | none, none => 0 := by
  by_cases hs : stop
  · simp [Zoom.classSpeed, Zoom.grant_of_stop (hstop.mpr hs), hs]
  · cases hr : z.rocker <;> cases hm : z.move <;> simp [Zoom.classSpeed, Zoom.grant, hstop, hs, hr, hm]

theorem Zoom.maskSpeed_eq (z : Zoom) (v : Int) :
    z.maskSpeed v = if (0 < v ∧ z.report.tele = true) ∨ (v < 0 ∧ z.report.wide = true) then 0 else v := by
  simp [Zoom.maskSpeed]

theorem State.arbitrate_zoom (s : State) :
    s.arbitrate.zoom =
      { s.zoom with
        sentSpeed := s.zoom.maskSpeed s.zoom.classSpeed
        refresh :=
          if s.zoom.maskSpeed s.zoom.classSpeed = s.zoom.sentSpeed then s.zoom.refresh else .running 20 } := by
  rcases s.arbitrate_cases with ⟨h, ha⟩ | ⟨h, ha⟩
  · rw [ha, if_pos h, h]
  · rw [ha, if_neg h]

theorem State.arbitrate_head (s : State) :
    s.arbitrate.head =
      if s.zoom.maskSpeed s.zoom.classSpeed = s.zoom.sentSpeed then s.head
      else s.head.hand (.zoomCmd (s.zoom.maskSpeed s.zoom.classSpeed)) := by
  rcases s.arbitrate_cases with ⟨h, ha⟩ | ⟨h, ha⟩
  · rw [ha, if_pos h]
  · rw [ha, if_neg h]

/-! ### A PANEL whole -/

/-- The state in which the arbiter judges a PANEL: after the demand, P1 and P2. -/
def State.panelJudged (s : State) (d : Int) (edge1 edge2 : Bool) : State :=
  ((s.panelRocker d).presetEdge edge1 1).presetEdge edge2 2

theorem State.panelJudged_keeps (s : State) (d : Int) (edge1 edge2 : Bool) :
    (s.panelJudged d edge1 edge2).head = s.head ∧ (s.panelJudged d edge1 edge2).items = s.items := by
  simp [State.panelJudged]

/-- The drive of a PANEL at the arbiter: the demand, then P1, then P2, all under the stop claim that stood. -/
def panelTaken (it : ZoomItems) (stop edge1 edge2 : Prop) [Decidable stop] [Decidable edge1] [Decidable edge2]
    (demand : Option Int) (z : Zoom) (b : LinkCtl) : Zoom × LinkCtl :=
  buttonTaken it stop edge2 demand z.mode 2
    (buttonTaken it stop edge1 demand z.mode 1 (demandTaken it stop demand z b))

theorem risingEdge_iff (kept : Level) (pressed : Bool) :
    risingEdge kept pressed = true ↔ kept = .released ∧ pressed = true := by
  simp [risingEdge]

theorem State.panelJudged_sameClaims (s : State) (d : Int) (edge1 edge2 : Bool) :
    { s.zoom with rocker := rockerDemand s.zoom.curve s.items.zoom d }.SameClaims
      (s.panelJudged d edge1 edge2).zoom :=
  ((s.panelRocker_sameClaims d).trans (State.presetEdge_sameClaims ..)).trans (State.presetEdge_sameClaims ..)

theorem State.panelJudged_drive (s : State) (d : Int) (e1 e2 : Bool) {stop edge1 edge2 : Prop} [Decidable stop]
    [Decidable edge1] [Decidable edge2] (hstop : s.zoom.stopClaim = true ↔ stop) (h1 : e1 = true ↔ edge1)
    (h2 : e2 = true ↔ edge2) :
    (s.panelJudged d e1 e2).drive =
      panelTaken s.items.zoom stop edge1 edge2 (rockerDemand s.zoom.curve s.items.zoom d) s.zoom s.body := by
  have hc := s.panelRocker_sameClaims d
  have hc1 := hc.trans ((s.panelRocker d).presetEdge_sameClaims e1 1)
  rw [State.panelJudged, State.presetEdge_drive _ e2 2 (hc1.stopClaim ▸ hstop) h2,
    State.presetEdge_drive _ e1 1 (hc.stopClaim ▸ hstop) h1, s.panelRocker_drive d hstop, hc.rocker, hc.mode,
    hc1.rocker, hc1.mode]
  simp [panelTaken]

/-- The drive as a PANEL leaves it before its demand: the lapse timer restarted, the levels of P1 and P2 kept. -/
def Zoom.panelKept (z : Zoom) (p1 p2 : Bool) : Zoom :=
  { z with rockerLapse := .running 12, p1 := levelOf p1, p2 := levelOf p2 }

/-- The speed that a drive sends: the masked speed of the claim that holds the grant (R18 to R20). -/
def speedSent (report : LensReport) (stop : Prop) [Decidable stop] (demand : Option Int) (move : Option Move) :
    Int :=
  let speed : Int :=
    if stop then 0
    else match demand, move with
      | some v, _ => v
      | none, some m => m.current
      | none, none => 0
  if (0 < speed ∧ report.tele = true) ∨ (speed < 0 ∧ report.wide = true) then 0 else speed

theorem Zoom.maskSpeed_classSpeed (z : Zoom) {stop : Prop} [Decidable stop] (hstop : z.stopClaim = true ↔ stop) :
    z.maskSpeed z.classSpeed = speedSent z.report stop z.rocker z.move := by
  rw [Zoom.maskSpeed_eq, z.classSpeed_eq hstop]
  rfl

/-- A PANEL at the zoom drive: the drive and the body link as the demand and the buttons leave them, then the
arbiter's speed. -/
theorem State.panelZoom_taken (s : State) (d : Int) (p1 p2 : Bool) {stop : Prop} [Decidable stop]
    {demand : Option Int} {w : Zoom × LinkCtl} {sent : Int} (hstop : s.zoom.stopClaim = true ↔ stop)
    (hdemand : rockerDemand s.zoom.curve s.items.zoom d = demand)
    (hw : panelTaken s.items.zoom stop (s.zoom.p1 = .released ∧ p1 = true) (s.zoom.p2 = .released ∧ p2 = true)
      demand (s.zoom.panelKept p1 p2) s.body = w)
    (hsent : speedSent s.zoom.report stop demand w.1.move = sent) :
    (s.panelZoom d p1 p2).zoom =
      { w.1 with
        sentSpeed := sent, refresh := if sent = s.zoom.sentSpeed then s.zoom.refresh else .running 20 } ∧
    (s.panelZoom d p1 p2).body = w.2 ∧
    (s.panelZoom d p1 p2).head = if sent = s.zoom.sentSpeed then s.head else s.head.hand (.zoomCmd sent) := by
  let u : State := { s with zoom := s.zoom.panelKept p1 p2 }
  let r := u.panelJudged d (risingEdge s.zoom.p1 p1) (risingEdge s.zoom.p2 p2)
  have hdrive : r.drive = w := by
    rw [← hw, ← hdemand]
    exact u.panelJudged_drive d _ _ hstop (risingEdge_iff ..) (risingEdge_iff ..)
  have hc : { u.zoom with rocker := demand }.SameClaims r.zoom := hdemand ▸ u.panelJudged_sameClaims ..
  have hzoom : r.zoom = w.1 := congrArg Prod.fst hdrive
  have hspeed : r.zoom.maskSpeed r.zoom.classSpeed = sent := by
    rw [Zoom.maskSpeed_classSpeed _ (hc.stopClaim ▸ hstop), hc.report, hc.rocker, hzoom]
    exact hsent
  have hpanel : s.panelZoom d p1 p2 = r.arbitrate := rfl
  rw [hpanel, State.arbitrate_zoom, State.arbitrate_head, r.arbitrate_keeps.1, hspeed, hc.sentSpeed, hc.refresh,
    (u.panelJudged_keeps ..).1, hzoom]
  exact ⟨rfl, congrArg Prod.snd hdrive, rfl⟩

/-! ### The rocker's deflection (R9) -/

/-- A deflection read with −128 as −127 (R9). -/
theorem rockerDemand_eq (curve : List (Option Nat)) (it : ZoomItems) (r : Int) :
    rockerDemand curve it r =
      (let d : Int := if r = -128 then -127 else r
       let m := d.natAbs
       let k := m / 16
       let base := curveAt curve k +
         Int.tdiv ((curveAt curve (k + 1) - curveAt curve k) * ((m : Int) - 16 * k)) 16
       let scaled := min (Int.tdiv (base * it.scale) 256) 1023
       if m ≤ it.deadband then none else some (if 0 ≤ d then scaled else -scaled)) := by
  have hsign : ∀ d v : Int, (if d < 0 then -v else v) = if 0 ≤ d then v else -v := by
    intro d v
    split <;> split <;> omega
  simp only [rockerDemand, truncDiv, hsign]

theorem deflection_segment_le (r : Byte) :
    (if r.toInt = -128 then -127 else r.toInt).natAbs / 16 ≤ 7 := by
  have hlo := r.le_toInt
  have hhi := r.toInt_lt
  split <;> omega

/-! ### The commands -/

theorem exec_panel_of_takes {s : State} {seq : Byte} {n : Nat} (rocker buttons : Byte)
    (h : s.takes .panel seq n = true) :
    exec (.panel seq rocker buttons) s = .next ((s.taken .panel seq n).takePanel rocker.toInt buttons) :=
  congrArg Host.Outcome.next (State.intake_of_takes h)

theorem exec_rockerLapse_of_running {s : State} {ms : Nat} (h : s.zoom.rockerLapse = .running ms) :
    exec .rockerLapseTimerExpiry s = .next s.begin.rockerLapse := by
  change Host.Outcome.next (s.begin.expire s.zoom.rockerLapse State.rockerLapse) = _
  rw [h]
  rfl

theorem State.panelStab_of_released (s : State) :
    s.panelStab false = { s with stab := { s.stab with button := .released } } := by
  simp [State.panelStab, risingEdge, levelOf]

/-- With REC released the record assembler sends nothing at a PANEL. -/
theorem State.panelRecord_links (s : State) (mark : Bool) :
    (s.panelRecord false mark).head = s.head ∧ (s.panelRecord false mark).body = s.body := by
  have hrec : risingEdge s.recorder.recButton false = false := by simp [risingEdge]
  simp only [State.panelRecord, hrec, Bool.false_eq_true, if_false]
  split <;> simp

theorem State.takePanel_zoom (s : State) (d : Int) (buttons : Byte) :
    (s.takePanel d buttons).zoom = (s.panelZoom d (buttons.getLsbD 3) (buttons.getLsbD 4)).zoom := by
  simp [State.takePanel]

/-- With REC and STAB released a PANEL's packets are those of the zoom drive. -/
theorem State.takePanel_links (s : State) (d : Int) {buttons : Byte} (hrec : buttons.getLsbD 0 = false)
    (hstab : buttons.getLsbD 2 = false) :
    (s.takePanel d buttons).head = (s.panelZoom d (buttons.getLsbD 3) (buttons.getLsbD 4)).head ∧
    (s.takePanel d buttons).body = (s.panelZoom d (buttons.getLsbD 3) (buttons.getLsbD 4)).body := by
  simp only [State.takePanel, hrec, hstab, State.panelStab_of_released]
  exact State.panelRecord_links ..

/-- The rocker lapse withdraws the claim and ends a pending preset CANCELLED (R10, R16). -/
theorem State.rockerLapse_taken (s : State) :
    s.rockerLapse.zoom.rocker = none ∧ s.rockerLapse.zoom.pendingPreset = none ∧
    s.rockerLapse.zoom.move = s.zoom.move ∧
    s.rockerLapse.body =
      if s.zoom.pendingPreset.isSome = true then s.body.hand (.notice (.preset .cancelled)) else s.body := by
  let u : State := { s with zoom := { s.zoom with rocker := none, rockerLapse := .expired } }
  have hend := u.endPending_drive .cancelled
  simp only [State.drive, Prod.mk.injEq] at hend
  obtain ⟨hzoom, hbody⟩ := hend
  have hlapse : s.rockerLapse = (u.endPending .cancelled).arbitrate := rfl
  rw [hlapse, State.arbitrate_zoom, hzoom, (State.arbitrate_keeps _).1, hbody]
  exact ⟨rfl, rfl, rfl, rfl⟩

/-- Settles O25, by the drive that the demand, P1 and P2 leave to the arbiter. -/
theorem panelDemand : Obligations.PanelDemand := by
  intro s
  refine ⟨fun seq rocker buttons n h => ?_, fun ms h => ?_⟩
  · intro d m k speedAt base scaled demand stop ended started kept demanded pressed w speed sent
    have hdemand : rockerDemand s.zoom.curve s.items.zoom rocker.toInt = demand := rockerDemand_eq ..
    have hw : panelTaken s.items.zoom (s.zoom.report.fault = true ∨ s.zoom.stopGroups ≠ [])
        (s.zoom.p1 = .released ∧ buttons.getLsbD 3 = true) (s.zoom.p2 = .released ∧ buttons.getLsbD 4 = true) demand
        (s.zoom.panelKept (buttons.getLsbD 3) (buttons.getLsbD 4)) s.body = w := rfl
    have hsent : speedSent s.zoom.report (s.zoom.report.fault = true ∨ s.zoom.stopGroups ≠ []) demand w.1.move =
        sent := rfl
    obtain ⟨hzoom, hbody, hhead⟩ :=
      (s.taken .panel seq n).panelZoom_taken rocker.toInt _ _ s.zoom.stopClaim_iff hdemand hw hsent
    refine ⟨deflection_segment_le rocker, _, exec_panel_of_takes rocker buttons h,
      (State.takePanel_zoom ..).trans hzoom, fun hrec hstab => ?_⟩
    obtain ⟨hh, hb⟩ := (s.taken .panel seq n).takePanel_links rocker.toInt hrec hstab
    exact ⟨hb.trans hbody, hh.trans hhead⟩
  · obtain ⟨hrocker, hpending, hmove, hbody⟩ := s.begin.rockerLapse_taken
    refine ⟨_, exec_rockerLapse_of_running h, hrocker, hpending, hmove, hbody.trans ?_⟩
    cases hp : s.zoom.pendingPreset <;> simp [hp]

end Sys2Proof.Machine
end

section
/-! PROOF. The cadence (R69): it depends on the phase only, so it is a table of five entries to a rate code, and
five frames in a row hold one of each phase whichever frame comes first. -/

namespace Sys2Proof.Machine

/-- The phase is the frame number mod 5 (R69). -/
theorem cadence_periodic (r : RateCode) : Function.Periodic (cadence r) 5 := by
  intro f
  simp only [cadence, Nat.add_mod_right]

/-- Moving five frames on by one drops a frame and takes one of the same phase. -/
theorem cadence_five_frames (r : RateCode) (f : Nat) :
    cadence r f + cadence r (f + 1) + cadence r (f + 2) + cadence r (f + 3) + cadence r (f + 4) =
      cadence r 0 + cadence r 1 + cadence r 2 + cadence r 3 + cadence r 4 := by
  induction f with
  | zero => rfl
  | succ f ih =>
    have hphase : cadence r (f + 5) = cadence r f := cadence_periodic r f
    rw [← ih, ← hphase]
    ac_rfl

/-- Settles O34, by the five phases and by the five frames from number 0. -/
theorem cadenceTable : Obligations.CadenceTable := by
  refine ⟨fun r f => ?_, fun r f => ?_⟩
  · have hphase : f % 5 < 5 := Nat.mod_lt f (by decide)
    rw [← (cadence_periodic r).map_mod_nat f]
    generalize f % 5 = phase at hphase ⊢
    interval_cases phase <;> cases r <;> rfl
  · rw [cadence_five_frames]
    cases r <;> rfl

end Sys2Proof.Machine
end

section
/-! PROOF. Record triggers ignored and refused (R95): what the two actions and a rising edge of REC do in the states
that take no trigger, and the statement assembled from them. -/

namespace Sys2Proof.Machine

/-- The recorder takes no record trigger (R95). -/
def Recorder.ignoresTriggers (r : Recorder) : Prop :=
  r.state = .starting ∨ r.state = .stopping ∨ (r.state = .recording ∧ r.pendingStop.isSome = true)

/-! ### The triggers in each record state -/

/-- A trigger ignored is counted whichever way it comes (R95). -/
theorem State.triggers_of_ignoring {s : State} (h : s.recorder.ignoresTriggers) :
    s.recStart = (s.ignoreTrigger, .refusedState) ∧ s.recStop = (s.ignoreTrigger, .refusedState) ∧
    s.recEdge = s.ignoreTrigger := by
  rcases h with hstarting | hstopping | ⟨hrecording, hpending⟩
  · simp only [State.recStart, State.recStop, State.recEdge, hstarting, and_self]
  · simp only [State.recStart, State.recStop, State.recEdge, hstopping, and_self]
  · simp only [State.recStart, State.recStop, State.recEdge, hrecording, hpending, if_true, and_self]

/-- REC_START while the recording goes on is refused without a count (R95). -/
theorem State.recStart_of_recording {s : State} (h : s.recorder.state = .recording)
    (hp : s.recorder.pendingStop = none) : s.recStart = (s, .refusedState) := by
  simp only [State.recStart, h, hp, Option.isSome_none, Bool.false_eq_true, if_false]

/-- REC_STOP with no recording is refused without a count (R95). -/
theorem State.recStop_of_rest {s : State} (h : s.recorder.state = .idle ∨ s.recorder.state = .standby) :
    s.recStop = (s, .refusedState) := by
  rcases h with hidle | hstandby
  · simp only [State.recStop, hidle]
  · simp only [State.recStop, hstandby]

/-! ### The actions allowed -/

/-- A packet taken leaves the recorder and the slots to its owner. -/
theorem State.taken_recording (s : State) (k : InKind) (seq : Byte) (n : Nat) :
    (s.taken k seq n).recorder = s.recorder ∧ (s.taken k seq n).slotA = s.slotA ∧
    (s.taken k seq n).slotB = s.slotB := by
  simp [State.taken]

theorem exec_recStart_of_takes {s : State} {seq : Byte} {src : Source} {n : Nat} (tag : Byte)
    (h : s.takesCommand seq src [128, 129] n = true) :
    exec (.recStart seq src tag) s =
      .next ((s.taken .command seq n).recStart.1.reply tag (s.taken .command seq n).recStart.2 []) :=
  congrArg Host.Outcome.next (State.action_of_takes h)

theorem exec_recStop_of_takes {s : State} {seq : Byte} {src : Source} {n : Nat} (tag : Byte)
    (h : s.takesCommand seq src [136] n = true) :
    exec (.recStop seq src tag) s =
      .next ((s.taken .command seq n).recStop.1.reply tag (s.taken .command seq n).recStop.2 []) :=
  congrArg Host.Outcome.next (State.action_of_takes h)

/-! ### The REC button of a PANEL -/

/-- A mark placed changes the lists of the parts, and nothing else of the recorder (R100). -/
theorem State.placeMark_recorder (s : State) (k : MarkKind) :
    (s.placeMark k).1.recorder = { s.recorder with parts := (s.placeMark k).1.recorder.parts } := by
  unfold State.placeMark
  split
  · rfl
  · split <;> rfl

/-- A rising edge of REC that is ignored: it is counted, and beside the kept levels only a MARK edge of the same
PANEL may touch the recorder, in the lists of the parts. -/
theorem State.panelRecord_of_ignoring {s : State} (h : s.recorder.ignoresTriggers)
    (hb : s.recorder.recButton = .released) (mark : Bool) :
    (s.panelRecord true mark).recorder =
      { s.recorder with
        recButton := .pressed, markButton := levelOf mark
        triggerIgnored := sat16 (s.recorder.triggerIgnored + 1)
        parts := (s.panelRecord true mark).recorder.parts } ∧
    (s.panelRecord true mark).slotA = s.slotA ∧ (s.panelRecord true mark).slotB = s.slotB := by
  let u : State := { s with recorder := { s.recorder with recButton := .pressed, markButton := levelOf mark } }
  have hedge : risingEdge s.recorder.recButton true = true := (risingEdge_iff ..).mpr ⟨hb, rfl⟩
  obtain ⟨-, -, hcounted⟩ : _ ∧ _ ∧ u.recEdge = u.ignoreTrigger := State.triggers_of_ignoring h
  have hpanel : s.panelRecord true mark =
      if risingEdge s.recorder.markButton mark = true then (u.ignoreTrigger.placeMark .shot).1
      else u.ignoreTrigger := by
    rw [← hcounted]
    simp only [State.panelRecord, hedge, if_true]
    rfl
  rw [hpanel]
  split
  · exact ⟨u.ignoreTrigger.placeMark_recorder .shot, by simp [u], by simp [u]⟩
  · exact ⟨rfl, rfl, rfl⟩

/-- An ignored edge of REC at a PANEL: the zoom drive and the stabiliser, served before, leave the recorder and the
slots as they were. -/
theorem State.takePanel_of_ignoring {s : State} (h : s.recorder.ignoresTriggers)
    (hb : s.recorder.recButton = .released) (d : Int) {buttons : Byte} (hrec : buttons.getLsbD 0 = true) :
    (s.takePanel d buttons).recorder =
      { s.recorder with
        recButton := .pressed, markButton := levelOf (buttons.getLsbD 1)
        triggerIgnored := sat16 (s.recorder.triggerIgnored + 1)
        parts := (s.takePanel d buttons).recorder.parts } ∧
    (s.takePanel d buttons).slotA = s.slotA ∧ (s.takePanel d buttons).slotB = s.slotB := by
  let v := (s.panelZoom d (buttons.getLsbD 3) (buttons.getLsbD 4)).panelStab (buttons.getLsbD 2)
  obtain ⟨hv, hA, hB⟩ : v.recorder = s.recorder ∧ v.slotA = s.slotA ∧ v.slotB = s.slotB := by simp [v]
  have ht : s.takePanel d buttons = v.panelRecord true (buttons.getLsbD 1) := by rw [State.takePanel, hrec]
  rw [ht, ← hA, ← hB, ← hv]
  exact State.panelRecord_of_ignoring (hv ▸ h) (hv ▸ hb) _

/-! ### The statement -/

/-- Settles O40, by the record states for the actions and by the PANEL's owners in turn for the button. -/
theorem triggersIgnored : Obligations.TriggersIgnored := by
  intro s ignoring counted
  constructor
  · intro seq src tag n u refused
    have hu : u.recorder = s.recorder := (s.taken_recording .command seq n).1
    refine ⟨fun h => ?recStart, fun h => ?recStop⟩
    case recStart =>
      rw [exec_recStart_of_takes tag h]
      refine ⟨fun hi => ?_, fun hs hp => ?_⟩
      · obtain ⟨hrecStart, -, -⟩ := State.triggers_of_ignoring (s := u) (hu ▸ hi)
        rw [hrecStart, State.reply_eq]
        rfl
      · rw [State.recStart_of_recording (hu ▸ hs) (hu ▸ hp), State.reply_eq]
        rfl
    case recStop =>
      rw [exec_recStop_of_takes tag h]
      refine ⟨fun hi => ?_, fun hs => ?_⟩
      · obtain ⟨-, hrecStop, -⟩ := State.triggers_of_ignoring (s := u) (hu ▸ hi)
        rw [hrecStop, State.reply_eq]
        rfl
      · rw [State.recStop_of_rest (hu ▸ hs), State.reply_eq]
        rfl
  · intro seq rocker buttons n h hi hb hrec
    let u := s.taken .panel seq n
    obtain ⟨hu, hA, hB⟩ : u.recorder = s.recorder ∧ u.slotA = s.slotA ∧ u.slotB = s.slotB := s.taken_recording ..
    have hi' : u.recorder.ignoresTriggers := hu ▸ hi
    obtain ⟨hrecorder, hslotA, hslotB⟩ := State.takePanel_of_ignoring hi' (hu ▸ hb) rocker.toInt hrec
    refine ⟨_, exec_panel_of_takes rocker buttons h, ?_⟩
    rw [hrecorder]
    exact ⟨rfl, rfl, rfl, rfl, rfl, hslotA.trans hA, hslotB.trans hB⟩

end Sys2Proof.Machine
end

section
/-! PROOF. The end of a MOUNT and CLEAR_HOLD (R106, R108, R110, R124): the next state of each operation on the slot,
and the statement assembled from them. -/

namespace Sys2Proof.Machine

/-! ### The operations on one slot -/

/-- A change of slot state is the slot's new state and one packet at the body link (R107). -/
theorem State.slotTo_eq (s : State) (x : SlotId) (st : SlotState) (r : SlotReason) :
    s.slotTo x st r =
      { s with body := s.body.hand (.notice (.slot x st r)) }.setSlot x { s.slot x with state := st } := by
  rw [State.slotTo, State.notify_eq]
  cases x <;> rfl

/-- A slot changed and then moved to another state is written once, beside the packet (R107). -/
theorem State.slotTo_modifySlot (s : State) (x : SlotId) (f : Slot → Slot) (st : SlotState) (r : SlotReason) :
    (s.modifySlot x f).slotTo x st r =
      { s with body := s.body.hand (.notice (.slot x st r)) }.setSlot x { f (s.slot x) with state := st } := by
  rw [State.slotTo_eq, State.slot_modifySlot]
  cases x <;> rfl

/-- MOUNT completed OK: the free blocks, and READY from 288 of them up (R110). -/
theorem State.mountOk_eq (s : State) (x : SlotId) (free : Nat) :
    s.mountOk x free =
      let st : SlotState := if 288 ≤ free then .ready else .full
      { s with body := s.body.hand (.notice (.slot x st .mounted)) }.setSlot x
        { (s.slot x).endRequest with free := free, state := st } := by
  rw [State.mountOk, State.slotTo_modifySlot, State.slot_modifySlot]
  rfl

/-- MOUNT failed: EMPTY with hold and MEDIA_ERROR (R108, R124). -/
theorem State.mountError_eq (s : State) (x : SlotId) :
    s.mountError x =
      { s with body := s.body.hand (.notice (.slot x .empty .mountFailed)) }.setSlot x
        { (s.slot x).endRequest with state := .empty, free := 0, hold := true, mediaError := true } :=
  s.slotTo_modifySlot ..

/-- MOUNT issued on a slot changed before: the request and its timer, MOUNTING and the notice (R106, R109). -/
theorem State.startMount_modifySlot (s : State) (x : SlotId) (f : Slot → Slot) (r : SlotReason) :
    (s.modifySlot x f).startMount x r =
      let c := f (s.slot x)
      { s with
        out := s.out ++ [Emission.slotRequest x (c.requestNumber + 1) .mount]
        body := s.body.hand (.notice (.slot x .mounting r)) }.setSlot x
        { c with
          state := .mounting, requestNumber := c.requestNumber + 1
          request := some ⟨.mount, c.requestNumber + 1⟩, mountTimer := .running 5000 } := by
  rw [State.startMount, State.slotTo_eq]
  cases x <;> rfl

/-- CLEAR_HOLD of a slot clears the flag, and mounts a card in an EMPTY slot again (R108). -/
theorem State.clearHold_code (s : State) (x : SlotId) :
    s.clearHold x.code =
      (if (s.slot x).state = .empty ∧ (s.slot x).cardPresent = true then
        (s.modifySlot x fun c => { c with hold := false }).startMount x .remount
      else s.modifySlot x fun c => { c with hold := false }, .ok) := by
  cases x <;> rfl

theorem State.clearHold_of_no_slot (s : State) {n : Nat} (h : 2 ≤ n) : s.clearHold n = (s, .badCommand) := by
  obtain ⟨m, rfl⟩ := Nat.exists_eq_add_of_le' h
  rfl

theorem touchesHold_code (x : SlotId) : touchesHold x.code = [166 + x.code] := by
  cases x <;> rfl

theorem touchesHold_of_no_slot {n : Nat} (h : 2 ≤ n) : touchesHold n = [] := by
  obtain ⟨m, rfl⟩ := Nat.exists_eq_add_of_le' h
  rfl

/-! ### The commands -/

theorem State.slot_begin (s : State) (x : SlotId) : s.begin.slot x = s.slot x := by
  cases x <;> rfl

/-- A packet taken leaves each slot to its owner, and nothing on the ports. -/
theorem State.taken_slot (s : State) (k : InKind) (seq : Byte) (n : Nat) (x : SlotId) :
    (s.taken k seq n).slot x = s.slot x ∧ (s.taken k seq n).out = [] := by
  cases x <;> simp [State.taken]

/-- A completion that answers the outstanding request is taken (R105). -/
theorem State.complete_of_request {s : State} {x : SlotId} {kind : RequestKind} {number : Byte}
    (hr : s.inReset = false) (h : (s.slot x).request = some ⟨kind, number⟩) (act : State → State) :
    s.begin.complete x kind number act = act s.begin := by
  have hmatches : (s.slot x).matchesRequest kind number = true := by simp [Slot.matchesRequest, h]
  have hreset : s.begin.inReset = false := hr
  simp only [State.complete, State.unlessReset, hreset, State.slot_begin, hmatches, Bool.false_eq_true, if_false,
    if_true]

theorem exec_mountCompletion_of_request {s : State} {x : SlotId} {number : Byte} (hr : s.inReset = false)
    (h : (s.slot x).request = some ⟨.mount, number⟩) (ok : Bool) (free : BitVec 32) :
    exec (.mountCompletion x number ok free) s =
      .next (if ok then s.begin.mountOk x free.toNat else s.begin.mountError x) :=
  congrArg Host.Outcome.next (State.complete_of_request hr h _)

theorem exec_mountTimeout_of_running {s : State} {x : SlotId} {ms : Nat} (h : (s.slot x).mountTimer = .running ms) :
    exec (.mountTimeout x) s = .next (s.begin.mountError x) := by
  have hruns : (s.slot x).mountTimer.isRunning = true := by rw [h]; rfl
  exact congrArg Host.Outcome.next (if_pos hruns)

theorem exec_clearHold_of_takes {s : State} {seq slot : Byte} {src : Source} {n : Nat} (tag : Byte)
    (h : s.takesCommand seq src (touchesHold slot.toNat) n = true) :
    exec (.clearHold seq src tag slot) s =
      .next (((s.taken .command seq n).clearHold slot.toNat).1.reply tag
        ((s.taken .command seq n).clearHold slot.toNat).2 []) :=
  congrArg Host.Outcome.next (State.action_of_takes h)

/-! ### The statement -/

/-- Settles O42, by the next states of the two ends of a MOUNT and by the slot argument of CLEAR_HOLD. -/
theorem mountsAndHolds : Obligations.MountsAndHolds := by
  intro s x c ended failed
  have hended : (s.begin.slot x).endRequest = ended := congrArg Slot.endRequest (s.slot_begin x)
  have hfailed : s.begin.mountError x = failed := by
    rw [State.mountError_eq, hended]
    rfl
  refine ⟨fun number free hr hreq => ⟨?ok, ?error⟩, fun ms hms => ?timeout, fun seq src tag slot n => ?clearHold⟩
  case ok =>
    rw [exec_mountCompletion_of_request hr hreq, if_pos rfl, State.mountOk_eq, hended]
    rfl
  case error =>
    rw [exec_mountCompletion_of_request hr hreq, if_neg Bool.false_ne_true, hfailed]
  case timeout =>
    rw [exec_mountTimeout_of_running hms, hfailed]
  case clearHold =>
    intro u
    obtain ⟨hslot, hout⟩ : u.slot x = c ∧ u.out = [] := s.taken_slot ..
    refine ⟨fun hx h => ?_, fun hno h => ?_⟩
    · rw [hx, ← touchesHold_code, ← hx] at h
      rw [exec_clearHold_of_takes tag h, hx, State.clearHold_code, hslot]
      congr 1
      split
      · rw [State.startMount_modifySlot, hslot, hout, State.reply_eq]
        cases x <;> rfl
      · rw [State.modifySlot, hslot, State.reply_eq]
        cases x <;> rfl
    · rw [← touchesHold_of_no_slot hno] at h
      rw [exec_clearHold_of_takes tag h, State.clearHold_of_no_slot _ hno, State.reply_eq]
      rfl

end Sys2Proof.Machine
end

section
/-! PROOF. CHECK_CYCLE counts (R155, R156): the groups as supervision keeps them, the check of one group and of the
groups due, and the statement assembled from them. -/

namespace Sys2Proof.Machine

/-! ### Groups by number -/

theorem Group.mem_all (g : Group) : g ∈ Group.all := by
  cases g <;> decide

theorem Group.all_nodup : Group.all.Nodup := by
  decide

theorem Group.all_getElem? (g : Group) : Group.all[g.number]? = some g := by
  cases g <;> rfl

theorem Group.number_lt (g : Group) : g.number < 12 := by
  cases g <;> decide

theorem Group.number_inj {g h : Group} : g.number = h.number ↔ g = h := by
  refine ⟨fun hn => ?_, fun hg => hg ▸ rfl⟩
  have hget := g.all_getElem?
  rw [hn, h.all_getElem?] at hget
  exact (Option.some.inj hget).symm

/-- A group has one present indicator for each detail (R151). -/
theorem State.present_length (s : State) (g : Group) : (s.present g).length = g.details := by
  cases g <;> rfl

/-! ### What supervision keeps of a group -/

/-- A group as `State.supSound` has it: a counter and a flag for each detail, the counters at most 8, the summary
following the flags. -/
structure GroupState.Sound (g : Group) (x : GroupState) : Prop where
  counters : x.counters.length = g.details
  flags : x.flags.length = g.details
  bound : ∀ c ∈ x.counters, c ≤ 8
  summary : x.summary = true ↔ true ∈ x.flags

/-- Supervision as `State.supSound` has it, by its own fields. -/
structure Supervision.Sound (v : Supervision) : Prop where
  groups : v.groups.length = 12
  group : ∀ g, (v.group g).Sound g
  attention : v.attention = true ↔ ∃ g, (v.group g).summary = true ∧ (v.entry g).notify.hasLine = true

theorem State.supSound_iff (s : State) : s.supSound ↔ s.sup.Sound := by
  refine ⟨fun ⟨hlen, hgroups, hline⟩ => ⟨hlen, fun g => ?_, hline⟩, fun h => ⟨h.groups, fun g => ?_, h.attention⟩⟩
  · obtain ⟨hcounters, hflags, hbound, hsummary⟩ := hgroups g
    exact ⟨hcounters, hflags, hbound, hsummary⟩
  · obtain ⟨hcounters, hflags, hbound, hsummary⟩ := h.group g
    exact ⟨hcounters, hflags, hbound, hsummary⟩

theorem Supervision.group_setGroup {v : Supervision} (h12 : v.groups.length = 12) (g h : Group) (x : GroupState) :
    (v.setGroup g x).group h = if h = g then x else v.group h := by
  have hlt : g.number < v.groups.length := h12 ▸ g.number_lt
  simp only [Supervision.group, Supervision.setGroup, List.getD_eq_getElem?_getD, List.getElem?_set]
  by_cases hg : h = g
  · simp [hg, hlt]
  · have hn : ¬g.number = h.number := fun hn => hg (Group.number_inj.mp hn).symm
    simp [hg, hn]

/-- The line judged is asserted exactly while a flagged group notifies by line (R161). -/
theorem Supervision.judgeAttention_iff (v : Supervision) :
    v.judgeAttention.attention = true ↔
      ∃ g, (v.group g).summary = true ∧ (v.entry g).notify.hasLine = true := by
  simp [Supervision.judgeAttention, Group.mem_all]

/-! ### The check of a group (R156 to R158) -/

theorem GroupState.check_counters {g : Group} {x : GroupState} (hx : x.Sound g) (e : FaultEntry) {ps : List Bool}
    (hps : ps.length = g.details) {d : Nat} (hd : d < g.details) :
    (x.check e ps).counters[d]? =
      if ps[d]? = some true then (x.counters[d]?).map (fun c => min 8 (c + 1)) else some 0 := by
  have hp : d < ps.length := hps ▸ hd
  have hc : d < x.counters.length := hx.counters ▸ hd
  simp only [GroupState.check, List.getElem?_zipWith, List.getElem?_eq_getElem hp, List.getElem?_eq_getElem hc]
  cases ps[d] <;> simp [countDetail]

theorem GroupState.check_flags {g : Group} {x : GroupState} (hx : x.Sound g) (e : FaultEntry) {ps : List Bool}
    (hps : ps.length = g.details) {d : Nat} (hd : d < g.details) :
    (x.check e ps).flags[d]? =
      if ps[d]? = some true ∧ (e.countBypass = true ∨ ∃ c ∈ (x.check e ps).counters[d]?, e.nr < c) then some true
      else x.flags[d]? := by
  have hp : d < ps.length := hps ▸ hd
  have hc : d < x.counters.length := hx.counters ▸ hd
  have hf : d < x.flags.length := hx.flags ▸ hd
  simp only [GroupState.check, List.getElem?_zipWith, List.zip, List.getElem?_eq_getElem hp,
    List.getElem?_eq_getElem hc, List.getElem?_eq_getElem hf]
  cases ps[d] with
  | false => simp [flagDetail]
  | true =>
    cases hbypass : e.countBypass with
    | true => simp [flagDetail, hbypass]
    | false =>
      by_cases hcount : e.nr < countDetail true x.counters[d] <;> simp [flagDetail, hbypass, hcount]

theorem GroupState.check_sound {g : Group} {x : GroupState} (hx : x.Sound g) (e : FaultEntry) {ps : List Bool}
    (hps : ps.length = g.details) : (x.check e ps).Sound g where
  counters := by simp [GroupState.check, hps, hx.counters]
  flags := by simp [GroupState.check, hps, hx.counters, hx.flags]
  bound c hc := by
    obtain ⟨d, hd⟩ := List.getElem?_of_mem hc
    simp only [GroupState.check, List.getElem?_zipWith] at hd
    split at hd
    · cases hd
      simp only [countDetail]
      split <;> omega
    · cases hd
  summary := by simp [GroupState.check]

/-- A flag once set stands, and so does the summary over the flags (R157, R158). -/
theorem GroupState.check_summary {g : Group} {x : GroupState} (hx : x.Sound g) (e : FaultEntry) {ps : List Bool}
    (hps : ps.length = g.details) (hset : x.summary = true) : (x.check e ps).summary = true := by
  rw [(GroupState.check_sound hx e hps).summary]
  obtain ⟨d, hd⟩ := List.getElem?_of_mem (hx.summary.mp hset)
  have hlt : d < g.details := hx.flags ▸ (List.getElem?_eq_some_iff.mp hd).1
  apply List.mem_of_getElem? (i := d)
  rw [GroupState.check_flags hx e hps hlt, hd, ite_self]

/-! ### Supervision at the check of a group -/

/-- A check of the group on these indicators makes its summary rise (R158). -/
def Supervision.rises (v : Supervision) (g : Group) (ps : List Bool) : Bool :=
  !(v.group g).summary && ((v.group g).check (v.entry g) ps).summary

/-- Supervision after a check of the group: counted and flagged, a rising counted, the line judged. -/
def Supervision.checked (v : Supervision) (g : Group) (ps : List Bool) : Supervision :=
  let w := v.setGroup g ((v.group g).check (v.entry g) ps)
  if v.rises g ps = true then { w with risings := sat16 (w.risings + 1) }.judgeAttention else w

theorem State.checkGroup_of_rises {s : State} {g : Group} {ps : List Bool} (h : s.sup.rises g ps = true) :
    s.checkGroup g ps =
      ({ { s with sup := s.sup.setGroup g ((s.sup.group g).check (s.sup.entry g) ps) }.runActions g
          (s.sup.entry g).actions with sup := s.sup.checked g ps }).faultNotices g
        (newlySet (s.sup.group g).flags ((s.sup.group g).check (s.sup.entry g) ps).flags) := by
  have hrise : (!(s.sup.group g).summary && ((s.sup.group g).check (s.sup.entry g) ps).summary) = true := h
  simp only [State.checkGroup, hrise, if_true, State.rise, State.runActions_keeps, Supervision.checked, h]
  rfl

theorem State.checkGroup_of_not_rises {s : State} {g : Group} {ps : List Bool} (h : ¬s.sup.rises g ps = true) :
    s.checkGroup g ps =
      ({ s with sup := s.sup.checked g ps }).faultNotices g
        (newlySet (s.sup.group g).flags ((s.sup.group g).check (s.sup.entry g) ps).flags) := by
  have hrise : ¬(!(s.sup.group g).summary && ((s.sup.group g).check (s.sup.entry g) ps).summary) = true := h
  simp only [State.checkGroup, if_neg hrise, Supervision.checked, if_neg h]

theorem State.checkGroup_sup (s : State) (g : Group) (ps : List Bool) :
    (s.checkGroup g ps).sup = s.sup.checked g ps := by
  by_cases h : s.sup.rises g ps = true
  · rw [State.checkGroup_of_rises h]; simp
  · rw [State.checkGroup_of_not_rises h]; simp

theorem Supervision.checked_keeps (v : Supervision) (g : Group) (ps : List Bool) :
    (v.checked g ps).table = v.table ∧ (v.checked g ps).timer = v.timer ∧ (v.checked g ps).cycle = v.cycle ∧
    (v.checked g ps).groups.length = v.groups.length := by
  simp only [Supervision.checked]
  split <;> simp [Supervision.judgeAttention, Supervision.setGroup]

theorem Supervision.checked_entry (v : Supervision) (g : Group) (ps : List Bool) :
    (v.checked g ps).entry = v.entry := by
  funext h
  simp only [Supervision.entry, (v.checked_keeps g ps).1]

theorem Supervision.checked_group {v : Supervision} (h12 : v.groups.length = 12) (g h : Group) (ps : List Bool) :
    (v.checked g ps).group h = if h = g then (v.group g).check (v.entry g) ps else v.group h := by
  rw [← Supervision.group_setGroup h12]
  simp only [Supervision.checked]
  split <;> rfl

/-! ### Supervision at the checks of a cycle (R155) -/

/-- Supervision after checks of groups, one after another, each on its own indicators. -/
def Supervision.checkedAll (v : Supervision) (gs : List Group) (ps : Group → List Bool) : Supervision :=
  gs.foldl (fun v g => v.checked g (ps g)) v

/-- The state after checks of groups, one after another, each on its own indicators. -/
def State.checkAll (s : State) (gs : List Group) (ps : Group → List Bool) : State :=
  gs.foldl (fun s g => s.checkGroup g (ps g)) s

theorem State.checkAll_sup (s : State) (gs : List Group) (ps : Group → List Bool) :
    (s.checkAll gs ps).sup = s.sup.checkedAll gs ps := by
  induction gs generalizing s with
  | nil => rfl
  | cons g gs ih =>
    have hcons := ih (s.checkGroup g (ps g))
    rw [State.checkGroup_sup] at hcons
    exact hcons

theorem Supervision.checkedAll_keeps (v : Supervision) (gs : List Group) (ps : Group → List Bool) :
    (v.checkedAll gs ps).table = v.table ∧ (v.checkedAll gs ps).timer = v.timer ∧
    (v.checkedAll gs ps).cycle = v.cycle ∧ (v.checkedAll gs ps).groups.length = v.groups.length := by
  induction gs generalizing v with
  | nil => exact ⟨rfl, rfl, rfl, rfl⟩
  | cons g gs ih =>
    obtain ⟨htable, htimer, hcycle, hlen⟩ := ih (v.checked g (ps g))
    obtain ⟨htable', htimer', hcycle', hlen'⟩ := v.checked_keeps g (ps g)
    exact ⟨htable.trans htable', htimer.trans htimer', hcycle.trans hcycle', hlen.trans hlen'⟩

/-- Each group checked once is checked as it stood before the checks; no other group changes. -/
theorem Supervision.checkedAll_group {v : Supervision} (h12 : v.groups.length = 12) {gs : List Group}
    (hnodup : gs.Nodup) (ps : Group → List Bool) (h : Group) :
    (v.checkedAll gs ps).group h =
      if h ∈ gs then (v.group h).check (v.entry h) (ps h) else v.group h := by
  induction gs generalizing v with
  | nil => simp [Supervision.checkedAll]
  | cons g gs ih =>
    obtain ⟨hg, hgs⟩ := List.nodup_cons.mp hnodup
    have hlen : (v.checked g (ps g)).groups.length = 12 := (v.checked_keeps g (ps g)).2.2.2.trans h12
    have hcons : v.checkedAll (g :: gs) ps = (v.checked g (ps g)).checkedAll gs ps := rfl
    rw [hcons, ih hlen hgs, Supervision.checked_group h12, Supervision.checked_entry]
    by_cases hhg : h = g
    · simp [hhg, hg]
    · simp [hhg]

/-! ### The check cycle (R155) -/

/-- The groups due at the cycle that a check advances to, in number order. -/
def Supervision.dueGroups (v : Supervision) : List Group :=
  Group.all.filter (fun g => decide ((v.cycle + 1) % 840 % ((v.entry g).checkDiv + 1) = 0))

theorem Supervision.mem_dueGroups {v : Supervision} {g : Group} :
    g ∈ v.dueGroups ↔ (v.cycle + 1) % 840 % ((v.entry g).checkDiv + 1) = 0 := by
  simp [Supervision.dueGroups, Group.mem_all]

theorem Supervision.dueGroups_nodup (v : Supervision) : v.dueGroups.Nodup :=
  Group.all_nodup.filter _

/-- The state whose groups a check cycle checks: the count advanced, the timer restarted, nothing on the ports. -/
def State.cycleBegun (s : State) : State :=
  { s.begin with sup := { s.sup with cycle := (s.sup.cycle + 1) % 840, timer := .running s.items.supPeriod } }

/-- Where a check cycle leaves the part: the groups due checked, then their one-check indicators cleared (R152). -/
def State.cycleEnded (s : State) : State :=
  s.sup.dueGroups.foldl State.clearSampled (s.cycleBegun.checkAll s.sup.dueGroups s.present)

theorem State.present_cycleBegun (s : State) (g : Group) : s.cycleBegun.present g = s.present g := by
  cases g <;> rfl

theorem exec_checkCycle_of_running {s : State} {ms : Nat} (h : s.sup.timer = .running ms) :
    exec .checkCycle s = .next s.cycleEnded := by
  have hcycle : s.begin.checkCycle = s.cycleEnded := by
    simp only [State.checkCycle, List.foldl_map]
    have hpresent : s.cycleBegun.present = s.present := funext s.present_cycleBegun
    rw [State.cycleEnded, ← hpresent]
    rfl
  change Host.Outcome.next (s.begin.expire s.sup.timer State.checkCycle) = _
  rw [h, ← hcycle]
  rfl

theorem State.cycleEnded_sup (s : State) :
    s.cycleEnded.sup = s.cycleBegun.sup.checkedAll s.sup.dueGroups s.present := by
  rw [State.cycleEnded, (State.clearAllSampled_keeps _ _).2.2.2.2.1, State.checkAll_sup]

theorem State.cycleEnded_group {s : State} (hs : s.supSound) (g : Group) :
    s.cycleEnded.sup.group g =
      if (s.sup.cycle + 1) % 840 % ((s.sup.entry g).checkDiv + 1) = 0 then
        (s.sup.group g).check (s.sup.entry g) (s.present g)
      else s.sup.group g := by
  have h12 : s.cycleBegun.sup.groups.length = 12 := hs.1
  rw [State.cycleEnded_sup, Supervision.checkedAll_group h12 s.sup.dueGroups_nodup]
  simp only [Supervision.mem_dueGroups]
  rfl

/-- Settles O49, by the check of the groups due. -/
theorem checkCounts : Obligations.CheckCounts := by
  intro s ms hrun hs
  obtain ⟨-, htimer, hcycle, -⟩ := s.cycleBegun.sup.checkedAll_keeps s.sup.dueGroups s.present
  refine ⟨_, exec_checkCycle_of_running hrun, ?_, ?_, fun g d hd => ?_⟩
  · rw [State.cycleEnded_sup]; exact hcycle
  · rw [State.cycleEnded_sup]; exact htimer
  · rw [State.cycleEnded_group hs]
    split
    · exact GroupState.check_counters ((s.supSound_iff.mp hs).group g) _ (s.present_length g) hd
    · rfl

end Sys2Proof.Machine
end

section
/-! PROOF. CLEAR_FAULT (R158, R161, R162): a fold over groups of which some act, the details cleared, the releases of
the zoom drive, and the statement assembled from them. -/

namespace Sys2Proof.Machine

/-! ### A fold whose steps act where they are triggered -/

/-- What a fold makes of a part of the state, where a step acts on it only when triggered and leaves the triggers of
the steps to come as they were: the acts of the steps triggered at its begin, in order. -/
theorem foldl_of_triggers {α ι β : Type} {keeps : α → Prop} {step : α → ι → α} {trigger : α → ι → Bool} {part : α → β}
    {act : β → ι → β} (hkeeps : ∀ a i, keeps a → keeps (step a i))
    (hother : ∀ a i j, keeps a → j ≠ i → trigger (step a i) j = trigger a j)
    (hstep : ∀ a i, keeps a → part (step a i) = if trigger a i = true then act (part a) i else part a)
    {is : List ι} (hnodup : is.Nodup) {a : α} (ha : keeps a) :
    part (is.foldl step a) = (is.filter (trigger a)).foldl act (part a) := by
  induction is generalizing a with
  | nil => rfl
  | cons i is ih =>
    obtain ⟨hi, his⟩ := List.nodup_cons.mp hnodup
    have htriggers : is.filter (trigger (step a i)) = is.filter (trigger a) :=
      List.filter_congr fun j hj => hother a i j ha fun hji => hi (hji ▸ hj)
    rw [List.foldl_cons, ih his (hkeeps a i ha), htriggers, hstep a i ha]
    by_cases ht : trigger a i = true
    · rw [List.filter_cons_of_pos ht, List.foldl_cons, if_pos ht]
    · rw [List.filter_cons_of_neg ht, if_neg ht]

/-! ### Details cleared -/

theorem replaceWhere_getElem? {α : Type} (which : Nat → Bool) (a : α) (xs : List α) (i : Nat) :
    (replaceWhere which a xs)[i]? = xs[i]?.map (fun x => if which i = true then a else x) := by
  simp [replaceWhere, List.getElem?_mapIdx]

theorem GroupState.clear_detail {g : Group} {x : GroupState} (hx : x.Sound g) (which : Nat → Bool) {d : Nat}
    (hd : d < g.details) :
    (which d = true → (x.clear which).flags[d]? = some false ∧ (x.clear which).counters[d]? = some 0) ∧
    (¬which d = true →
      (x.clear which).flags[d]? = x.flags[d]? ∧ (x.clear which).counters[d]? = x.counters[d]?) := by
  have hc : d < x.counters.length := hx.counters ▸ hd
  have hf : d < x.flags.length := hx.flags ▸ hd
  simp only [GroupState.clear, replaceWhere_getElem?, List.getElem?_eq_getElem hf, List.getElem?_eq_getElem hc]
  refine ⟨fun h => ?_, fun h => ?_⟩ <;> simp [h]

theorem GroupState.clear_sound {g : Group} {x : GroupState} (hx : x.Sound g) (which : Nat → Bool) :
    (x.clear which).Sound g where
  counters := by simp [GroupState.clear, replaceWhere, hx.counters]
  flags := by simp [GroupState.clear, replaceWhere, hx.flags]
  bound c hc := by
    obtain ⟨d, hd⟩ := List.getElem?_of_mem hc
    simp only [GroupState.clear, replaceWhere_getElem?, Option.map_eq_some_iff] at hd
    obtain ⟨k, hk, rfl⟩ := hd
    have hbound := hx.bound k (List.mem_of_getElem? hk)
    split <;> omega
  summary := by simp [GroupState.clear]

/-- Clearing sets no flag, so it lets no summary rise (R162). -/
theorem GroupState.clear_summary {g : Group} {x : GroupState} (hx : x.Sound g) (which : Nat → Bool)
    (h : (x.clear which).summary = true) : x.summary = true := by
  obtain ⟨d, hd⟩ := List.getElem?_of_mem ((GroupState.clear_sound hx which).summary.mp h)
  simp only [GroupState.clear, replaceWhere_getElem?, Option.map_eq_some_iff] at hd
  obtain ⟨f, hf, htrue⟩ := hd
  have hset : f = true := by
    split at htrue
    · cases htrue
    · exact htrue
  exact hx.summary.mpr (hset ▸ List.mem_of_getElem? hf)

/-! ### Supervision at the clearing of a group -/

/-- Clearing these details makes the group's summary fall (R158). -/
def Supervision.falls (v : Supervision) (which : Nat → Bool) (g : Group) : Bool :=
  (v.group g).summary && !((v.group g).clear which).summary

/-- Supervision after the clearing of details of a group, the line judged at a fall. -/
def Supervision.cleared (v : Supervision) (which : Nat → Bool) (g : Group) : Supervision :=
  let w := v.setGroup g ((v.group g).clear which)
  if v.falls which g = true then w.judgeAttention else w

theorem Supervision.cleared_keeps (v : Supervision) (which : Nat → Bool) (g : Group) :
    (v.cleared which g).table = v.table ∧ (v.cleared which g).timer = v.timer ∧
    (v.cleared which g).cycle = v.cycle ∧ (v.cleared which g).risings = v.risings := by
  simp only [Supervision.cleared]
  split <;> exact ⟨rfl, rfl, rfl, rfl⟩

theorem Supervision.entry_of_table {v w : Supervision} (h : w.table = v.table) : w.entry = v.entry := by
  funext g
  simp only [Supervision.entry, h]

theorem Supervision.cleared_length (v : Supervision) (which : Nat → Bool) (g : Group) :
    (v.cleared which g).groups.length = v.groups.length := by
  simp only [Supervision.cleared]
  split <;> simp [Supervision.judgeAttention, Supervision.setGroup]

theorem Supervision.cleared_group {v : Supervision} (h12 : v.groups.length = 12) (which : Nat → Bool) (g h : Group) :
    (v.cleared which g).group h = if h = g then (v.group g).clear which else v.group h := by
  rw [← Supervision.group_setGroup h12]
  simp only [Supervision.cleared]
  split <;> rfl

/-- Clearing a group leaves the falls of the others as they were. -/
theorem Supervision.cleared_falls {v : Supervision} (h12 : v.groups.length = 12) (which : Nat → Bool) {g h : Group}
    (hne : h ≠ g) : (v.cleared which g).falls which h = v.falls which h := by
  simp only [Supervision.falls, Supervision.cleared_group h12, if_neg hne]

/-- The line follows the summaries that a clearing leaves: it is judged where one falls, and else none changes. -/
theorem Supervision.cleared_attention {v : Supervision} (hv : v.Sound) (which : Nat → Bool) (g : Group) :
    (v.cleared which g).attention = true ↔
      ∃ h, ((v.cleared which g).group h).summary = true ∧ ((v.cleared which g).entry h).notify.hasLine = true := by
  by_cases hfalls : v.falls which g = true
  · have hcleared : v.cleared which g = (v.setGroup g ((v.group g).clear which)).judgeAttention := if_pos hfalls
    rw [hcleared]
    exact Supervision.judgeAttention_iff _
  · have hcleared : v.cleared which g = v.setGroup g ((v.group g).clear which) := if_neg hfalls
    have hattention : (v.cleared which g).attention = v.attention := by rw [hcleared]; rfl
    have hsummary : ∀ h, ((v.cleared which g).group h).summary = (v.group h).summary := by
      intro h
      rw [Supervision.cleared_group hv.groups]
      by_cases hg : h = g
      · subst hg
        rw [if_pos rfl, Bool.eq_iff_iff]
        refine ⟨GroupState.clear_summary (hv.group h) which, fun hset => ?_⟩
        simpa [Supervision.falls, hset] using hfalls
      · rw [if_neg hg]
    rw [hattention, hv.attention, Supervision.entry_of_table (v.cleared_keeps which g).1]
    simp only [hsummary]

theorem State.clearDetails_of_falls {s : State} {which : Nat → Bool} {g : Group} (h : s.sup.falls which g = true) :
    s.clearDetails which g = { s with sup := s.sup.setGroup g ((s.sup.group g).clear which) }.fall g :=
  if_pos h

theorem State.clearDetails_of_not_falls {s : State} {which : Nat → Bool} {g : Group}
    (h : ¬s.sup.falls which g = true) :
    s.clearDetails which g = { s with sup := s.sup.setGroup g ((s.sup.group g).clear which) } :=
  if_neg h

theorem State.fall_sup (s : State) (g : Group) : (s.fall g).sup = s.sup.judgeAttention := by
  simp [State.fall]

theorem State.clearDetails_sup (s : State) (which : Nat → Bool) (g : Group) :
    (s.clearDetails which g).sup = s.sup.cleared which g := by
  by_cases h : s.sup.falls which g = true
  · rw [State.clearDetails_of_falls h, State.fall_sup, Supervision.cleared, if_pos h]
  · rw [State.clearDetails_of_not_falls h, Supervision.cleared, if_neg h]

/-! ### A fall in the zoom drive and the viewfinder (R19, R135, R158) -/

/-- The blocks that the arbiter may change, together (R21). -/
structure ArbiterPart where
  head : LinkCtl
  zoom : Zoom
  stab : Stabiliser

def State.arbiterPart (s : State) : ArbiterPart := ⟨s.head, s.zoom, s.stab⟩

/-- What the arbiter makes of its part, with the drop window to load (R21, R39). -/
def ArbiterPart.arbitrate (d : ArbiterPart) (drop : Nat) : ArbiterPart :=
  let v := d.zoom.maskSpeed d.zoom.classSpeed
  if v = d.zoom.sentSpeed then d
  else
    ⟨d.head.hand (.zoomCmd v), { d.zoom with sentSpeed := v, refresh := .running 20 },
      { d.stab with dropWindow := drop }⟩

/-- The arbiter's part with these groups claiming a stop. -/
def ArbiterPart.withStops (d : ArbiterPart) (gs : List Group) : ArbiterPart :=
  { d with zoom := { d.zoom with stopGroups := gs } }

/-- A group leaves the stop-claiming set (R19). -/
def ArbiterPart.release (drop : Nat) (d : ArbiterPart) (g : Group) : ArbiterPart :=
  (d.withStops (leaveGroup g d.zoom.stopGroups)).arbitrate drop

theorem State.arbitrate_part (s : State) :
    s.arbitrate.arbiterPart = s.arbiterPart.arbitrate s.items.stab.dropWindow := by
  rcases s.arbitrate_cases with ⟨h, ha⟩ | ⟨h, ha⟩
  · rw [ha]; exact (if_pos h).symm
  · rw [ha]; exact (if_neg h).symm

theorem State.clearDetails_arbiterPart (s : State) (which : Nat → Bool) (g : Group) :
    (s.clearDetails which g).arbiterPart =
      if s.sup.falls which g = true then s.arbiterPart.release s.items.stab.dropWindow g else s.arbiterPart := by
  split
  · rw [State.clearDetails_of_falls ‹_›]; exact State.arbitrate_part _
  · rw [State.clearDetails_of_not_falls ‹_›]; rfl

theorem State.clearDetails_vf (s : State) (which : Nat → Bool) (g : Group) :
    (s.clearDetails which g).vf =
      if s.sup.falls which g = true then { s.vf with warnGroups := leaveGroup g s.vf.warnGroups } else s.vf := by
  split
  · rw [State.clearDetails_of_falls ‹_›]; simp [State.fall]
  · rw [State.clearDetails_of_not_falls ‹_›]

/-- Clearing moves no present indicator (R162). -/
theorem State.clearDetails_present (s : State) (which : Nat → Bool) (g : Group) :
    (s.clearDetails which g).present = s.present := by
  have harbitrate : ∀ u : State, u.arbitrate.present = u.present := by
    intro u
    rcases u.arbitrate_cases with ⟨-, ha⟩ | ⟨-, ha⟩
    · rw [ha]
    · rw [ha]
      funext h
      cases h <;> simp [State.present]
  by_cases hf : s.sup.falls which g = true
  · rw [State.clearDetails_of_falls hf]
    exact (funext fun h => by cases h <;> rfl).trans ((harbitrate _).trans (funext fun h => by cases h <;> rfl))
  · rw [State.clearDetails_of_not_falls hf]
    exact funext fun h => by cases h <;> rfl

/-! ### The releases of several falls (R19, R21) -/

/-- The drive sends the masked class speed, as `State.zoomSound` has it. -/
def ArbiterPart.Sound (d : ArbiterPart) : Prop := d.zoom.sentSpeed = d.zoom.maskSpeed d.zoom.classSpeed

theorem ArbiterPart.arbitrate_sound (d : ArbiterPart) (drop : Nat) : (d.arbitrate drop).Sound := by
  simp only [ArbiterPart.arbitrate]
  split
  · exact Eq.symm ‹_›
  · rfl

theorem ArbiterPart.arbitrate_of_sound {d : ArbiterPart} (h : d.Sound) (drop : Nat) : d.arbitrate drop = d :=
  if_pos (Eq.symm h)

theorem ArbiterPart.arbitrate_stopGroups (d : ArbiterPart) (drop : Nat) :
    (d.arbitrate drop).zoom.stopGroups = d.zoom.stopGroups := by
  simp only [ArbiterPart.arbitrate]
  split <;> rfl

theorem ArbiterPart.withStops_self (d : ArbiterPart) : d.withStops d.zoom.stopGroups = d := rfl

theorem Zoom.maskSpeed_of_stop {z : Zoom} (h : z.stopClaim = true) : z.maskSpeed z.classSpeed = 0 := by
  simp [Zoom.classSpeed, Zoom.grant_of_stop h, Zoom.maskSpeed]

/-- While a group that claimed a stop still does, the drive stands and the arbiter has nothing to change. -/
theorem ArbiterPart.withStops_sound {d : ArbiterPart} (h : d.Sound) {gs : List Group} (hgs : gs ≠ [])
    (hsub : gs ⊆ d.zoom.stopGroups) : (d.withStops gs).Sound := by
  have hbefore : d.zoom.stopClaim = true :=
    (Zoom.stopClaim_iff _).mpr (.inr fun hnil => hgs (List.subset_nil.mp (hnil ▸ hsub)))
  have hafter : (d.withStops gs).zoom.stopClaim = true := (Zoom.stopClaim_iff _).mpr (.inr hgs)
  rw [ArbiterPart.Sound, Zoom.maskSpeed_of_stop hbefore] at h
  rw [ArbiterPart.Sound, Zoom.maskSpeed_of_stop hafter]
  exact h

/-- Groups that leave in turn give the arbiter the same to do as groups that leave at once. -/
theorem ArbiterPart.arbitrate_withStops_twice {d : ArbiterPart} (h : d.Sound) (drop : Nat) {gs hs : List Group}
    (hgs : gs ⊆ d.zoom.stopGroups) (hhs : hs ⊆ gs) :
    (((d.withStops gs).arbitrate drop).withStops hs).arbitrate drop = (d.withStops hs).arbitrate drop := by
  by_cases hnil : gs = []
  · subst hnil
    obtain rfl := List.subset_nil.mp hhs
    have hstops : ((d.withStops []).arbitrate drop).zoom.stopGroups = [] := ArbiterPart.arbitrate_stopGroups ..
    have hsame := ((d.withStops []).arbitrate drop).withStops_self
    rw [hstops] at hsame
    rw [hsame, ArbiterPart.arbitrate_of_sound (ArbiterPart.arbitrate_sound ..)]
  · rw [ArbiterPart.arbitrate_of_sound (ArbiterPart.withStops_sound h hnil hgs)]
    rfl

/-- What is left of a set once these groups have left it. -/
def leaveAll (gs set : List Group) : List Group := gs.foldl (fun set g => leaveGroup g set) set

theorem mem_leaveAll {gs set : List Group} {h : Group} : h ∈ leaveAll gs set ↔ h ∈ set ∧ h ∉ gs := by
  induction gs generalizing set with
  | nil => simp [leaveAll]
  | cons g gs ih =>
    have hcons : leaveAll (g :: gs) set = leaveAll gs (leaveGroup g set) := rfl
    rw [hcons, ih]
    simp [leaveGroup, and_assoc]

theorem ArbiterPart.foldl_release {d : ArbiterPart} (h : d.Sound) (drop : Nat) (gs : List Group) :
    gs.foldl (ArbiterPart.release drop) d = (d.withStops (leaveAll gs d.zoom.stopGroups)).arbitrate drop := by
  induction gs generalizing d with
  | nil => exact (ArbiterPart.arbitrate_of_sound h drop).symm
  | cons g gs ih =>
    have hstops : (d.release drop g).zoom.stopGroups = leaveGroup g d.zoom.stopGroups :=
      ArbiterPart.arbitrate_stopGroups ..
    have hsound : (d.release drop g).Sound := ArbiterPart.arbitrate_sound ..
    rw [List.foldl_cons, ih hsound, hstops]
    exact ArbiterPart.arbitrate_withStops_twice h drop (List.filter_subset_self _) fun x hx => (mem_leaveAll.mp hx).1

theorem ArbiterPart.foldl_release_stopGroups (drop : Nat) (gs : List Group) (d : ArbiterPart) :
    (gs.foldl (ArbiterPart.release drop) d).zoom.stopGroups = leaveAll gs d.zoom.stopGroups := by
  induction gs generalizing d with
  | nil => rfl
  | cons g gs ih =>
    rw [List.foldl_cons, ih]
    exact congrArg (leaveAll gs) (ArbiterPart.arbitrate_stopGroups ..)

/-! ### Details cleared in several groups -/

/-- The same details of groups cleared, one group after another. -/
def State.clearAll (s : State) (which : Nat → Bool) (gs : List Group) : State :=
  gs.foldl (State.clearDetails · which) s

/-- Supervision after the clearing of groups, one after another. -/
def Supervision.clearedAll (v : Supervision) (which : Nat → Bool) (gs : List Group) : Supervision :=
  gs.foldl (fun v g => v.cleared which g) v

theorem State.clearAll_sup (s : State) (which : Nat → Bool) (gs : List Group) :
    (s.clearAll which gs).sup = s.sup.clearedAll which gs := by
  induction gs generalizing s with
  | nil => rfl
  | cons g gs ih =>
    have hcons := ih (s.clearDetails which g)
    rw [State.clearDetails_sup] at hcons
    exact hcons

theorem Supervision.clearedAll_keeps (v : Supervision) (which : Nat → Bool) (gs : List Group) :
    (v.clearedAll which gs).table = v.table ∧ (v.clearedAll which gs).timer = v.timer ∧
    (v.clearedAll which gs).cycle = v.cycle ∧ (v.clearedAll which gs).risings = v.risings := by
  induction gs generalizing v with
  | nil => exact ⟨rfl, rfl, rfl, rfl⟩
  | cons g gs ih =>
    obtain ⟨htable, htimer, hcycle, hrisings⟩ := ih (v.cleared which g)
    obtain ⟨htable', htimer', hcycle', hrisings'⟩ := v.cleared_keeps which g
    exact ⟨htable.trans htable', htimer.trans htimer', hcycle.trans hcycle', hrisings.trans hrisings'⟩

theorem Supervision.cleared_sound {v : Supervision} (h : v.Sound) (which : Nat → Bool) (g : Group) :
    (v.cleared which g).Sound where
  groups := (v.cleared_length which g).trans h.groups
  group k := by
    rw [Supervision.cleared_group h.groups]
    split
    · next hk => exact hk ▸ GroupState.clear_sound (h.group g) which
    · exact h.group k
  attention := Supervision.cleared_attention h which g

theorem Supervision.clearedAll_sound {v : Supervision} (h : v.Sound) (which : Nat → Bool) (gs : List Group) :
    (v.clearedAll which gs).Sound := by
  induction gs generalizing v with
  | nil => exact h
  | cons g gs ih => exact ih (Supervision.cleared_sound h which g)

theorem Supervision.clearedAll_group {v : Supervision} (h12 : v.groups.length = 12) (which : Nat → Bool)
    {gs : List Group} (hnodup : gs.Nodup) (h : Group) :
    (v.clearedAll which gs).group h = if h ∈ gs then (v.group h).clear which else v.group h := by
  induction gs generalizing v with
  | nil => simp [Supervision.clearedAll]
  | cons g gs ih =>
    obtain ⟨hg, hgs⟩ := List.nodup_cons.mp hnodup
    have hcons : v.clearedAll which (g :: gs) = (v.cleared which g).clearedAll which gs := rfl
    rw [hcons, ih ((v.cleared_length which g).trans h12) hgs, Supervision.cleared_group h12]
    by_cases hhg : h = g
    · simp [hhg, hg]
    · simp [hhg]

theorem State.clearAll_present (s : State) (which : Nat → Bool) (gs : List Group) :
    (s.clearAll which gs).present = s.present := by
  induction gs generalizing s with
  | nil => rfl
  | cons g gs ih => exact (ih (s.clearDetails which g)).trans (s.clearDetails_present which g)

/-! ### The falls of a clearing -/

/-- The groups whose summary falls as these are cleared (R158). -/
def Supervision.fallen (v : Supervision) (which : Nat → Bool) (gs : List Group) : List Group :=
  gs.filter (v.falls which)

theorem Supervision.mem_fallen {v : Supervision} (h12 : v.groups.length = 12) (which : Nat → Bool)
    {gs : List Group} (hnodup : gs.Nodup) (g : Group) :
    g ∈ v.fallen which gs ↔
      (v.group g).summary = true ∧ ((v.clearedAll which gs).group g).summary = false := by
  simp only [Supervision.fallen, List.mem_filter, Supervision.clearedAll_group h12 which hnodup, Supervision.falls]
  by_cases hg : g ∈ gs
  · simp [hg]
  · simp [hg]

theorem State.clearAll_vf {s : State} (h12 : s.sup.groups.length = 12) (which : Nat → Bool) {gs : List Group}
    (hnodup : gs.Nodup) :
    (s.clearAll which gs).vf =
      { s.vf with warnGroups := leaveAll (s.sup.fallen which gs) s.vf.warnGroups } := by
  have hfold := foldl_of_triggers (keeps := fun v : State => v.sup.groups.length = 12)
    (step := (State.clearDetails · which)) (trigger := fun v => v.sup.falls which) (part := State.vf)
    (act := fun vf g => { vf with warnGroups := leaveGroup g vf.warnGroups })
    (fun v g hv => by rw [State.clearDetails_sup, Supervision.cleared_length, hv])
    (fun v g h hv hne => by rw [State.clearDetails_sup, Supervision.cleared_falls hv which hne])
    (fun v g _ => v.clearDetails_vf which g) hnodup h12
  refine hfold.trans ?_
  simp only [Supervision.fallen]
  generalize gs.filter (s.sup.falls which) = fallen
  generalize s.vf = vf
  induction fallen generalizing vf with
  | nil => rfl
  | cons g gs ih => exact ih _

theorem State.clearAll_arbiterPart {s : State} (h12 : s.sup.groups.length = 12) (which : Nat → Bool)
    {gs : List Group} (hnodup : gs.Nodup) :
    (s.clearAll which gs).arbiterPart =
      (s.sup.fallen which gs).foldl (ArbiterPart.release s.items.stab.dropWindow) s.arbiterPart :=
  foldl_of_triggers (keeps := fun v : State => v.sup.groups.length = 12 ∧ v.items = s.items)
    (step := (State.clearDetails · which)) (trigger := fun v => v.sup.falls which) (part := State.arbiterPart)
    (fun v g hv => by
      refine ⟨by rw [State.clearDetails_sup, Supervision.cleared_length, hv.1], ?_⟩
      rw [← hv.2]; simp)
    (fun v g h hv hne => by rw [State.clearDetails_sup, Supervision.cleared_falls hv.1 which hne])
    (fun v g hv => by rw [v.clearDetails_arbiterPart which g, hv.2]) hnodup ⟨h12, rfl⟩

/-- A reply is not among the indicators. -/
theorem State.present_reply (s : State) (tag : Byte) (st : Status) (data : List Byte) (g : Group) :
    (s.reply tag st data).present g = s.present g := by
  rw [State.reply_eq]
  cases g <;> simp [State.present]

/-! ### What a command asks to clear (R162, R203) -/

/-- The detail is among those that scope, group and detail of a command name. -/
def clearNames (scope group detail : Nat) (g : Group) (d : Nat) : Prop :=
  match scope with
  | 0 => group = g.number ∧ detail = d
  | 1 => group = g.number
  | _ => True

/-- The groups and the details in them that a command names, none where one of its fields is not defined. -/
def clearAsked (scope group detail : Nat) : Option (List Group × (Nat → Bool)) :=
  match scope with
  | 0 => (Group.ofNumber group).bind fun g => if detail < g.details then some ([g], fun d => d == detail) else none
  | 1 => (Group.ofNumber group).map fun g => ([g], fun _ => true)
  | 2 => some (Group.all, fun _ => true)
  | _ => none

theorem Group.ofNumber_eq_some {n : Nat} {g : Group} : Group.ofNumber n = some g ↔ n = g.number := by
  refine ⟨fun h => ?_, fun h => ?_⟩
  · have hnumber : g.number = n := by simpa using List.find?_some h
    exact hnumber.symm
  · subst h
    cases g <;> rfl

theorem Group.details_pos (g : Group) : 0 < g.details := by
  cases g <;> decide

theorem State.clearFault_eq (s : State) (scope group detail : Nat) :
    s.clearFault scope group detail =
      match clearAsked scope group detail with
      | some (gs, which) => (s.clearAll which gs, .ok)
      | none => (s, .badCommand) := by
  match scope with
  | 0 =>
    cases hg : Group.ofNumber group with
    | none => simp [State.clearFault, clearAsked, hg]
    | some g => by_cases hd : detail < g.details <;> simp [State.clearFault, clearAsked, hg, hd, State.clearAll]
  | 1 => cases hg : Group.ofNumber group <;> simp [State.clearFault, clearAsked, hg, State.clearAll]
  | 2 => rfl
  | n + 3 => rfl

/-- A defined command names exactly the details it asks for, each group once. -/
theorem clearAsked_some {scope group detail : Nat} {gs : List Group} {which : Nat → Bool}
    (h : clearAsked scope group detail = some (gs, which)) :
    gs.Nodup ∧ ∀ g d, clearNames scope group detail g d ↔ g ∈ gs ∧ which d = true := by
  simp only [clearAsked] at h
  split at h
  · obtain ⟨k, hk, hask⟩ := Option.bind_eq_some_iff.mp h
    split at hask
    · cases hask
      refine ⟨List.nodup_singleton k, fun g d => ?_⟩
      simp only [clearNames, Group.ofNumber_eq_some.mp hk, Group.number_inj, List.mem_singleton, beq_iff_eq]
      exact and_congr eq_comm eq_comm
    · cases hask
  · obtain ⟨k, hk, hask⟩ := Option.map_eq_some_iff.mp h
    cases hask
    refine ⟨List.nodup_singleton k, fun g d => ?_⟩
    simp only [clearNames, Group.ofNumber_eq_some.mp hk, Group.number_inj, List.mem_singleton, and_true]
    exact eq_comm
  · cases h
    exact ⟨Group.all_nodup, fun g d => by simp [clearNames, Group.mem_all]⟩
  · cases h

/-- A command asks for nothing exactly where its scope is not defined or names no detail. -/
theorem clearAsked_isSome {scope group detail : Nat} :
    (clearAsked scope group detail).isSome = true ↔
      scope ≤ 2 ∧ ∃ g d, d < g.details ∧ clearNames scope group detail g d := by
  match scope with
  | 0 =>
    have hask : (clearAsked 0 group detail).isSome = true ↔
        ∃ g, Group.ofNumber group = some g ∧ detail < g.details := by
      cases hg : Group.ofNumber group <;> simp [clearAsked, hg]
    rw [hask]
    refine ⟨fun ⟨g, hg, hd⟩ => ⟨by omega, g, detail, hd, Group.ofNumber_eq_some.mp hg, rfl⟩, ?_⟩
    rintro ⟨-, g, d, hd, hg, rfl⟩
    exact ⟨g, Group.ofNumber_eq_some.mpr hg, hd⟩
  | 1 =>
    have hask : (clearAsked 1 group detail).isSome = true ↔ ∃ g, Group.ofNumber group = some g := by
      cases hg : Group.ofNumber group <;> simp [clearAsked, hg]
    rw [hask]
    refine ⟨fun ⟨g, hg⟩ => ⟨by omega, g, 0, g.details_pos, Group.ofNumber_eq_some.mp hg⟩, ?_⟩
    rintro ⟨-, g, d, hd, hg⟩
    exact ⟨g, Group.ofNumber_eq_some.mpr hg⟩
  | 2 => exact ⟨fun _ => ⟨by omega, .gyroLost, 0, by decide, trivial⟩, fun _ => rfl⟩
  | n + 3 => exact ⟨fun h => (nomatch h), fun ⟨hscope, _⟩ => by omega⟩

/-! ### The statement -/

theorem exec_clearFault_of_takes {s : State} {seq : Byte} {src : Source} {n : Nat}
    (tag scope group detail : Byte) (h : s.takesCommand seq src [229] n = true) :
    exec (.clearFault seq src tag scope group detail) s =
      .next (((s.taken .command seq n).clearFault scope.toNat group.toNat detail.toNat).1.reply tag
        ((s.taken .command seq n).clearFault scope.toNat group.toNat detail.toNat).2 []) :=
  congrArg Host.Outcome.next (State.action_of_takes h)

/-- The state that a clearing leaves, but for the blocks it acts on. -/
theorem State.clearAll_eq {s : State} (h12 : s.sup.groups.length = 12) (which : Nat → Bool) {gs : List Group}
    (hnodup : gs.Nodup) :
    let t := s.clearAll which gs
    t = { s with
      head := t.head, zoom := t.zoom, stab := t.stab
      vf := { s.vf with warnGroups := t.vf.warnGroups }
      sup := { s.sup with groups := t.sup.groups, attention := t.sup.attention } } := by
  intro t
  obtain ⟨hbody, haudio, hrecorder, hslotA, hslotB, hmgmt, hscene, hitems, hportSeq, hinReset, hout, hpending⟩ :=
    s.clearGroups_keeps which gs
  have hvf : t.vf = { s.vf with warnGroups := t.vf.warnGroups } := by
    rw [State.clearAll_vf h12 which hnodup]
  have hsup : t.sup = { s.sup with groups := t.sup.groups, attention := t.sup.attention } := by
    obtain ⟨htable, htimer, hcycle, hrisings⟩ := s.sup.clearedAll_keeps which gs
    rw [← s.clearAll_sup] at htable htimer hcycle hrisings
    simp only [← htable, ← htimer, ← hcycle, ← hrisings]
    rfl
  calc t = { t with
        body := s.body, audio := s.audio, recorder := s.recorder, slotA := s.slotA, slotB := s.slotB
        mgmt := s.mgmt, scene := s.scene, items := s.items, portSeq := s.portSeq, inReset := s.inReset
        out := s.out, pending := s.pending } := by
        rw [← hbody, ← haudio, ← hrecorder, ← hslotA, ← hslotB, ← hmgmt, ← hscene, ← hitems, ← hportSeq, ← hinReset,
          ← hout, ← hpending]
        rfl
    _ = _ := by rw [hvf, hsup]

/-- A clearing at a sound drive: the speed sent is the masked class speed, and a changed one gives one ZOOM_CMD. -/
theorem State.clearAll_drive {s : State} (h12 : s.sup.groups.length = 12) (which : Nat → Bool) {gs : List Group}
    (hnodup : gs.Nodup) (hz : s.zoomSound) :
    let t := s.clearAll which gs
    t.zoom.sentSpeed = t.zoom.maskSpeed t.zoom.classSpeed ∧
    if t.zoom.sentSpeed = s.zoom.sentSpeed then
      t.head = s.head ∧ t.stab = s.stab ∧ t.zoom = { s.zoom with stopGroups := t.zoom.stopGroups }
    else
      t.head = s.head.hand (.zoomCmd t.zoom.sentSpeed) ∧
      t.stab = { s.stab with dropWindow := s.items.stab.dropWindow } ∧
      t.zoom =
        { s.zoom with
          stopGroups := t.zoom.stopGroups, sentSpeed := t.zoom.sentSpeed, refresh := .running 20 } := by
  intro t
  let d := s.arbiterPart.withStops (leaveAll (s.sup.fallen which gs) s.zoom.stopGroups)
  have hpart : t.arbiterPart = d.arbitrate s.items.stab.dropWindow :=
    (State.clearAll_arbiterPart h12 which hnodup).trans (ArbiterPart.foldl_release (d := s.arbiterPart) hz ..)
  have hsound : t.arbiterPart.Sound := hpart ▸ ArbiterPart.arbitrate_sound ..
  refine ⟨hsound, ?_⟩
  have hhead : t.head = (d.arbitrate s.items.stab.dropWindow).head := congrArg ArbiterPart.head hpart
  have hzoom : t.zoom = (d.arbitrate s.items.stab.dropWindow).zoom := congrArg ArbiterPart.zoom hpart
  have hstab : t.stab = (d.arbitrate s.items.stab.dropWindow).stab := congrArg ArbiterPart.stab hpart
  rw [hhead, hzoom, hstab]
  by_cases hspeed : d.zoom.maskSpeed d.zoom.classSpeed = d.zoom.sentSpeed
  · have hkept : d.arbitrate s.items.stab.dropWindow = d := if_pos hspeed
    rw [hkept]
    exact (if_pos rfl).mpr ⟨rfl, rfl, rfl⟩
  · have hsent : d.arbitrate s.items.stab.dropWindow =
        ⟨d.head.hand (.zoomCmd (d.zoom.maskSpeed d.zoom.classSpeed)),
          { d.zoom with sentSpeed := d.zoom.maskSpeed d.zoom.classSpeed, refresh := .running 20 },
          { d.stab with dropWindow := s.items.stab.dropWindow }⟩ := if_neg hspeed
    rw [hsent]
    exact (if_neg hspeed).mpr ⟨rfl, rfl, rfl⟩

/-- Settles O51, by the groups and details that the command names. -/
theorem clearFault : Obligations.ClearFault := by
  intro s seq src tag scope group detail n h hs u names defined
  have hexec := exec_clearFault_of_takes tag scope group detail h
  have hdefined : (clearAsked scope.toNat group.toNat detail.toNat).isSome = true ↔ defined := clearAsked_isSome
  have hsound : u.sup.Sound := s.supSound_iff.mp hs
  rw [State.clearFault_eq] at hexec
  cases hask : clearAsked scope.toNat group.toNat detail.toNat with
  | none =>
    rw [hask] at hexec hdefined
    refine ⟨fun hd => absurd (hdefined.mpr hd) (by simp), fun _ => ?_⟩
    rw [hexec, State.reply_eq]
    rfl
  | some asked =>
    obtain ⟨gs, which⟩ := asked
    rw [hask] at hexec hdefined
    refine ⟨fun _ => ?_, fun hd => absurd (hdefined.mp rfl) hd⟩
    obtain ⟨hnodup, hnames⟩ := clearAsked_some hask
    let t := u.clearAll which gs
    have hsup : t.sup = u.sup.clearedAll which gs := u.clearAll_sup which gs
    have hbody : t.body = u.body := (u.clearGroups_keeps which gs).1
    have hgroup : ∀ g, t.sup.group g = if g ∈ gs then (s.sup.group g).clear which else s.sup.group g := by
      rw [hsup]; exact Supervision.clearedAll_group hsound.groups which hnodup
    have hfallen : ∀ g, g ∈ u.sup.fallen which gs ↔
        (s.sup.group g).summary = true ∧ (t.sup.group g).summary = false := by
      rw [hsup]; exact Supervision.mem_fallen hsound.groups which hnodup
    have htsound : t.sup.Sound := by rw [hsup]; exact Supervision.clearedAll_sound hsound which gs
    have hframe := State.clearAll_eq hsound.groups which hnodup
    have hstops : t.zoom.stopGroups = leaveAll (u.sup.fallen which gs) u.zoom.stopGroups :=
      (congrArg (fun d => d.zoom.stopGroups) (State.clearAll_arbiterPart hsound.groups which hnodup)).trans
        (ArbiterPart.foldl_release_stopGroups ..)
    have hwarns : t.vf.warnGroups = leaveAll (u.sup.fallen which gs) u.vf.warnGroups :=
      congrArg Viewfinder.warnGroups (State.clearAll_vf hsound.groups which hnodup)
    refine ⟨t.reply tag .ok [], hexec, ?frame, fun g d hd => ?details, fun g => (htsound.group g).summary,
      fun g => ?sets, ?line, fun g => ?present, fun hz => State.clearAll_drive hsound.groups which hnodup hz⟩
    case frame =>
      have hreply : t.reply tag .ok [] = { t with body := u.body.hand (.reply tag .ok []) } := by
        rw [State.reply_eq, hbody]; rfl
      exact hreply.trans (congrArg (fun v : State => { v with body := u.body.hand (.reply tag .ok []) }) hframe)
    case details =>
      have hdetail := GroupState.clear_detail (x := s.sup.group g) (hsound.group g) which hd
      have hsame : (t.reply tag .ok []).sup.group g = t.sup.group g := rfl
      rw [hsame, hgroup]
      have hnamed : names g d ↔ g ∈ gs ∧ which d = true := hnames g d
      rw [hnamed]
      by_cases hg : g ∈ gs
      · simpa [hg] using hdetail
      · simp [hg]
    case sets =>
      intro falls
      have hfalls : g ∈ u.sup.fallen which gs ↔ falls := hfallen g
      rw [← hfalls]
      exact ⟨hstops ▸ mem_leaveAll, hwarns ▸ mem_leaveAll⟩
    case line =>
      have htable : t.sup.table = s.sup.table := by
        rw [hsup]; exact (u.sup.clearedAll_keeps which gs).1
      rw [← Supervision.entry_of_table htable]
      exact htsound.attention
    case present =>
      have htaken : u.present g = s.present g := by cases g <;> rfl
      rw [State.present_reply, ← htaken]
      exact congrFun (u.clearAll_present which gs) g

end Sys2Proof.Machine
end

section
/-! PROOF. The fault actions in a check cycle (R159): the parts of the state that the risings of a cycle act on, and
what STAB_OFF, ZOOM_STOP and VF_WARN make of the stabiliser, the zoom drive and the warning groups. -/

namespace Sys2Proof.Machine

/-! ### The risings of checks, and what they act on -/

/-- The groups whose summary rises as these are checked, each on its own indicators, in their order (R158). -/
def Supervision.risen (v : Supervision) (gs : List Group) (ps : Group → List Bool) : List Group :=
  gs.filter (fun g => v.rises g (ps g))

/-- The groups among the risen whose ACTIONS include one. -/
def Supervision.risenTo (v : Supervision) (gs : List Group) (ps : Group → List Bool) (does : Actions → Bool) :
    List Group :=
  (v.risen gs ps).filter (fun g => does (v.entry g).actions)

theorem Supervision.checked_rises {v : Supervision} (h12 : v.groups.length = 12) {g h : Group} (hne : h ≠ g)
    (ps ps' : List Bool) : (v.checked g ps).rises h ps' = v.rises h ps' := by
  simp only [Supervision.rises, Supervision.checked_group h12, if_neg hne, Supervision.checked_entry]

/-- A part of the state that neither supervision nor the FAULT notices belong to changes by the actions of the
groups that rise, in order. -/
theorem State.checkAll_part {β : Type} {s : State} (h12 : s.sup.groups.length = 12) {gs : List Group}
    (hnodup : gs.Nodup) (ps : Group → List Bool) {part : State → β} {act : Actions → β → Group → β}
    (hsup : ∀ v x, part { v with sup := x } = part v)
    (hnotices : ∀ v g ds, part (State.faultNotices v g ds) = part v)
    (hact : ∀ v g a, v.items = s.items → part (State.runActions v g a) = act a (part v) g) :
    part (s.checkAll gs ps) = (s.sup.risen gs ps).foldl (fun b g => act (s.sup.entry g).actions b g) (part s) := by
  refine foldl_of_triggers
    (keeps := fun v : State => v.sup.groups.length = 12 ∧ v.sup.table = s.sup.table ∧ v.items = s.items)
    (trigger := fun v g => v.sup.rises g (ps g)) (fun v g hv => ?keeps) (fun v g h hv hne => ?other)
    (fun v g hv => ?step) hnodup ⟨h12, rfl, rfl⟩
  case keeps =>
    obtain ⟨hlen, htable, hitems⟩ := hv
    obtain ⟨htable', -, -, hlen'⟩ := v.sup.checked_keeps g (ps g)
    rw [State.checkGroup_sup]
    exact ⟨hlen'.trans hlen, htable'.trans htable, by rw [← hitems]; simp⟩
  case other => rw [State.checkGroup_sup, Supervision.checked_rises hv.1 hne]
  case step =>
    obtain ⟨-, htable, hitems⟩ := hv
    by_cases hr : v.sup.rises g (ps g) = true
    · rw [if_pos hr, State.checkGroup_of_rises hr, hnotices, hsup, hact _ _ _ (by exact hitems), hsup,
        Supervision.entry_of_table htable]
    · rw [if_neg hr, State.checkGroup_of_not_rises hr, hnotices, hsup]

/-- A part of the state that one action alone changes. -/
theorem State.checkAll_part_of_action {β : Type} {s : State} (h12 : s.sup.groups.length = 12) {gs : List Group}
    (hnodup : gs.Nodup) (ps : Group → List Bool) {part : State → β} (does : Actions → Bool) {act : β → Group → β}
    (hsup : ∀ v x, part { v with sup := x } = part v)
    (hnotices : ∀ v g ds, part (State.faultNotices v g ds) = part v)
    (hact : ∀ v g a, v.items = s.items →
      part (State.runActions v g a) = if does a = true then act (part v) g else part v) :
    part (s.checkAll gs ps) = (s.sup.risenTo gs ps does).foldl act (part s) := by
  rw [Supervision.risenTo, List.foldl_filter]
  exact State.checkAll_part h12 hnodup ps
    (act := fun a b g => if does a = true then act b g else b) hsup hnotices hact

/-- A part of the state that no action changes. -/
theorem State.checkAll_part_of_keeps {β : Type} {s : State} (gs : List Group) (ps : Group → List Bool)
    {part : State → β} (hsup : ∀ v x, part { v with sup := x } = part v)
    (hnotices : ∀ v g ds, part (State.faultNotices v g ds) = part v)
    (hact : ∀ v g a, part (State.runActions v g a) = part v) : part (s.checkAll gs ps) = part s := by
  induction gs generalizing s with
  | nil => rfl
  | cons g gs ih =>
    have hstep : part (s.checkGroup g (ps g)) = part s := by
      by_cases hr : s.sup.rises g (ps g) = true
      · rw [State.checkGroup_of_rises hr, hnotices, hsup, hact, hsup]
      · rw [State.checkGroup_of_not_rises hr, hnotices, hsup]
    exact ih.trans hstep

/-! ### VF_WARN (R135) -/

theorem State.faultWarn_vf (s : State) (g : Group) :
    (s.faultWarn g).vf = { s.vf with warnGroups := joinGroup g s.vf.warnGroups } := rfl

/-- A set once these groups have joined it. -/
def joinAll (gs set : List Group) : List Group := gs.foldl (fun set g => joinGroup g set) set

theorem mem_joinAll {gs set : List Group} {h : Group} : h ∈ joinAll gs set ↔ h ∈ set ∨ h ∈ gs := by
  induction gs generalizing set with
  | nil => simp [joinAll]
  | cons g gs ih =>
    have hcons : joinAll (g :: gs) set = joinAll gs (joinGroup g set) := rfl
    rw [hcons, ih]
    simp only [joinGroup, List.mem_filter, Group.mem_all, true_and, Bool.or_eq_true, beq_iff_eq,
      List.contains_iff_mem, List.mem_cons]
    tauto

theorem State.checkAll_warnGroups {s : State} (h12 : s.sup.groups.length = 12) {gs : List Group}
    (hnodup : gs.Nodup) (ps : Group → List Bool) :
    (s.checkAll gs ps).vf.warnGroups = joinAll (s.sup.risenTo gs ps Actions.vfWarn) s.vf.warnGroups :=
  State.checkAll_part_of_action h12 hnodup ps (part := fun v => v.vf.warnGroups) Actions.vfWarn
    (act := fun ws g => joinGroup g ws)
    (fun _ _ => rfl) (fun v g ds => by simp)
    (fun v g a _ => by
      simp [State.runActions, State.when, apply_ite State.vf, State.faultWarn_vf, apply_ite Viewfinder.warnGroups])

/-! ### STAB_OFF (R31, R34) -/

/-- The stabiliser once the fault action has turned it OFF. -/
def Stabiliser.faultOff (st : Stabiliser) : Stabiliser :=
  if st.state = .off then st
  else
    { st with
      state := .off, reason := .fault, hold := false, ring := [], yaw := st.yaw.enterOff, pitch := st.pitch.enterOff }

/-- The stabiliser but for its drop window, which the arbiter loads (R39). -/
def Stabiliser.undropped (st : Stabiliser) : Stabiliser := { st with dropWindow := 0 }

theorem State.faultStabOff_stab (s : State) : s.faultStabOff.stab = s.stab.faultOff := by
  simp only [State.faultStabOff, Stabiliser.faultOff]
  cases h : s.stab.state <;> simp [State.enterOff]

theorem Stabiliser.faultOff_undropped (st : Stabiliser) : st.faultOff.undropped = st.undropped.faultOff := by
  by_cases h : st.state = .off <;> simp [Stabiliser.faultOff, Stabiliser.undropped, h]

theorem Stabiliser.faultOff_state (st : Stabiliser) : st.faultOff.state = .off := by
  simp only [Stabiliser.faultOff]
  split
  · assumption
  · rfl

theorem State.arbitrate_undropped (s : State) : s.arbitrate.stab.undropped = s.stab.undropped := by
  rcases s.arbitrate_cases with ⟨-, ha⟩ | ⟨-, ha⟩ <;> rw [ha]
  rfl

theorem State.faultZoomStop_undropped (s : State) (g : Group) :
    (s.faultZoomStop g).stab.undropped = s.stab.undropped := by
  rw [State.faultZoomStop, State.arbitrate_undropped]
  simp

/-- Acts that change nothing once they have been done: the first alone counts. -/
theorem foldl_of_idempotent {α β : Type} {f : β → β} (hf : ∀ b, f (f b) = f b) (xs : List α) (b : β) :
    xs.foldl (fun b _ => f b) b = if xs = [] then b else f b := by
  induction xs generalizing b with
  | nil => rfl
  | cons x xs ih =>
    rw [List.foldl_cons, ih, hf, ite_self, if_neg (List.cons_ne_nil x xs)]

theorem State.checkAll_undropped {s : State} (h12 : s.sup.groups.length = 12) {gs : List Group}
    (hnodup : gs.Nodup) (ps : Group → List Bool) :
    (s.checkAll gs ps).stab.undropped =
      if s.sup.risenTo gs ps Actions.stabOff = [] then s.stab.undropped else s.stab.undropped.faultOff := by
  rw [← foldl_of_idempotent (fun st => if_pos st.faultOff_state)]
  exact State.checkAll_part_of_action h12 hnodup ps (part := fun v => v.stab.undropped) Actions.stabOff
    (act := fun st _ => st.faultOff) (fun _ _ => rfl) (fun v g ds => by simp)
    (fun v g a _ => by
      simp [State.runActions, State.when, apply_ite State.stab, apply_ite Stabiliser.undropped,
        State.faultStabOff_stab, Stabiliser.faultOff_undropped, State.faultZoomStop_undropped])

/-! ### ZOOM_STOP (R19) -/

/-- The zoom drive once a group claims a stop: where the stop claim arises the move and the pending preset end, and
the drive stands. -/
def Zoom.stopClaimed (z : Zoom) (g : Group) : Zoom :=
  { z with
    stopGroups := joinGroup g z.stopGroups, sentSpeed := 0
    move := if z.stopClaim = true then z.move else none
    pendingPreset := if z.stopClaim = true then z.pendingPreset else none
    stopFresh := if z.stopClaim = true then z.stopFresh else true
    refresh := if z.sentSpeed = 0 then z.refresh else .running 20 }

theorem joinGroup_ne_nil (g : Group) (set : List Group) : joinGroup g set ≠ [] := by
  apply List.ne_nil_of_mem (a := g)
  simp [joinGroup, Group.mem_all]

theorem Zoom.stopClaimed_stopClaim (z : Zoom) (g : Group) : (z.stopClaimed g).stopClaim = true :=
  (Zoom.stopClaim_iff _).mpr (.inr (joinGroup_ne_nil g z.stopGroups))

theorem State.stopArises_drive (s : State) (before : Bool) :
    (s.stopArises before).zoom =
      if before = false ∧ s.zoom.stopClaim = true then
        { s.zoom with move := none, pendingPreset := none, stopFresh := true }
      else s.zoom := by
  have hmove := congrArg Prod.fst (s.endMove_drive .stopped)
  have hpending := congrArg Prod.fst ((s.endMove .stopped).endPending_drive .stopped)
  simp only [State.drive] at hmove hpending
  cases before <;> cases hclaim : s.zoom.stopClaim <;> simp [State.stopArises, hclaim, hpending, hmove]

/-- The zoom drive before the arbiter, at a group that joins the stop-claiming set (R19). -/
def State.stopJoined (s : State) (g : Group) : State :=
  { s with zoom := { s.zoom with stopGroups := joinGroup g s.zoom.stopGroups } }.stopArises s.zoom.stopClaim

theorem State.stopJoined_zoom (s : State) (g : Group) :
    (s.stopJoined g).zoom =
      { s.zoom.stopClaimed g with sentSpeed := s.zoom.sentSpeed, refresh := s.zoom.refresh } := by
  have hclaim : { s.zoom with stopGroups := joinGroup g s.zoom.stopGroups }.stopClaim = true :=
    (Zoom.stopClaim_iff _).mpr (.inr (joinGroup_ne_nil g s.zoom.stopGroups))
  rw [State.stopJoined, State.stopArises_drive]
  cases hbefore : s.zoom.stopClaim <;> simp [Zoom.stopClaimed, hbefore, hclaim]

theorem State.stopJoined_speed (s : State) (g : Group) :
    (s.stopJoined g).zoom.maskSpeed (s.stopJoined g).zoom.classSpeed = 0 := by
  apply Zoom.maskSpeed_of_stop
  rw [State.stopJoined_zoom]
  exact s.zoom.stopClaimed_stopClaim g

theorem State.faultZoomStop_zoom (s : State) (g : Group) : (s.faultZoomStop g).zoom = s.zoom.stopClaimed g := by
  have harbitrate : s.faultZoomStop g = (s.stopJoined g).arbitrate := rfl
  rw [harbitrate, State.arbitrate_zoom, State.stopJoined_speed, State.stopJoined_zoom]
  simp [Zoom.stopClaimed, eq_comm (a := (0 : Int))]

theorem State.faultZoomStop_dropWindow (s : State) (g : Group) :
    (s.faultZoomStop g).stab.dropWindow =
      if s.zoom.sentSpeed = 0 then s.stab.dropWindow else s.items.stab.dropWindow := by
  have hkeeps : (s.stopJoined g).stab = s.stab ∧ (s.stopJoined g).items = s.items := by simp [State.stopJoined]
  have hsent : (s.stopJoined g).zoom.sentSpeed = s.zoom.sentSpeed := by rw [State.stopJoined_zoom]
  have harbitrate : s.faultZoomStop g = (s.stopJoined g).arbitrate := rfl
  have hcases := (s.stopJoined g).arbitrate_cases
  rw [State.stopJoined_speed, hsent, ← harbitrate] at hcases
  rcases hcases with ⟨h, ha⟩ | ⟨h, ha⟩
  · rw [if_pos h.symm, ha, hkeeps.1]
  · rw [if_neg (Ne.symm h), ha, hkeeps.2]

theorem Stabiliser.faultOff_dropWindow (st : Stabiliser) : st.faultOff.dropWindow = st.dropWindow := by
  simp only [Stabiliser.faultOff]
  split <;> rfl

/-- The zoom drive and the drop window at a group's stop claim, with the drop window to load. -/
def stopClaimedAt (drop : Nat) (w : Zoom × Nat) (g : Group) : Zoom × Nat :=
  (w.1.stopClaimed g, if w.1.sentSpeed = 0 then w.2 else drop)

/-- Under a stop claim a standing drive gains groups alone. -/
theorem foldl_stopClaimedAt_of_standing {z : Zoom} (hclaim : z.stopClaim = true) (hstands : z.sentSpeed = 0)
    (drop d : Nat) (gs : List Group) :
    gs.foldl (stopClaimedAt drop) (z, d) = ({ z with stopGroups := joinAll gs z.stopGroups }, d) := by
  induction gs generalizing z with
  | nil => rfl
  | cons g gs ih =>
    have hjoined : z.stopClaimed g = { z with stopGroups := joinGroup g z.stopGroups } := by
      simp only [Zoom.stopClaimed, hclaim, hstands, if_true]
    have hstep : stopClaimedAt drop (z, d) g = (z.stopClaimed g, d) := by
      simp only [stopClaimedAt, hstands, if_true]
    rw [List.foldl_cons, hstep, ih (z.stopClaimed_stopClaim g) rfl, hjoined]
    rfl

theorem foldl_stopClaimedAt {gs : List Group} (hgs : gs ≠ []) (drop : Nat) (z : Zoom) (d : Nat) :
    gs.foldl (stopClaimedAt drop) (z, d) =
      ({ z with
          stopGroups := joinAll gs z.stopGroups, sentSpeed := 0
          move := if z.stopClaim = true then z.move else none
          pendingPreset := if z.stopClaim = true then z.pendingPreset else none
          stopFresh := if z.stopClaim = true then z.stopFresh else true
          refresh := if z.sentSpeed = 0 then z.refresh else .running 20 },
        if z.sentSpeed = 0 then d else drop) := by
  obtain ⟨g, gs, rfl⟩ := List.exists_cons_of_ne_nil hgs
  exact foldl_stopClaimedAt_of_standing (z.stopClaimed_stopClaim g) rfl drop _ gs

theorem State.checkAll_zoom {s : State} (h12 : s.sup.groups.length = 12) {gs : List Group} (hnodup : gs.Nodup)
    (ps : Group → List Bool) :
    ((s.checkAll gs ps).zoom, (s.checkAll gs ps).stab.dropWindow) =
      (s.sup.risenTo gs ps Actions.zoomStop).foldl (stopClaimedAt s.items.stab.dropWindow)
        (s.zoom, s.stab.dropWindow) :=
  State.checkAll_part_of_action h12 hnodup ps (part := fun v => (v.zoom, v.stab.dropWindow)) Actions.zoomStop
    (fun _ _ => rfl) (fun v g ds => by simp)
    (fun v g a hitems => by
      cases hstop : a.zoomStop <;>
        simp [State.runActions, State.when, apply_ite State.zoom, apply_ite State.stab, apply_ite State.items, hstop,
          stopClaimedAt, apply_ite Stabiliser.dropWindow, State.faultStabOff_stab, Stabiliser.faultOff_dropWindow,
          State.faultZoomStop_zoom, State.faultZoomStop_dropWindow, hitems])

end Sys2Proof.Machine
end

section
/-! PROOF. The fault actions in a check cycle at the record assembler (R93, R100, R159): what MARK_CLIP and STOP_REC
make of the recorder, and what the risings of a cycle make of it in order. -/

namespace Sys2Proof.Machine

/-! ### MARK_CLIP -/

/-- A part at the FAULT mark of a group, placed at the last mark's frame while the part is open (R100). -/
def ClipPart.faultMarked (last : Option OpenFrame) (p : ClipPart) (g : Group) : ClipPart :=
  match last with
  | some m => if p.phase = .opened then p.addMark ⟨.fault g, m.frame⟩ else p
  | none => p

def Recorder.faultMark (r : Recorder) (g : Group) : Recorder :=
  { r with parts := r.parts.map (ClipPart.faultMarked r.lastMark · g) }

theorem Recorder.faultMark_of_same {r : Recorder} {g : Group}
    (h : ∀ p ∈ r.parts, p.faultMarked r.lastMark g = p) : r.faultMark g = r := by
  have hparts : r.parts.map (ClipPart.faultMarked r.lastMark · g) = r.parts :=
    (List.map_congr_left h).trans (List.map_id _)
  rw [Recorder.faultMark, hparts]

theorem State.faultMarkClip_recorder (s : State) (g : Group) :
    (s.faultMarkClip g).recorder = s.recorder.faultMark g := by
  cases hm : s.recorder.lastMark with
  | none =>
    rw [Recorder.faultMark_of_same fun p _ => by simp [ClipPart.faultMarked, hm]]
    simp [State.faultMarkClip, State.placeMark, hm]
  | some m =>
    by_cases hopen : s.recorder.anyOpen = true
    · simp [State.faultMarkClip, State.placeMark, Recorder.faultMark, Recorder.markOpen, ClipPart.faultMarked, hm,
        hopen]
    · have hclosed : ∀ p ∈ s.recorder.parts, p.phase ≠ .opened := by
        simpa [Recorder.anyOpen] using hopen
      rw [Recorder.faultMark_of_same fun p hp => by simp [ClipPart.faultMarked, hm, hclosed p hp]]
      simp [State.faultMarkClip, State.placeMark, hm, hopen]

theorem ClipPart.addMark_keeps (p : ClipPart) (m : ClipMark) :
    (p.addMark m).slot = p.slot ∧ (p.addMark m).phase = p.phase := by
  simp only [ClipPart.addMark]
  (repeat' split) <;> exact ⟨rfl, rfl⟩

theorem ClipPart.faultMarked_keeps (last : Option OpenFrame) (p : ClipPart) (g : Group) :
    (p.faultMarked last g).slot = p.slot ∧ (p.faultMarked last g).phase = p.phase := by
  simp only [ClipPart.faultMarked]
  split
  · split
    · exact p.addMark_keeps _
    · exact ⟨rfl, rfl⟩
  · exact ⟨rfl, rfl⟩

/-- A part at the FAULT marks of several groups, in turn. -/
def ClipPart.faultMarkedAll (last : Option OpenFrame) (gs : List Group) (p : ClipPart) : ClipPart :=
  gs.foldl (ClipPart.faultMarked last) p

theorem ClipPart.faultMarkedAll_keeps (last : Option OpenFrame) (gs : List Group) (p : ClipPart) :
    (p.faultMarkedAll last gs).slot = p.slot ∧ (p.faultMarkedAll last gs).phase = p.phase := by
  induction gs generalizing p with
  | nil => exact ⟨rfl, rfl⟩
  | cons g gs ih =>
    obtain ⟨hslot, hphase⟩ := ih (p.faultMarked last g)
    obtain ⟨hslot', hphase'⟩ := p.faultMarked_keeps last g
    exact ⟨hslot.trans hslot', hphase.trans hphase'⟩

/-- The marks of a part in turn, under one judgement of its phase and of the last mark. -/
theorem ClipPart.faultMarkedAll_eq (last : Option OpenFrame) (gs : List Group) (p : ClipPart) :
    p.faultMarkedAll last gs =
      match last with
      | some m =>
        if p.phase = .opened then gs.foldl (fun q g => q.addMark ⟨.fault g, m.frame⟩) p else p
      | none => p := by
  induction gs generalizing p with
  | nil => cases last <;> simp [ClipPart.faultMarkedAll]
  | cons g gs ih =>
    have hcons : p.faultMarkedAll last (g :: gs) = (p.faultMarked last g).faultMarkedAll last gs := rfl
    rw [hcons, ih, (p.faultMarked_keeps last g).2]
    cases last with
    | none => rfl
    | some m => by_cases hp : p.phase = .opened <;> simp [ClipPart.faultMarked, hp]

/-- The recorder at the FAULT marks of several groups, in turn. -/
def Recorder.faultMarkAll (r : Recorder) (gs : List Group) : Recorder := gs.foldl Recorder.faultMark r

theorem Recorder.faultMarkAll_eq (r : Recorder) (gs : List Group) :
    r.faultMarkAll gs = { r with parts := r.parts.map (ClipPart.faultMarkedAll r.lastMark gs) } := by
  induction gs generalizing r with
  | nil =>
    have hid : r.parts.map (ClipPart.faultMarkedAll r.lastMark []) = r.parts := List.map_id _
    rw [hid]
    rfl
  | cons g gs ih =>
    refine (ih (r.faultMark g)).trans ?_
    simp only [Recorder.faultMark, List.map_map]
    rfl

/-! ### Parts by slot -/

/-- The part most recently created on a slot is open. -/
def Recorder.newestOpen (r : Recorder) (x : SlotId) : Bool :=
  match r.partOn x with
  | some p => p.phase == .opened
  | none => false

theorem State.partOpened_eq (s : State) (x : SlotId) : s.partOpened x = s.recorder.newestOpen x := rfl

theorem find?_modifyFirst_same {α : Type} {p : α → Bool} {f : α → α} (hf : ∀ a, p (f a) = p a) (xs : List α) :
    (modifyFirst p f xs).find? p = (xs.find? p).map f := by
  induction xs with
  | nil => rfl
  | cons a xs ih => by_cases ha : p a = true <;> simp [modifyFirst, ha, hf, ih]

theorem find?_modifyFirst_other {α : Type} {p q : α → Bool} {f : α → α} (hf : ∀ a, q (f a) = q a)
    (hpq : ∀ a, p a = true → q a = false) (xs : List α) : (modifyFirst p f xs).find? q = xs.find? q := by
  induction xs with
  | nil => rfl
  | cons a xs ih =>
    by_cases ha : p a = true
    · simp [modifyFirst, ha, hf, hpq a ha]
    · simp only [modifyFirst, ha, Bool.false_eq_true, if_false, List.find?_cons, ih]

theorem map_modifyFirst {α β : Type} {p : α → Bool} {f : α → α} {k : α → β} (hk : ∀ a, k (f a) = k a)
    (xs : List α) : (modifyFirst p f xs).map k = xs.map k := by
  induction xs with
  | nil => rfl
  | cons a xs ih => by_cases ha : p a = true <;> simp [modifyFirst, ha, hk, ih]

def ClipPart.beginClosing (p : ClipPart) : ClipPart := { p with phase := .closing }

/-- The newest part of a slot, if it is open, begins to close (R119). -/
def Recorder.closeNewest (r : Recorder) (x : SlotId) : Recorder :=
  if r.newestOpen x = true then r.modifyPart x ClipPart.beginClosing else r

theorem Recorder.closeNewest_eq (r : Recorder) (x : SlotId) :
    r.closeNewest x = { r with parts := (r.closeNewest x).parts } := by
  simp only [Recorder.closeNewest]
  split <;> rfl

theorem Recorder.closeNewest_newestOpen (r : Recorder) (x y : SlotId) :
    (r.closeNewest x).newestOpen y = if y = x then false else r.newestOpen y := by
  simp only [Recorder.closeNewest]
  by_cases hopen : r.newestOpen x = true
  · rw [if_pos hopen]
    by_cases hxy : y = x
    · subst hxy
      simp only [Recorder.newestOpen, Recorder.partOn, Recorder.modifyPart, if_true]
      rw [find?_modifyFirst_same (f := ClipPart.beginClosing) fun _ => rfl]
      cases r.parts.find? (fun p => p.slot == y) <;> rfl
    · simp only [Recorder.newestOpen, Recorder.partOn, Recorder.modifyPart, if_neg hxy]
      rw [find?_modifyFirst_other (f := ClipPart.beginClosing) (fun _ => rfl)]
      intro p hp
      simp only [beq_iff_eq] at hp
      simp [hp, Ne.symm hxy]
  · rw [if_neg hopen]
    by_cases hxy : y = x
    · simpa [hxy] using hopen
    · rw [if_neg hxy]

/-- Closing leaves the marks of every part. -/
theorem Recorder.closeNewest_marks (r : Recorder) (x : SlotId) :
    (r.closeNewest x).parts.map (fun p => (p.marks, p.marksLost)) =
      r.parts.map (fun p => (p.marks, p.marksLost)) := by
  simp only [Recorder.closeNewest]
  split
  · exact map_modifyFirst (f := ClipPart.beginClosing) (fun _ => rfl) _
  · rfl

theorem State.beginClose_recorder {s : State} {x : SlotId} (h : s.partOpened x = true) (reason : CloseReason) :
    (s.beginClose x reason).recorder = s.recorder.closeNewest x := by
  have hphase : (s.recorder.partOn x).map ClipPart.phase = some .opened := by
    rw [State.partOpened_eq, Recorder.newestOpen] at h
    cases hp : s.recorder.partOn x with
    | none => simp [hp] at h
    | some p => simpa [hp] using h
  rw [Recorder.closeNewest, ← State.partOpened_eq, if_pos h]
  simp only [State.beginClose, hphase]
  split <;> simp [State.modifyPart] <;> rfl

theorem State.closeOpen_recorder (s : State) :
    (s.openSlots.foldl (fun s x => s.beginClose x (s.stopCloseReason x)) s).recorder =
      (s.recorder.closeNewest .a).closeNewest .b := by
  have hother : (s.recorder.closeNewest .a).newestOpen .b = s.recorder.newestOpen .b :=
    Recorder.closeNewest_newestOpen ..
  have hb : ∀ u : State, u.recorder = s.recorder.closeNewest .a → s.recorder.newestOpen .b = true → ∀ reason,
      (u.beginClose .b reason).recorder = (s.recorder.closeNewest .a).closeNewest .b := by
    intro u hu hopen reason
    rw [State.beginClose_recorder (by rw [State.partOpened_eq, hu, hother, hopen]), hu]
  have hclosed : s.recorder.newestOpen .b = false →
      (s.recorder.closeNewest .a).closeNewest .b = s.recorder.closeNewest .a := by
    intro hopen
    rw [Recorder.closeNewest, hother, hopen, if_neg Bool.false_ne_true]
  cases ha : s.partOpened .a <;> cases hopen : s.partOpened .b <;>
    simp only [State.openSlots, List.filter_cons, List.filter_nil, ha, hopen, if_true, Bool.false_eq_true, if_false,
      List.foldl_cons, List.foldl_nil]
  case false.false => rw [hclosed hopen, Recorder.closeNewest, ← State.partOpened_eq, ha]; rfl
  case false.true =>
    exact hb s (by rw [Recorder.closeNewest, ← State.partOpened_eq, ha]; rfl) hopen _
  case true.false => rw [hclosed hopen, State.beginClose_recorder ha]
  case true.true => exact hb _ (State.beginClose_recorder ha _) hopen _

/-! ### STOP_REC -/

theorem State.setRecState_recorder (s : State) (st : RecState) (reason : RecReason) :
    (s.setRecState st reason).recorder = { s.recorder with state := st, lamp := lampOf st } := by
  simp only [State.setRecState]
  split <;> simp

/-- The recorder in its rest state; in IDLE it gives up the unit under assembly (R85, R94). -/
def Recorder.rested (r : Recorder) (it : RecItems) : Recorder :=
  let d : Recorder := { r with state := it.restState, lamp := lampOf it.restState }
  if it.restState = .idle then d.releaseAssembly else d

theorem State.endRecording_recorder (s : State) (reason : RecReason) :
    (s.endRecording reason).recorder =
      { s.recorder with pendingStop := none, stopReason := some reason }.rested s.items.record := by
  let u : State := { s with recorder := { s.recorder with pendingStop := none, stopReason := some reason } }.setRecState
    s.items.record.restState reason
  have hitems : u.items = s.items := by simp [u]
  have hrecorder : u.recorder =
      { s.recorder with
        pendingStop := none, stopReason := some reason, state := s.items.record.restState
        lamp := lampOf s.items.record.restState } := State.setRecState_recorder ..
  have hend : s.endRecording reason =
      match u.items.record.restState with
      | .idle => { u with recorder := u.recorder.releaseAssembly }
      | _ => u := rfl
  rw [hend, hitems]
  split
  next hidle => rw [Recorder.rested, if_pos hidle, hrecorder]
  next hidle => rw [Recorder.rested, if_neg hidle, hrecorder]

/-- The recorder as it enters STOPPING with reason FAULT, every open part beginning to close (R93). -/
def Recorder.stopping (r : Recorder) : Recorder :=
  ({ r with
    pendingStop := none, stopReason := some .fault, state := .stopping, lamp := .blink }.closeNewest .a).closeNewest .b

/-- The recorder at a stop with reason FAULT entered at once (R93, R94). -/
def Recorder.stopNow (r : Recorder) (it : RecItems) : Recorder :=
  if r.stopping.allEnded = true then r.stopping.rested it else r.stopping

/-- The recorder at the fault action STOP_REC (R93). -/
def Recorder.faultStop (it : RecItems) (r : Recorder) : Recorder :=
  if r.canStop = true then
    if r.openFrame.isSome = true then { r with pendingStop := some .fault } else r.stopNow it
  else r

theorem Recorder.stopping_eq (r : Recorder) :
    r.stopping =
      { r with
        pendingStop := none, stopReason := some .fault, state := .stopping, lamp := .blink
        parts := r.stopping.parts } := by
  simp only [Recorder.stopping]
  rw [Recorder.closeNewest_eq, Recorder.closeNewest_eq]

theorem Recorder.stopping_keeps (r : Recorder) :
    r.stopping.state = .stopping ∧ r.stopping.pendingStop = none ∧ r.stopping.stopReason = some .fault ∧
    r.stopping.lastMark = r.lastMark ∧ r.stopping.essenceGap = r.essenceGap := by
  rw [Recorder.stopping_eq]
  exact ⟨rfl, rfl, rfl, rfl, rfl⟩

theorem State.enterStopping_recorder (s : State) :
    (s.enterStopping .fault).recorder = s.recorder.stopNow s.items.record := by
  let u : State := { s with
    recorder := { s.recorder with pendingStop := none, stopReason := some .fault } }.setRecState .stopping .fault
  let v : State := u.openSlots.foldl (fun s x => s.beginClose x (s.stopCloseReason x)) u
  have hitems : v.items = s.items := by simp [v, u]
  have hrecorder : v.recorder = s.recorder.stopping := by
    rw [State.closeOpen_recorder, State.setRecState_recorder]
    rfl
  have hstate : v.recorder.state = .stopping := hrecorder ▸ s.recorder.stopping_keeps.1
  have hreason : v.recorder.stopReason = some .fault := hrecorder ▸ s.recorder.stopping_keeps.2.2.1
  have hsame : { v.recorder with pendingStop := none, stopReason := some .fault } = v.recorder := by
    rw [hrecorder, Recorder.stopping_eq]
  have henter : s.enterStopping .fault = v.afterPartEnd := rfl
  rw [henter, State.afterPartEnd_eq, Recorder.stopNow, ← hrecorder, hstate, hreason]
  by_cases hended : v.recorder.allEnded = true
  · rw [if_pos ⟨hended, rfl⟩, if_pos hended, State.endRecording_recorder, hitems]
    exact congrArg (Recorder.rested · s.items.record) hsame
  · rw [if_neg fun h => hended h.1, if_neg hended]

theorem State.faultStopRec_recorder (s : State) :
    s.faultStopRec.recorder = s.recorder.faultStop s.items.record := by
  by_cases hcan : s.recorder.canStop = true
  · rw [State.faultStopRec, State.requestStop, Recorder.faultStop, if_pos hcan, if_pos hcan]
    dsimp only
    split
    next f hframe => rw [if_pos (by rw [hframe]; rfl)]
    next hframe =>
      rw [if_neg (by rw [hframe]; exact Bool.false_ne_true), State.enterStopping_recorder]
      rfl
  · rw [State.faultStopRec, State.requestStop, Recorder.faultStop, if_neg hcan, if_neg hcan]

/-! ### What a stop entered at once leaves -/

theorem Recorder.releaseAssembly_keeps (r : Recorder) :
    r.releaseAssembly.state = r.state ∧ r.releaseAssembly.pendingStop = r.pendingStop ∧
    r.releaseAssembly.stopReason = r.stopReason ∧ r.releaseAssembly.parts = r.parts ∧
    r.releaseAssembly.lastMark = r.lastMark ∧ r.releaseAssembly.essenceGap = r.essenceGap := by
  simp only [Recorder.releaseAssembly]
  split <;> exact ⟨rfl, rfl, rfl, rfl, rfl, rfl⟩

theorem Recorder.rested_keeps (r : Recorder) (it : RecItems) :
    (r.rested it).state = it.restState ∧ (r.rested it).pendingStop = r.pendingStop ∧
    (r.rested it).stopReason = r.stopReason ∧ (r.rested it).parts = r.parts ∧
    (r.rested it).lastMark = r.lastMark ∧ (r.rested it).essenceGap = r.essenceGap := by
  simp only [Recorder.rested]
  split
  · exact Recorder.releaseAssembly_keeps _
  · exact ⟨rfl, rfl, rfl, rfl, rfl, rfl⟩

theorem Recorder.allEnded_iff (r : Recorder) : r.allEnded = true ↔ ∀ p ∈ r.parts, p.phase = .ended := by
  simp [Recorder.allEnded]

/-- A recorder that a stop with reason FAULT has brought to STOPPING or to rest (R93, R94). -/
structure Recorder.Stopped (it : RecItems) (r : Recorder) : Prop where
  pendingStop : r.pendingStop = none
  stopReason : r.stopReason = some .fault
  closed : ∀ x, r.newestOpen x = false
  state : r.state = if ∀ p ∈ r.parts, p.phase = .ended then it.restState else .stopping

theorem Recorder.stopNow_cases (r : Recorder) (it : RecItems) :
    (r.stopNow it).parts = r.stopping.parts ∧ (r.stopNow it).pendingStop = none ∧
    (r.stopNow it).stopReason = some .fault ∧ (r.stopNow it).lastMark = r.lastMark ∧
    (r.stopNow it).essenceGap = r.essenceGap ∧
    (r.stopNow it).state = if r.stopping.allEnded = true then it.restState else .stopping := by
  obtain ⟨hstate, hpending, hreason, hmark, hgap⟩ := r.stopping_keeps
  rw [Recorder.stopNow]
  split
  · obtain ⟨hstate', hpending', hreason', hparts', hmark', hgap'⟩ := r.stopping.rested_keeps it
    exact ⟨hparts', hpending'.trans hpending, hreason'.trans hreason, hmark'.trans hmark, hgap'.trans hgap, hstate'⟩
  · exact ⟨rfl, hpending, hreason, hmark, hgap, hstate⟩

theorem Recorder.newestOpen_of_parts {r q : Recorder} (h : q.parts = r.parts) (x : SlotId) :
    q.newestOpen x = r.newestOpen x := by
  simp only [Recorder.newestOpen, Recorder.partOn, h]

theorem Recorder.stopping_newestOpen (r : Recorder) (x : SlotId) : r.stopping.newestOpen x = false := by
  rw [Recorder.stopping, Recorder.closeNewest_newestOpen, Recorder.closeNewest_newestOpen]
  cases x <;> rfl

theorem Recorder.stopNow_stopped (r : Recorder) (it : RecItems) : (r.stopNow it).Stopped it := by
  obtain ⟨hparts, hpending, hreason, -, -, hstate⟩ := r.stopNow_cases it
  refine ⟨hpending, hreason, fun x => ?_, ?_⟩
  · rw [Recorder.newestOpen_of_parts hparts, Recorder.stopping_newestOpen]
  · rw [hstate, hparts]
    simp only [Recorder.allEnded_iff]

theorem Recorder.stopNow_marks (r : Recorder) (it : RecItems) :
    (r.stopNow it).parts.map (fun p => (p.marks, p.marksLost)) = r.parts.map (fun p => (p.marks, p.marksLost)) := by
  rw [(r.stopNow_cases it).1, Recorder.stopping, Recorder.closeNewest_marks, Recorder.closeNewest_marks]

/-- Later marks leave a stopped recorder stopped. -/
theorem Recorder.Stopped.faultMarkAll {it : RecItems} {r : Recorder} (h : r.Stopped it) (gs : List Group) :
    (r.faultMarkAll gs).Stopped it := by
  rw [Recorder.faultMarkAll_eq]
  refine ⟨h.pendingStop, h.stopReason, fun x => ?_, ?_⟩
  · have hslot : (fun p : ClipPart => p.slot == x) ∘ ClipPart.faultMarkedAll r.lastMark gs = fun p => p.slot == x := by
      funext p
      simp [(p.faultMarkedAll_keeps r.lastMark gs).1]
    rw [← h.closed x]
    simp only [Recorder.newestOpen, Recorder.partOn, List.find?_map, hslot]
    cases r.parts.find? (fun p => p.slot == x) with
    | none => rfl
    | some p => simp [(p.faultMarkedAll_keeps r.lastMark gs).2]
  · refine h.state.trans ?_
    simp [(ClipPart.faultMarkedAll_keeps r.lastMark gs _).2]

/-- STOPPING and the states of rest take no further stop (R95). -/
theorem Recorder.Stopped.canStop {it : RecItems} {r : Recorder} (h : r.Stopped it) : ¬r.canStop = true := by
  have hrest : it.restState = .idle ∨ it.restState = .standby := by
    simp only [RecItems.restState]
    split <;> simp
  have hstate := h.state
  simp only [Recorder.canStop, Bool.and_eq_true, Bool.or_eq_true, beq_iff_eq, not_and]
  intro hrecording
  split at hstate
  · rcases hrest with hr | hr <;> simp [hstate, hr] at hrecording
  · simp [hstate] at hrecording

/-! ### The risings of a cycle at the recorder -/

/-- The recorder at the ACTIONS of a group: MARK_CLIP before STOP_REC (R159). -/
def Recorder.faultActed (it : RecItems) (a : Actions) (r : Recorder) (g : Group) : Recorder :=
  let r := if a.markClip = true then r.faultMark g else r
  if a.stopRec = true then r.faultStop it else r

theorem State.checkAll_recorder {s : State} (h12 : s.sup.groups.length = 12) {gs : List Group} (hnodup : gs.Nodup)
    (ps : Group → List Bool) :
    (s.checkAll gs ps).recorder =
      (s.sup.risen gs ps).foldl (fun r g => r.faultActed s.items.record (s.sup.entry g).actions g) s.recorder :=
  State.checkAll_part h12 hnodup ps (part := State.recorder) (act := Recorder.faultActed s.items.record)
    (fun _ _ => rfl) (fun v g ds => by simp)
    (fun v g a hitems => by
      simp [State.runActions, State.when, apply_ite State.recorder, apply_ite State.items, State.faultStopRec_recorder,
        State.faultMarkClip_recorder, Recorder.faultActed, hitems])

section
variable {it : RecItems} {acts : Group → Actions}

theorem Recorder.faultMarkAll_append (r : Recorder) (gs hs : List Group) :
    r.faultMarkAll (gs ++ hs) = (r.faultMarkAll gs).faultMarkAll hs := List.foldl_append ..

theorem Recorder.faultMarkAll_canStop (r : Recorder) (gs : List Group) : (r.faultMarkAll gs).canStop = r.canStop := by
  rw [Recorder.faultMarkAll_eq]
  rfl

/-- What the risings of these groups mark (R159). -/
def markers (acts : Group → Actions) (gs : List Group) : List Group := gs.filter (fun g => (acts g).markClip)

/-- What the risings of these groups stop (R159). -/
def stoppers (acts : Group → Actions) (gs : List Group) : List Group := gs.filter (fun g => (acts g).stopRec)

theorem markers_cons (g : Group) (gs : List Group) : markers acts (g :: gs) = markers acts [g] ++ markers acts gs :=
  List.filter_append [g] gs

theorem Recorder.faultActed_eq (r : Recorder) (g : Group) :
    r.faultActed it (acts g) g =
      if (acts g).stopRec = true then (r.faultMarkAll (markers acts [g])).faultStop it
      else r.faultMarkAll (markers acts [g]) := by
  by_cases hmark : (acts g).markClip = true <;> simp [Recorder.faultActed, markers, hmark, Recorder.faultMarkAll]

theorem Recorder.faultStop_canStop (r : Recorder) : ¬(r.faultStop it).canStop = true := by
  simp only [Recorder.faultStop]
  split
  · split
    · simp [Recorder.canStop]
    · exact (r.stopNow_stopped it).canStop
  · assumption

/-- Risings none of which stops the recording: their marks alone are placed. -/
theorem foldl_faultActed_of_no_stop {r : Recorder} {gs : List Group}
    (h : ¬r.canStop = true ∨ stoppers acts gs = []) :
    gs.foldl (fun r g => r.faultActed it (acts g) g) r = r.faultMarkAll (markers acts gs) := by
  induction gs generalizing r with
  | nil => rfl
  | cons g gs ih =>
    have hstep : r.faultActed it (acts g) g = r.faultMarkAll (markers acts [g]) := by
      rw [Recorder.faultActed_eq]
      split
      next hstop =>
        have hcannot : ¬r.canStop = true := h.resolve_right (by simp [stoppers, hstop])
        rw [Recorder.faultStop, Recorder.faultMarkAll_canStop, if_neg hcannot]
      next => rfl
    have hrest : stoppers acts (g :: gs) = [] → stoppers acts gs = [] := by
      simp only [stoppers, List.filter_eq_nil_iff]
      exact fun hnone k hk => hnone k (List.mem_cons_of_mem g hk)
    rw [List.foldl_cons, hstep, markers_cons g gs, Recorder.faultMarkAll_append]
    refine ih ?_
    rw [Recorder.faultMarkAll_canStop]
    exact h.imp_right hrest

/-- A recording that can stop stops at the first rising to STOP_REC: the marks up to that group are placed before,
and those of the later groups after (R159). -/
theorem foldl_faultActed_of_stop {r : Recorder} {gs : List Group}
    (hsorted : gs.Pairwise (fun g h => g.number < h.number)) (hstops : stoppers acts gs ≠ []) :
    ∃ before after, markers acts gs = before ++ after ∧
      (∃ h ∈ stoppers acts gs, ∀ g ∈ after, h.number < g.number) ∧
      gs.foldl (fun r g => r.faultActed it (acts g) g) r =
        ((r.faultMarkAll before).faultStop it).faultMarkAll after := by
  induction gs generalizing r with
  | nil => exact absurd rfl hstops
  | cons g gs ih =>
    obtain ⟨hfirst, hrest⟩ := List.pairwise_cons.mp hsorted
    rw [List.foldl_cons, Recorder.faultActed_eq, markers_cons g gs]
    by_cases hstop : (acts g).stopRec = true
    · refine ⟨markers acts [g], markers acts gs, rfl, ⟨g, by simp [stoppers, hstop], fun k hk => ?_⟩, ?_⟩
      · exact hfirst k (List.mem_of_mem_filter hk)
      · rw [if_pos hstop, foldl_faultActed_of_no_stop (.inl (Recorder.faultStop_canStop _))]
    · have hsame : stoppers acts (g :: gs) = stoppers acts gs := List.filter_cons_of_neg hstop
      rw [hsame] at hstops ⊢
      rw [if_neg hstop]
      obtain ⟨before, after, hmarks, hlater, hfold⟩ := ih (r := r.faultMarkAll (markers acts [g])) hrest hstops
      refine ⟨markers acts [g] ++ before, after, by rw [hmarks, List.append_assoc], hlater, ?_⟩
      rw [hfold, Recorder.faultMarkAll_append]

/-! ### The recorder after a cycle, as the risings to STOP_REC and MARK_CLIP decide -/

theorem Recorder.canStop_iff (r : Recorder) :
    r.canStop = true ↔ (r.state = .starting ∨ r.state = .recording) ∧ r.pendingStop = none := by
  simp [Recorder.canStop]

/-- The marks of a part, and how many were lost. -/
def ClipPart.markList (p : ClipPart) : List ClipMark × Nat := (p.marks, p.marksLost)

/-- No stop: the record state stands, and the parts gain the marks. -/
theorem recorder_of_no_stop {r t : Recorder} {gs : List Group}
    (ht : t = gs.foldl (fun r g => r.faultActed it (acts g) g) r) (h : ¬r.canStop = true ∨ stoppers acts gs = []) :
    t = { r with parts := r.parts.map (ClipPart.faultMarkedAll r.lastMark (markers acts gs)) } := by
  rw [ht, foldl_faultActed_of_no_stop h, Recorder.faultMarkAll_eq]

/-- A stop while a frame is open waits for its close, and the parts gain the marks of every rising. -/
theorem recorder_of_waiting_stop {r t : Recorder} {gs : List Group}
    (ht : t = gs.foldl (fun r g => r.faultActed it (acts g) g) r)
    (hsorted : gs.Pairwise (fun g h => g.number < h.number)) (hcan : r.canStop = true) (hstops : stoppers acts gs ≠ [])
    (hframe : r.openFrame.isSome = true) :
    t = { r with
      pendingStop := some .fault
      parts := r.parts.map (ClipPart.faultMarkedAll r.lastMark (markers acts gs)) } := by
  obtain ⟨before, after, hmarks, -, hfold⟩ := foldl_faultActed_of_stop (it := it) (r := r) hsorted hstops
  have hwaits : (r.faultMarkAll before).faultStop it = { r.faultMarkAll before with pendingStop := some .fault } := by
    have hframe' : (r.faultMarkAll before).openFrame.isSome = true := by rw [Recorder.faultMarkAll_eq]; exact hframe
    rw [Recorder.faultStop, Recorder.faultMarkAll_canStop, if_pos hcan, if_pos hframe']
  have hparts : ClipPart.faultMarkedAll r.lastMark after ∘ ClipPart.faultMarkedAll r.lastMark before =
      ClipPart.faultMarkedAll r.lastMark (before ++ after) :=
    funext fun p => (List.foldl_append ..).symm
  rw [ht, hfold, hwaits, Recorder.faultMarkAll_eq, Recorder.faultMarkAll_eq, hmarks, ← hparts]
  simp only [List.map_map]

/-- A stop with no frame open is entered at once; the marks of the groups up to its own are placed first. -/
theorem recorder_of_stop_at_once {r t : Recorder} {gs : List Group}
    (ht : t = gs.foldl (fun r g => r.faultActed it (acts g) g) r)
    (hsorted : gs.Pairwise (fun g h => g.number < h.number)) (hcan : r.canStop = true) (hstops : stoppers acts gs ≠ [])
    (hframe : ¬r.openFrame.isSome = true) :
    t.Stopped it ∧
    ((∀ g ∈ markers acts gs, ∀ h ∈ stoppers acts gs, g.number ≤ h.number) →
      t.parts.map ClipPart.markList =
        (r.parts.map (ClipPart.faultMarkedAll r.lastMark (markers acts gs))).map ClipPart.markList) := by
  obtain ⟨before, after, hmarks, ⟨h, hh, hlater⟩, hfold⟩ := foldl_faultActed_of_stop (it := it) (r := r) hsorted hstops
  have hnow : (r.faultMarkAll before).faultStop it = (r.faultMarkAll before).stopNow it := by
    have hframe' : ¬(r.faultMarkAll before).openFrame.isSome = true := by rw [Recorder.faultMarkAll_eq]; exact hframe
    rw [Recorder.faultStop, Recorder.faultMarkAll_canStop, if_pos hcan, if_neg hframe']
  rw [ht, hfold, hnow]
  refine ⟨(Recorder.stopNow_stopped _ it).faultMarkAll after, fun hupto => ?_⟩
  have hnone : after = [] := by
    refine List.eq_nil_iff_forall_not_mem.mpr fun g hg => ?_
    have hle := hupto g (hmarks ▸ List.mem_append_right before hg) h hh
    exact absurd (hlater g hg) (by omega)
  subst hnone
  rw [hmarks, List.append_nil]
  refine (Recorder.stopNow_marks _ it).trans ?_
  rw [Recorder.faultMarkAll_eq]
  rfl

end

end Sys2Proof.Machine
end

section
/-! PROOF. The notices of a check cycle (R160) and the one-check indicators (R152): what each operation that a fault
action uses hands to the body link, and which of the sampled indicators it leaves. -/

namespace Sys2Proof.Machine

/-! ### Notices at the body link -/

/-- A link controller handed these notices, in order. -/
def LinkCtl.handNotices (c : LinkCtl) (ns : List Notice) : LinkCtl := ns.foldl (fun c n => c.hand (.notice n)) c

theorem LinkCtl.handNotices_append (c : LinkCtl) (ns ms : List Notice) :
    c.handNotices (ns ++ ms) = (c.handNotices ns).handNotices ms := List.foldl_append ..

theorem LinkCtl.handNotices_keeps (c : LinkCtl) (ns : List Notice) :
    (c.handNotices ns).state = c.state ∧ (c.handNotices ns).crcPresent = c.crcPresent := by
  induction ns generalizing c with
  | nil => exact ⟨rfl, rfl⟩
  | cons n ns ih =>
    obtain ⟨hstate, hcrc⟩ := ih (c.hand (.notice n))
    exact ⟨hstate.trans (by simp), hcrc.trans (by simp)⟩

theorem LinkCtl.hand_txQueue {c : LinkCtl} (h : c.state = .aligned) (m : OutMsg) :
    (c.hand m).txQueue =
      if c.txQueue.length < 32 then c.txQueue ++ [⟨c.outSeq.get m.place, m⟩] else c.txQueue := by
  simp only [LinkCtl.hand, h, txCapacity]
  split <;> rfl

/-- While the queue of an aligned link has room at the end, it gained a packet for every notice (R176). -/
theorem LinkCtl.handNotices_txQueue {c : LinkCtl} (h : c.state = .aligned) {ns : List Notice}
    (hroom : (c.handNotices ns).txQueue.length < 32) :
    ∃ qs, (c.handNotices ns).txQueue = c.txQueue ++ qs ∧ qs.map OutPacket.msg = ns.map OutMsg.notice := by
  induction ns using List.reverseRecOn with
  | nil => exact ⟨[], by simp [LinkCtl.handNotices], rfl⟩
  | append_singleton ns n ih =>
    have hlast : c.handNotices (ns ++ [n]) = (c.handNotices ns).hand (.notice n) := c.handNotices_append ns [n]
    rw [hlast, LinkCtl.hand_txQueue ((c.handNotices_keeps ns).1.trans h)] at hroom ⊢
    split at hroom
    next hlt =>
      obtain ⟨qs, hqueue, hmsgs⟩ := ih hlt
      rw [if_pos hlt, hqueue, List.append_assoc]
      exact ⟨_, rfl, by simp [hmsgs]⟩
    next hfull => exact absurd hroom hfull

/-- What a packet says to one who picks from the notices. -/
def OutPacket.noticed {α : Type} (pick : Notice → Option α) (p : OutPacket) : Option α :=
  match p.msg with
  | .notice k => pick k
  | _ => none

theorem filterMap_noticed {α : Type} (pick : Notice → Option α) {qs : List OutPacket} {ns : List Notice}
    (h : qs.map OutPacket.msg = ns.map OutMsg.notice) : qs.filterMap (OutPacket.noticed pick) = ns.filterMap pick := by
  have hpick : OutPacket.noticed pick =
      (fun m : OutMsg => match m with | .notice k => pick k | _ => none) ∘ OutPacket.msg := rfl
  rw [hpick, ← List.filterMap_map, h, List.filterMap_map]
  rfl

def Notice.fault? : Notice → Option (Group × Nat)
  | .fault g d => some (g, d)
  | _ => none

def Notice.preset? : Notice → Option MoveEnd
  | .preset e => some e
  | _ => none

def Notice.mode? : Notice → Option (OpticsMode × StabState × ModeReason)
  | .mode o st r => some (o, st, r)
  | _ => none

/-! ### What is told from one state to another -/

/-- The PRESET notices that a stop claim still has to give: one for the move, one for the pending preset (R19). -/
def State.presetEnds (s : State) : List MoveEnd :=
  List.replicate (s.zoom.move.toList.length + s.zoom.pendingPreset.toList.length) .stopped

/-- The MODE notice that a STAB_OFF still has to give, unless the stabiliser is OFF (R34). -/
def State.stabEnds (s : State) : List (OpticsMode × StabState × ModeReason) :=
  if s.stab.state = .off then [] else [(s.zoom.mode, .off, .fault)]

/-- From one state to another the body link is handed notices: these FAULT notices, the PRESET and MODE notices that
the later state need no longer give, and others. -/
def State.Tells (s t : State) (fs : List (Group × Nat)) : Prop :=
  ∃ ns, t.body = s.body.handNotices ns ∧ ns.filterMap Notice.fault? = fs ∧
    ns.filterMap Notice.preset? ++ t.presetEnds = s.presetEnds ∧ ns.filterMap Notice.mode? ++ t.stabEnds = s.stabEnds

theorem State.Tells.trans {s t u : State} {fs gs : List (Group × Nat)} (h : s.Tells t fs) (h' : t.Tells u gs) :
    s.Tells u (fs ++ gs) := by
  obtain ⟨ns, hbody, hfaults, hpresets, hmodes⟩ := h
  obtain ⟨ms, hbody', hfaults', hpresets', hmodes'⟩ := h'
  refine ⟨ns ++ ms, ?_, ?_, ?_, ?_⟩
  · rw [hbody', hbody, LinkCtl.handNotices_append]
  · rw [List.filterMap_append, hfaults, hfaults']
  · rw [List.filterMap_append, List.append_assoc, hpresets', hpresets]
  · rw [List.filterMap_append, List.append_assoc, hmodes', hmodes]

theorem State.Tells.of_ends {s t : State} (hbody : t.body = s.body) (hpresets : t.presetEnds = s.presetEnds)
    (hmodes : t.stabEnds = s.stabEnds) : s.Tells t [] :=
  ⟨[], hbody, rfl, hpresets, hmodes⟩

theorem State.Tells.of_same {s t : State} (hbody : t.body = s.body) (hzoom : t.zoom = s.zoom)
    (hstab : t.stab = s.stab) : s.Tells t [] :=
  .of_ends hbody (by simp only [State.presetEnds, hzoom]) (by simp only [State.stabEnds, hzoom, hstab])

theorem State.tells_faults (s : State) (g : Group) (ds : List Nat) :
    s.Tells (ds.foldl (fun s d => s.notify (.fault g d)) s) (ds.map (fun d => (g, d))) := by
  induction ds generalizing s with
  | nil => exact .of_same rfl rfl rfl
  | cons d ds ih =>
    have hone : s.Tells (s.notify (.fault g d)) [(g, d)] :=
      ⟨[.fault g d], rfl, rfl, by simp [State.presetEnds, Notice.preset?], by simp [State.stabEnds, Notice.mode?]⟩
    exact hone.trans (ih _)

/-! ### STAB_OFF and ZOOM_STOP -/

theorem State.faultStabOff_tells (s : State) : s.Tells s.faultStabOff [] := by
  by_cases hoff : s.stab.state = .off
  · have hsame : s.faultStabOff = s := by simp only [State.faultStabOff, hoff]
    rw [hsame]
    exact .of_same rfl rfl rfl
  · have hturned : s.faultStabOff = (s.enterOff .fault).notifyMode .fault := by
      simp only [State.faultStabOff]
    have hstate : (s.enterOff .fault).stab.state = .off := by simp [State.enterOff]
    rw [hturned]
    refine ⟨[.mode s.zoom.mode .off .fault], ?_, rfl, ?_, ?_⟩
    · simp [State.notifyMode, hstate, LinkCtl.handNotices]
    · simp [State.presetEnds, Notice.preset?]
    · simp [State.stabEnds, Notice.mode?, hoff, hstate]

theorem State.endMove_tells (s : State) : s.Tells (s.endMove .stopped) [] := by
  cases hm : s.zoom.move with
  | none =>
    have hsame : s.endMove .stopped = s := by simp only [State.endMove, hm]
    rw [hsame]
    exact .of_same rfl rfl rfl
  | some m =>
    refine ⟨[.preset .stopped], ?_, rfl, ?_, ?_⟩
    · simp [State.endMove, hm, LinkCtl.handNotices]
    · simp [State.endMove, hm, State.presetEnds, Notice.preset?, ← List.replicate_succ, Nat.add_comm]
    · simp [State.endMove, hm, State.stabEnds, Notice.mode?]

theorem State.endPending_tells (s : State) : s.Tells (s.endPending .stopped) [] := by
  cases hp : s.zoom.pendingPreset with
  | none =>
    have hsame : s.endPending .stopped = s := by simp only [State.endPending, hp]
    rw [hsame]
    exact .of_same rfl rfl rfl
  | some j =>
    refine ⟨[.preset .stopped], ?_, rfl, ?_, ?_⟩
    · simp [State.endPending, hp, LinkCtl.handNotices]
    · simp [State.endPending, hp, State.presetEnds, Notice.preset?, ← List.replicate_succ]
    · simp [State.endPending, hp, State.stabEnds, Notice.mode?]

theorem State.arbitrate_tells (s : State) : s.Tells s.arbitrate [] := by
  rcases s.arbitrate_cases with ⟨-, ha⟩ | ⟨-, ha⟩ <;> rw [ha] <;> exact .of_ends rfl rfl rfl

theorem State.stopArises_tells (s : State) (before : Bool) : s.Tells (s.stopArises before) [] := by
  simp only [State.stopArises]
  split
  · exact (s.endMove_tells.trans (State.endPending_tells _)).trans (.of_ends rfl rfl rfl)
  · exact .of_same rfl rfl rfl

theorem State.faultZoomStop_tells (s : State) (g : Group) : s.Tells (s.faultZoomStop g) [] := by
  have hjoined : s.Tells (s.stopJoined g) [] := State.Tells.trans (.of_ends rfl rfl rfl) (State.stopArises_tells _ _)
  exact hjoined.trans (State.arbitrate_tells _)

/-! ### STOP_REC -/

/-- A notice that is none of FAULT, PRESET and MODE. -/
def Notice.IsOther (n : Notice) : Prop := n.fault? = none ∧ n.preset? = none ∧ n.mode? = none

/-- The body link is handed other notices alone. -/
def LinkCtl.HearsOthers (c d : LinkCtl) : Prop :=
  ∃ ns, d = c.handNotices ns ∧ ∀ n ∈ ns, n.IsOther

theorem LinkCtl.HearsOthers.rfl {c : LinkCtl} : c.HearsOthers c := ⟨[], by simp [LinkCtl.handNotices], by simp⟩

theorem LinkCtl.HearsOthers.trans {c d e : LinkCtl} (h : c.HearsOthers d) (h' : d.HearsOthers e) :
    c.HearsOthers e := by
  obtain ⟨ns, rfl, hns⟩ := h
  obtain ⟨ms, rfl, hms⟩ := h'
  exact ⟨ns ++ ms, (c.handNotices_append ns ms).symm, fun n hn => (List.mem_append.mp hn).elim (hns n) (hms n)⟩

theorem LinkCtl.hearsOthers_hand (c : LinkCtl) {n : Notice} (hn : n.IsOther) :
    c.HearsOthers (c.hand (.notice n)) :=
  ⟨[n], by simp [LinkCtl.handNotices], by simpa using hn⟩

theorem State.setRecState_hears (s : State) (st : RecState) (reason : RecReason) :
    s.body.HearsOthers (s.setRecState st reason).body := by
  have hbody : (s.setRecState st reason).body = s.body.hand (.notice (.record st s.recorder.clipCounter reason)) := by
    simp only [State.setRecState]
    split <;> simp
  exact hbody ▸ LinkCtl.hearsOthers_hand _ ⟨rfl, rfl, rfl⟩

theorem State.slotTo_hears (s : State) (x : SlotId) (st : SlotState) (reason : SlotReason) :
    s.body.HearsOthers (s.slotTo x st reason).body := by
  have hbody : (s.slotTo x st reason).body = s.body.hand (.notice (.slot x st reason)) := by simp [State.slotTo]
  exact hbody ▸ LinkCtl.hearsOthers_hand _ ⟨rfl, rfl, rfl⟩

theorem State.beginClose_hears (s : State) (x : SlotId) (reason : CloseReason) :
    s.body.HearsOthers (s.beginClose x reason).body := by
  simp only [State.beginClose]
  split
  · split
    · simpa using State.slotTo_hears ((s.modifyPart x _).modifyCounts x _) x .closing reason.slotReason
    · simpa using LinkCtl.HearsOthers.rfl
  · split <;> simpa using LinkCtl.HearsOthers.rfl
  · exact .rfl

theorem State.endRecording_hears (s : State) (reason : RecReason) :
    s.body.HearsOthers (s.endRecording reason).body := by
  have hset := State.setRecState_hears { s with
    recorder := { s.recorder with pendingStop := none, stopReason := some reason } } s.items.record.restState reason
  simp only [State.endRecording]
  split <;> exact hset

theorem State.afterPartEnd_hears (s : State) : s.body.HearsOthers s.afterPartEnd.body := by
  rw [State.afterPartEnd_eq]
  split
  · exact State.endRecording_hears ..
  · exact .rfl

theorem State.closeAll_hears (xs : List SlotId) (why : State → SlotId → CloseReason) (s : State) :
    s.body.HearsOthers (xs.foldl (fun s x => s.beginClose x (why s x)) s).body := by
  induction xs generalizing s with
  | nil => exact .rfl
  | cons x xs ih => exact (State.beginClose_hears ..).trans (ih _)

theorem State.enterStopping_hears (s : State) (reason : RecReason) :
    s.body.HearsOthers (s.enterStopping reason).body := by
  let u : State := { s with
    recorder := { s.recorder with pendingStop := none, stopReason := some reason } }.setRecState .stopping reason
  have hset : s.body.HearsOthers u.body := State.setRecState_hears ..
  have hclose := State.closeAll_hears u.openSlots State.stopCloseReason u
  exact (hset.trans hclose).trans (State.afterPartEnd_hears _)

theorem State.requestStop_hears (s : State) (reason : RecReason) :
    s.body.HearsOthers (s.requestStop reason).body := by
  simp only [State.requestStop]
  split
  · split
    · exact .rfl
    · exact State.enterStopping_hears ..
  · exact .rfl

theorem State.Tells.of_hears {s t : State} (hbody : s.body.HearsOthers t.body) (hzoom : t.zoom = s.zoom)
    (hstab : t.stab = s.stab) : s.Tells t [] := by
  obtain ⟨ns, hns, hother⟩ := hbody
  have hfaults : ns.filterMap Notice.fault? = [] := List.filterMap_eq_nil_iff.mpr fun n hn => (hother n hn).1
  have hpresets : ns.filterMap Notice.preset? = [] := List.filterMap_eq_nil_iff.mpr fun n hn => (hother n hn).2.1
  have hmodes : ns.filterMap Notice.mode? = [] := List.filterMap_eq_nil_iff.mpr fun n hn => (hother n hn).2.2
  refine ⟨ns, hns, hfaults, ?_, ?_⟩
  · simp only [hpresets, State.presetEnds, hzoom, List.nil_append]
  · simp only [hmodes, State.stabEnds, hzoom, hstab, List.nil_append]

/-! ### The checks of a cycle -/

theorem State.when_tells {s : State} {f : State → State} (h : s.Tells (f s) []) (b : Bool) :
    s.Tells (s.when b f) [] := by
  cases b with
  | false => exact .of_same rfl rfl rfl
  | true => exact h

theorem State.runActions_tells (s : State) (g : Group) (a : Actions) : s.Tells (s.runActions g a) [] := by
  have hstab := State.when_tells s.faultStabOff_tells a.stabOff
  have hzoom := hstab.trans (State.when_tells (f := (State.faultZoomStop · g))
    (State.faultZoomStop_tells _ g) a.zoomStop)
  have hmark := hzoom.trans (State.when_tells (f := (State.faultMarkClip · g))
    (.of_same (by simp) (by simp) (by simp)) a.markClip)
  have hwarn := hmark.trans (State.when_tells (f := (State.faultWarn · g)) (.of_same rfl rfl rfl) a.vfWarn)
  exact hwarn.trans (State.when_tells (f := State.faultStopRec)
    (.of_hears (State.requestStop_hears ..) (by simp) (by simp)) a.stopRec)

/-- The FAULT notices at the check of a group: the details newly set, where NOTIFY includes NOTICE (R160). -/
def Supervision.faultsTold (v : Supervision) (g : Group) (ps : List Bool) : List (Group × Nat) :=
  if (v.entry g).notify.hasNotice = true then
    (newlySet (v.group g).flags ((v.group g).check (v.entry g) ps).flags).map (fun d => (g, d))
  else []

theorem State.faultNotices_tells {s : State} {g : Group} {e : FaultEntry} (he : s.sup.entry g = e) (ds : List Nat) :
    s.Tells (s.faultNotices g ds) (if e.notify.hasNotice = true then ds.map (fun d => (g, d)) else []) := by
  rw [State.faultNotices, he]
  split
  · exact s.tells_faults g ds
  · exact .of_same rfl rfl rfl

theorem State.checkGroup_tells (s : State) (g : Group) (ps : List Bool) :
    s.Tells (s.checkGroup g ps) (s.sup.faultsTold g ps) := by
  have hentry : (s.sup.checked g ps).entry g = s.sup.entry g := congrFun (s.sup.checked_entry g ps) g
  by_cases hr : s.sup.rises g ps = true
  · let u : State := { s with sup := s.sup.setGroup g ((s.sup.group g).check (s.sup.entry g) ps) }
    have hcounted : s.Tells u [] := .of_same rfl rfl rfl
    have hacted : s.Tells (u.runActions g (s.sup.entry g).actions) [] := hcounted.trans (u.runActions_tells g _)
    have hrisen : s.Tells { u.runActions g (s.sup.entry g).actions with sup := s.sup.checked g ps } [] :=
      hacted.trans (.of_same rfl rfl rfl)
    rw [State.checkGroup_of_rises hr]
    exact hrisen.trans (State.faultNotices_tells hentry _)
  · have hchecked : s.Tells { s with sup := s.sup.checked g ps } [] := .of_same rfl rfl rfl
    rw [State.checkGroup_of_not_rises hr]
    exact hchecked.trans (State.faultNotices_tells hentry _)

/-- The checks of groups tell the FAULT notices of each, judged as it stood before the checks. -/
theorem State.checkAll_tells {s : State} (h12 : s.sup.groups.length = 12) {gs : List Group} (hnodup : gs.Nodup)
    (ps : Group → List Bool) :
    s.Tells (s.checkAll gs ps) (gs.flatMap (fun g => s.sup.faultsTold g (ps g))) := by
  induction gs generalizing s with
  | nil => exact .of_same rfl rfl rfl
  | cons g gs ih =>
    obtain ⟨hg, hgs⟩ := List.nodup_cons.mp hnodup
    have hsup : (s.checkGroup g (ps g)).sup = s.sup.checked g (ps g) := s.checkGroup_sup g (ps g)
    have hlen : (s.checkGroup g (ps g)).sup.groups.length = 12 := by
      rw [hsup, (s.sup.checked_keeps g (ps g)).2.2.2, h12]
    have hlater : gs.flatMap (fun h => (s.checkGroup g (ps g)).sup.faultsTold h (ps h)) =
        gs.flatMap (fun h => s.sup.faultsTold h (ps h)) := by
      refine List.flatMap_congr fun h hh => ?_
      have hne : h ≠ g := fun heq => hg (heq ▸ hh)
      simp only [hsup, Supervision.faultsTold, Supervision.checked_entry, Supervision.checked_group h12, if_neg hne]
    have hrest := ih hlen hgs
    rw [hlater] at hrest
    exact (s.checkGroup_tells g (ps g)).trans hrest

/-! ### The one-check indicators (R152) -/

theorem State.setRecState_crc (s : State) (st : RecState) (reason : RecReason) :
    (s.setRecState st reason).head.crcPresent = s.head.crcPresent := by
  simp only [State.setRecState]
  split <;> simp

theorem State.endRecording_crc (s : State) (reason : RecReason) :
    (s.endRecording reason).head.crcPresent = s.head.crcPresent := by
  simp only [State.endRecording]
  split <;> simp [State.setRecState_crc]

theorem State.afterPartEnd_crc (s : State) : s.afterPartEnd.head.crcPresent = s.head.crcPresent := by
  rw [State.afterPartEnd_eq]
  split
  · exact State.endRecording_crc ..
  · rfl

theorem State.requestStop_crc (s : State) (reason : RecReason) :
    (s.requestStop reason).head.crcPresent = s.head.crcPresent := by
  simp only [State.requestStop]
  split
  · split
    · rfl
    · rw [State.enterStopping, State.afterPartEnd_crc, (State.closeAll_keeps _ _ _).1, State.setRecState_crc]
  · rfl

theorem State.arbitrate_crc (s : State) : s.arbitrate.head.crcPresent = s.head.crcPresent := by
  rcases s.arbitrate_cases with ⟨-, ha⟩ | ⟨-, ha⟩ <;> rw [ha]
  simp

theorem State.faultStabOff_crc (s : State) : s.faultStabOff.head.crcPresent = s.head.crcPresent := by
  simp only [State.faultStabOff]
  split <;> simp [State.enterOff]

theorem State.faultZoomStop_crc (s : State) (g : Group) :
    (s.faultZoomStop g).head.crcPresent = s.head.crcPresent := by
  rw [State.faultZoomStop, State.arbitrate_crc]
  simp

/-- The MEDIA_ERROR indicators of the slots. -/
def State.mediaErrors (s : State) : Bool × Bool := (s.slotA.mediaError, s.slotB.mediaError)

theorem State.modifySlot_mediaErrors (s : State) (x : SlotId) {f : Slot → Slot}
    (hf : ∀ c, (f c).mediaError = c.mediaError) : (s.modifySlot x f).mediaErrors = s.mediaErrors := by
  cases x <;> simp [State.mediaErrors, hf]

theorem State.modifyCounts_mediaErrors (s : State) (x : SlotId) (f : SlotPart → SlotPart) :
    (s.modifyCounts x f).mediaErrors = s.mediaErrors :=
  s.modifySlot_mediaErrors x fun _ => rfl

theorem State.slotTo_mediaErrors (s : State) (x : SlotId) (st : SlotState) (reason : SlotReason) :
    (s.slotTo x st reason).mediaErrors = s.mediaErrors := by
  have hnotify : (s.slotTo x st reason).mediaErrors =
      (s.modifySlot x (fun c => { c with state := st })).mediaErrors := by
    simp [State.slotTo, State.mediaErrors]
  rw [hnotify, State.modifySlot_mediaErrors]
  exact fun _ => rfl

theorem State.issue_mediaErrors (s : State) (x : SlotId) (b : RequestBody) :
    (s.issue x b).mediaErrors = s.mediaErrors := by
  cases x <;> cases b <;> rfl

theorem State.continueSlot_mediaErrors (s : State) (x : SlotId) : (s.continueSlot x).mediaErrors = s.mediaErrors := by
  have hwrite : (s.issueWrite x).mediaErrors = s.mediaErrors := by
    simp only [State.issueWrite]
    split
    · rw [State.issue_mediaErrors]; cases x <;> rfl
    · rw [State.issue_mediaErrors]; cases x <;> rfl
    · rfl
  rw [State.continueSlot, State.issueClose]
  split
  · rw [State.issue_mediaErrors, hwrite]
  · exact hwrite

theorem State.beginClose_mediaErrors (s : State) (x : SlotId) (reason : CloseReason) :
    (s.beginClose x reason).mediaErrors = s.mediaErrors := by
  have hpart : ∀ f, (s.modifyPart x f).mediaErrors = s.mediaErrors := fun f => by simp [State.mediaErrors]
  simp only [State.beginClose]
  split
  · split
    · rw [State.continueSlot_mediaErrors, State.slotTo_mediaErrors, State.modifyCounts_mediaErrors, hpart]
    · rw [State.modifyCounts_mediaErrors, hpart]
  · split
    · exact State.modifyCounts_mediaErrors ..
    · rfl
  · rfl

theorem State.closeAll_mediaErrors (xs : List SlotId) (why : State → SlotId → CloseReason) (s : State) :
    (xs.foldl (fun s x => s.beginClose x (why s x)) s).mediaErrors = s.mediaErrors := by
  induction xs generalizing s with
  | nil => rfl
  | cons x xs ih => exact (ih _).trans (State.beginClose_mediaErrors ..)

theorem State.requestStop_mediaErrors (s : State) (reason : RecReason) :
    (s.requestStop reason).mediaErrors = s.mediaErrors := by
  simp only [State.requestStop]
  split
  · split
    · rfl
    · have hend : ∀ u : State, u.afterPartEnd.mediaErrors = u.mediaErrors := fun u => by simp [State.mediaErrors]
      rw [State.enterStopping, hend, State.closeAll_mediaErrors]
      simp [State.mediaErrors]
  · rfl

theorem Recorder.faultMark_essenceGap (r : Recorder) (g : Group) : (r.faultMark g).essenceGap = r.essenceGap := rfl

theorem Recorder.faultStop_essenceGap (it : RecItems) (r : Recorder) :
    (r.faultStop it).essenceGap = r.essenceGap := by
  simp only [Recorder.faultStop]
  split
  · split
    · rfl
    · exact (r.stopNow_cases it).2.2.2.2.1
  · rfl

/-- The checks leave the one-check indicators to the end of the cycle. -/
theorem State.checkAll_oneCheck (s : State) (gs : List Group) (ps : Group → List Bool) :
    (s.checkAll gs ps).recorder.essenceGap = s.recorder.essenceGap ∧
    (s.checkAll gs ps).head.crcPresent = s.head.crcPresent ∧
    (s.checkAll gs ps).mediaErrors = s.mediaErrors := by
  refine ⟨State.checkAll_part_of_keeps gs ps (part := fun v => v.recorder.essenceGap) (fun _ _ => rfl)
      (fun v g ds => by simp) (fun v g a => ?gap),
    State.checkAll_part_of_keeps gs ps (part := fun v => v.head.crcPresent) (fun _ _ => rfl)
      (fun v g ds => by simp) (fun v g a => ?crc),
    State.checkAll_part_of_keeps gs ps (part := State.mediaErrors) (fun _ _ => rfl)
      (fun v g ds => by simp [State.mediaErrors]) (fun v g a => ?media)⟩
  case gap =>
    simp [State.runActions, State.when, apply_ite State.recorder, apply_ite Recorder.essenceGap,
      State.faultStopRec_recorder, State.faultMarkClip_recorder, Recorder.faultStop_essenceGap,
      Recorder.faultMark_essenceGap]
  case crc =>
    simp [State.runActions, State.when, apply_ite State.head, apply_ite LinkCtl.crcPresent, State.faultStopRec,
      State.requestStop_crc, State.faultStabOff_crc, State.faultZoomStop_crc]
  case media =>
    have hstab : ∀ u : State, u.faultStabOff.mediaErrors = u.mediaErrors := fun u => by simp [State.mediaErrors]
    have hzoom : ∀ u : State, (u.faultZoomStop g).mediaErrors = u.mediaErrors := fun u => by simp [State.mediaErrors]
    have hmark : ∀ u : State, (u.faultMarkClip g).mediaErrors = u.mediaErrors := fun u => by simp [State.mediaErrors]
    have hwarn : ∀ u : State, (u.faultWarn g).mediaErrors = u.mediaErrors := fun _ => rfl
    simp [State.runActions, State.when, apply_ite State.mediaErrors, State.faultStopRec,
      State.requestStop_mediaErrors, hstab, hzoom, hmark, hwarn]

end Sys2Proof.Machine
end

section
/-! PROOF. CHECK_CYCLE flags and what follows (R155, R157 to R161): supervision after the checks, the clearing of the
sampled indicators, and the statement assembled block by block. -/

namespace Sys2Proof.Machine

/-! ### Supervision after the checks -/

theorem Supervision.checked_sound {v : Supervision} (h : v.Sound) (g : Group) {ps : List Bool}
    (hps : ps.length = g.details) : (v.checked g ps).Sound where
  groups := (v.checked_keeps g ps).2.2.2.trans h.groups
  group k := by
    rw [Supervision.checked_group h.groups]
    split
    next hk => exact hk ▸ GroupState.check_sound (h.group g) _ hps
    next => exact h.group k
  attention := by
    by_cases hr : v.rises g ps = true
    · have hjudged : v.checked g ps =
          { v.setGroup g ((v.group g).check (v.entry g) ps) with
            risings := sat16 ((v.setGroup g ((v.group g).check (v.entry g) ps)).risings + 1) }.judgeAttention :=
        if_pos hr
      rw [hjudged]
      exact Supervision.judgeAttention_iff _
    · have hattention : (v.checked g ps).attention = v.attention := by
        rw [Supervision.checked, if_neg hr]; rfl
      have hsummary : ∀ k, ((v.checked g ps).group k).summary = (v.group k).summary := by
        intro k
        rw [Supervision.checked_group h.groups]
        by_cases hk : k = g
        · subst hk
          rw [if_pos rfl, Bool.eq_iff_iff]
          refine ⟨fun hset => ?_, GroupState.check_summary (h.group k) _ hps⟩
          simpa [Supervision.rises, hset] using hr
        · rw [if_neg hk]
      rw [hattention, h.attention, Supervision.checked_entry]
      simp only [hsummary]

theorem Supervision.checkedAll_sound {v : Supervision} (h : v.Sound) (gs : List Group) {ps : Group → List Bool}
    (hps : ∀ g, (ps g).length = g.details) : (v.checkedAll gs ps).Sound := by
  induction gs generalizing v with
  | nil => exact h
  | cons g gs ih => exact ih (Supervision.checked_sound h g (hps g))

/-- Each rising counts once, up to 65535 (R158). -/
theorem Supervision.checkedAll_risings {v : Supervision} (h12 : v.groups.length = 12) (hrange : v.risings ≤ 65535)
    {gs : List Group} (hnodup : gs.Nodup) (ps : Group → List Bool) :
    (v.checkedAll gs ps).risings = sat16 (v.risings + (v.risen gs ps).length) := by
  have hcount : ∀ (hs : List Group) n, n ≤ 65535 →
      hs.foldl (fun n (_ : Group) => sat16 (n + 1)) n = sat16 (n + hs.length) := by
    intro hs
    induction hs with
    | nil => exact fun n hn => (sat16_of_le hn).symm
    | cons h hs ih =>
      intro n _
      rw [List.foldl_cons, ih _ (sat16_le _), List.length_cons]
      simp only [sat16]
      omega
  rw [← hcount _ _ hrange]
  exact foldl_of_triggers (keeps := fun v : Supervision => v.groups.length = 12)
    (trigger := fun v g => v.rises g (ps g)) (part := Supervision.risings) (act := fun n _ => sat16 (n + 1))
    (fun v g hv => (v.checked_keeps g (ps g)).2.2.2.trans hv)
    (fun v g h hv hne => Supervision.checked_rises hv hne _ _)
    (fun v g _ => by simp only [Supervision.checked]; split <;> rfl) hnodup h12

/-! ### The sampled indicators cleared (R152) -/

/-- The state once the one-check indicators of these groups are clear. -/
def State.sampledCleared (s : State) (gs : List Group) : State :=
  { s with
    recorder := { s.recorder with essenceGap := s.recorder.essenceGap && !gs.contains .essenceGap }
    head := { s.head with crcPresent := s.head.crcPresent && !gs.contains .linkCrc }
    body := { s.body with crcPresent := s.body.crcPresent && !gs.contains .linkCrc }
    slotA := { s.slotA with mediaError := s.slotA.mediaError && !gs.contains .mediaError }
    slotB := { s.slotB with mediaError := s.slotB.mediaError && !gs.contains .mediaError } }

theorem State.clearSampled_all (s : State) (gs : List Group) :
    gs.foldl State.clearSampled s = s.sampledCleared gs := by
  induction gs generalizing s with
  | nil => simp [State.sampledCleared]
  | cons g gs ih =>
    rw [List.foldl_cons, ih]
    cases g <;> simp [State.clearSampled, State.sampledCleared]

/-! ### A check cycle, block by block -/

/-- The state of a check cycle before its sampled indicators are cleared. -/
def State.cycleChecked (s : State) : State := s.cycleBegun.checkAll s.sup.dueGroups s.present

theorem State.cycleEnded_eq (s : State) : s.cycleEnded = s.cycleChecked.sampledCleared s.sup.dueGroups :=
  State.clearSampled_all ..

/-- The groups that rise in a check cycle, in number order. -/
def State.risenInCycle (s : State) : List Group := s.cycleBegun.sup.risen s.sup.dueGroups s.present

/-- Those of them whose ACTIONS include one. -/
def State.risenInCycleTo (s : State) (does : Actions → Bool) : List Group :=
  s.risenInCycle.filter (fun g => does (s.sup.entry g).actions)

theorem State.cycleBegun_sound {s : State} (hs : s.supSound) : s.cycleBegun.sup.Sound :=
  have h := s.supSound_iff.mp hs
  ⟨h.groups, h.group, h.attention⟩

theorem State.cycleEnded_sound {s : State} (hs : s.supSound) : s.cycleEnded.supSound := by
  rw [State.supSound_iff, State.cycleEnded_sup]
  exact Supervision.checkedAll_sound (State.cycleBegun_sound hs) _ s.present_length

/-- The risings as the summaries before and after the cycle show them. -/
theorem State.risenInCycleTo_eq {s : State} (hs : s.supSound) (does : Actions → Bool) :
    Group.all.filter (fun g =>
      !(s.sup.group g).summary && (s.cycleEnded.sup.group g).summary && does (s.sup.entry g).actions) =
    s.risenInCycleTo does := by
  simp only [State.risenInCycleTo, State.risenInCycle, Supervision.risen, Supervision.dueGroups, List.filter_filter]
  refine List.filter_congr fun g _ => ?_
  rw [State.cycleEnded_group hs]
  have hrises : s.cycleBegun.sup.rises g (s.present g) =
      (!(s.sup.group g).summary && ((s.sup.group g).check (s.sup.entry g) (s.present g)).summary) := rfl
  rw [hrises]
  split
  next hdue => simp [hdue, Bool.and_comm]
  next hdue => simp [hdue]

theorem Supervision.all_sorted : Group.all.Pairwise (fun g h => g.number < h.number) := by
  decide

theorem State.risenInCycle_sorted (s : State) : s.risenInCycle.Pairwise (fun g h => g.number < h.number) :=
  (Supervision.all_sorted.filter _).filter _

theorem Stabiliser.eq_of_undropped {a b : Stabiliser} (h : a.undropped = b.undropped) :
    a = { b with dropWindow := a.dropWindow } := by
  have heta : a = { a.undropped with dropWindow := a.dropWindow } := rfl
  rw [heta, h]
  rfl

theorem State.cycleEnded_stab {s : State} (hs : s.supSound) :
    s.cycleEnded.stab =
      { (if s.risenInCycleTo Actions.stabOff = [] then s.stab else s.stab.faultOff) with
        dropWindow := s.cycleEnded.stab.dropWindow } := by
  apply Stabiliser.eq_of_undropped
  have hpart := State.checkAll_undropped (State.cycleBegun_sound hs).groups s.sup.dueGroups_nodup s.present
  rw [State.cycleEnded_eq]
  refine hpart.trans ?_
  have hsame : s.cycleBegun.sup.risenTo s.sup.dueGroups s.present Actions.stabOff =
      s.risenInCycleTo Actions.stabOff := rfl
  rw [hsame]
  split
  · rfl
  · exact (Stabiliser.faultOff_undropped _).symm

theorem State.cycleEnded_zoom {s : State} (hs : s.supSound) :
    (s.cycleEnded.zoom, s.cycleEnded.stab.dropWindow) =
      (s.risenInCycleTo Actions.zoomStop).foldl (stopClaimedAt s.items.stab.dropWindow)
        (s.zoom, s.stab.dropWindow) := by
  rw [State.cycleEnded_eq]
  exact State.checkAll_zoom (State.cycleBegun_sound hs).groups s.sup.dueGroups_nodup s.present

theorem State.cycleEnded_warnGroups {s : State} (hs : s.supSound) :
    s.cycleEnded.vf.warnGroups = joinAll (s.risenInCycleTo Actions.vfWarn) s.vf.warnGroups := by
  rw [State.cycleEnded_eq]
  exact State.checkAll_warnGroups (State.cycleBegun_sound hs).groups s.sup.dueGroups_nodup s.present

theorem State.cycleEnded_risings {s : State} (hs : s.supSound) (hrange : s.sup.risings ≤ 65535) :
    s.cycleEnded.sup.risings = sat16 (s.sup.risings + s.risenInCycle.length) := by
  rw [State.cycleEnded_sup]
  exact Supervision.checkedAll_risings (State.cycleBegun_sound hs).groups hrange s.sup.dueGroups_nodup s.present

theorem State.cycleChecked_recorder {s : State} (hs : s.supSound) :
    s.cycleChecked.recorder =
      s.risenInCycle.foldl (fun r g => r.faultActed s.items.record (s.sup.entry g).actions g) s.recorder :=
  State.checkAll_recorder (State.cycleBegun_sound hs).groups s.sup.dueGroups_nodup s.present

/-- The recorder after a cycle is as the risings left it, but for the gap indicator. -/
theorem State.cycleEnded_recorder (s : State) :
    s.cycleEnded.recorder = { s.cycleChecked.recorder with essenceGap := s.cycleEnded.recorder.essenceGap } := by
  rw [State.cycleEnded_eq]
  rfl

/-- A stop leaves the record state while none is asked for or the recording cannot stop, and waits for the close of an
open frame (R93). -/
theorem State.cycleEnded_recState {s : State} (hs : s.supSound) :
    if s.risenInCycleTo Actions.stopRec = [] ∨ ¬s.recorder.canStop = true then
      s.cycleEnded.recorder.state = s.recorder.state ∧ s.cycleEnded.recorder.pendingStop = s.recorder.pendingStop ∧
      s.cycleEnded.recorder.stopReason = s.recorder.stopReason
    else if s.recorder.openFrame.isSome = true then
      s.cycleEnded.recorder.state = s.recorder.state ∧ s.cycleEnded.recorder.pendingStop = some .fault ∧
      s.cycleEnded.recorder.stopReason = s.recorder.stopReason
    else s.cycleEnded.recorder.Stopped s.items.record := by
  have ht := State.cycleChecked_recorder hs
  rw [State.cycleEnded_recorder]
  split
  next hnone =>
    rw [recorder_of_no_stop ht hnone.symm]
    exact ⟨rfl, rfl, rfl⟩
  next hsome =>
    obtain ⟨hstops, hcan⟩ := not_or.mp hsome
    have hcan := not_not.mp hcan
    split
    next hframe =>
      rw [recorder_of_waiting_stop ht s.risenInCycle_sorted hcan hstops hframe]
      exact ⟨rfl, rfl, rfl⟩
    next hframe =>
      obtain ⟨hpending, hreason, hclosed, hstate⟩ :=
        (recorder_of_stop_at_once ht s.risenInCycle_sorted hcan hstops hframe).1
      exact ⟨hpending, hreason, hclosed, hstate⟩

/-- The marks of every rising, unless a stop was entered before a later group's mark. -/
theorem State.cycleEnded_marks {s : State} (hs : s.supSound)
    (h : ¬s.recorder.canStop = true ∨ s.recorder.openFrame.isSome = true ∨
      ∀ g ∈ s.risenInCycleTo Actions.markClip, ∀ h ∈ s.risenInCycleTo Actions.stopRec, g.number ≤ h.number) :
    s.cycleEnded.recorder.parts.map ClipPart.markList =
      (s.recorder.parts.map
        (ClipPart.faultMarkedAll s.recorder.lastMark (s.risenInCycleTo Actions.markClip))).map ClipPart.markList := by
  have ht := State.cycleChecked_recorder hs
  rw [State.cycleEnded_recorder]
  by_cases hnone : ¬s.recorder.canStop = true ∨ s.risenInCycleTo Actions.stopRec = []
  · rw [recorder_of_no_stop ht hnone]
    rfl
  · obtain ⟨hcan, hstops⟩ := not_or.mp hnone
    have hcan := not_not.mp hcan
    by_cases hframe : s.recorder.openFrame.isSome = true
    · rw [recorder_of_waiting_stop ht s.risenInCycle_sorted hcan hstops hframe]
      rfl
    · refine (recorder_of_stop_at_once ht s.risenInCycle_sorted hcan hstops hframe).2 ?_
      exact (h.resolve_left (not_not.mpr hcan)).resolve_left hframe

/-! ### The notices of a check cycle -/

theorem Notify.hasNotice_iff (n : Notify) : n.hasNotice = true ↔ n = .notice ∨ n = .both := by
  cases n <;> simp [Notify.hasNotice]

theorem newlySet_self (flags : List Bool) : newlySet flags flags = [] := by
  simp [newlySet]

/-- The details newly set, as the flags before and after show them. -/
theorem newlySet_eq {n : Nat} {before after : List Bool} (hb : before.length = n) (ha : after.length = n) :
    newlySet before after =
      (List.range n).filter (fun d => decide (before[d]? = some false ∧ after[d]? = some true)) := by
  rw [newlySet, ha]
  refine List.filter_congr fun d hd => ?_
  have hlt : d < n := List.mem_range.mp hd
  have hdb : d < before.length := hb ▸ hlt
  have hda : d < after.length := ha ▸ hlt
  simp only [List.getD_eq_getElem?_getD, List.getElem?_eq_getElem hdb, List.getElem?_eq_getElem hda]
  cases before[d] <;> cases after[d] <;> rfl

theorem flatMap_filter_eq {α β : Type} (p : α → Bool) (f : α → List β) (xs : List α) :
    (xs.filter p).flatMap f = xs.flatMap (fun a => if p a = true then f a else []) := by
  induction xs with
  | nil => rfl
  | cons a xs ih => by_cases ha : p a = true <;> simp [ha, ih]

theorem State.cycle_faultsTold {s : State} (hs : s.supSound) :
    s.sup.dueGroups.flatMap (fun g => s.cycleBegun.sup.faultsTold g (s.present g)) =
      Group.all.flatMap (fun g =>
        if (s.sup.entry g).notify = .notice ∨ (s.sup.entry g).notify = .both then
          ((List.range g.details).filter (fun d =>
            decide ((s.sup.group g).flags[d]? = some false ∧
              (s.cycleEnded.sup.group g).flags[d]? = some true))).map (fun d => (g, d))
        else []) := by
  have hbegun := State.cycleBegun_sound hs
  have hended := s.cycleEnded.supSound_iff.mp (State.cycleEnded_sound hs)
  rw [Supervision.dueGroups, flatMap_filter_eq]
  refine List.flatMap_congr fun g _ => ?_
  have hset := newlySet_eq (hbegun.group g).flags (hended.group g).flags
  simp only [← Notify.hasNotice_iff]
  have hold : (s.cycleBegun.sup.group g).flags = (s.sup.group g).flags := rfl
  rw [hold] at hset
  rw [← hset, State.cycleEnded_group hs]
  by_cases hdue : (s.sup.cycle + 1) % 840 % ((s.sup.entry g).checkDiv + 1) = 0
  · simp only [hdue, decide_true, if_true]
    rfl
  · simp [hdue, newlySet_self]

/-- What a cycle tells the body link: FAULT notices of the groups due, the PRESET and MODE notices of its actions, and
others. -/
theorem State.cycleChecked_tells {s : State} (hs : s.supSound) :
    s.Tells s.cycleChecked (s.sup.dueGroups.flatMap (fun g => s.cycleBegun.sup.faultsTold g (s.present g))) := by
  have hbegun : s.Tells s.cycleBegun [] := .of_same rfl rfl rfl
  exact hbegun.trans (State.checkAll_tells (State.cycleBegun_sound hs).groups s.sup.dueGroups_nodup s.present)

/-- The PRESET notices of a cycle: those of a stop claim that arises (R19). -/
theorem State.cycleEnded_presetEnds {s : State} (hs : s.supSound) :
    s.cycleEnded.presetEnds =
      if s.risenInCycleTo Actions.zoomStop ≠ [] ∧ s.zoom.report.fault = false ∧ s.zoom.stopGroups = [] then []
      else s.presetEnds := by
  have hzoom := State.cycleEnded_zoom hs
  by_cases hnone : s.risenInCycleTo Actions.zoomStop = []
  · rw [hnone] at hzoom
    have hsame : s.cycleEnded.zoom = s.zoom := congrArg Prod.fst hzoom
    rw [if_neg (fun h => h.1 hnone), State.presetEnds, hsame, State.presetEnds]
  · rw [foldl_stopClaimedAt hnone] at hzoom
    have hfst : s.cycleEnded.zoom = _ := congrArg Prod.fst hzoom
    rw [State.presetEnds, hfst]
    by_cases hstop : s.zoom.stopClaim = true
    · have hstands : ¬(s.risenInCycleTo Actions.zoomStop ≠ [] ∧ s.zoom.report.fault = false ∧
          s.zoom.stopGroups = []) := fun ⟨_, hfault, hempty⟩ => by simp [Zoom.stopClaim, hfault, hempty] at hstop
      simp only [hstop, if_true]
      rw [if_neg hstands]
      rfl
    · have harises : s.zoom.report.fault = false ∧ s.zoom.stopGroups = [] := by
        simpa [Zoom.stopClaim_iff] using hstop
      simp only [if_neg hstop]
      rw [if_pos ⟨hnone, harises⟩]
      rfl

theorem State.cycleEnded_stabEnds {s : State} (hs : s.supSound) :
    s.cycleEnded.stabEnds = if s.risenInCycleTo Actions.stabOff = [] then s.stabEnds else [] := by
  have hmode : s.cycleEnded.zoom.mode = s.zoom.mode := by
    have hzoom := State.cycleEnded_zoom hs
    by_cases hnone : s.risenInCycleTo Actions.zoomStop = []
    · rw [hnone] at hzoom
      exact congrArg (fun w => w.1.mode) hzoom
    · rw [foldl_stopClaimedAt hnone] at hzoom
      exact congrArg (fun w => w.1.mode) hzoom
  have hstate := congrArg Stabiliser.state (State.cycleEnded_stab hs)
  rw [State.stabEnds, hmode]
  by_cases hnone : s.risenInCycleTo Actions.stabOff = []
  · simp only [if_pos hnone] at hstate ⊢
    rw [hstate]
    rfl
  · simp only [if_neg hnone, Stabiliser.faultOff_state] at hstate
    rw [if_neg hnone, if_pos hstate]

/-- What is told of a list when its rest is still to tell, or nothing of it. -/
theorem eq_of_append_rest {α : Type} {p : Prop} [Decidable p] {xs ends : List α}
    (h : xs ++ (if p then [] else ends) = ends) : xs = if p then ends else [] := by
  by_cases hp : p
  · simpa [hp] using h
  · simpa [hp] using h

/-- What an aligned body link's queue gains in a cycle, while it has room. -/
theorem State.cycleEnded_queue {s : State} (hs : s.supSound) (haligned : s.body.state = .aligned)
    (hroom : s.cycleEnded.body.txQueue.length < 32) :
    ∃ qs, s.cycleEnded.body.txQueue = s.body.txQueue ++ qs ∧
      qs.filterMap (OutPacket.noticed Notice.fault?) =
        s.sup.dueGroups.flatMap (fun g => s.cycleBegun.sup.faultsTold g (s.present g)) ∧
      qs.filterMap (OutPacket.noticed Notice.preset?) ++ s.cycleEnded.presetEnds = s.presetEnds ∧
      qs.filterMap (OutPacket.noticed Notice.mode?) ++ s.cycleEnded.stabEnds = s.stabEnds := by
  obtain ⟨ns, hbody, hfaults, hpresets, hmodes⟩ := State.cycleChecked_tells hs
  have hqueue : s.cycleEnded.body.txQueue = (s.body.handNotices ns).txQueue := by
    rw [State.cycleEnded_eq, ← hbody]
    rfl
  rw [hqueue] at hroom
  obtain ⟨qs, hgained, hmsgs⟩ := LinkCtl.handNotices_txQueue haligned hroom
  refine ⟨qs, hqueue.trans hgained, ?_, ?_, ?_⟩
  · rw [filterMap_noticed _ hmsgs, hfaults]
  · rw [filterMap_noticed _ hmsgs, State.cycleEnded_eq]
    exact hpresets
  · rw [filterMap_noticed _ hmsgs, State.cycleEnded_eq]
    exact hmodes

/-! ### The one-check indicators after a cycle -/

theorem Supervision.dueGroups_contains (v : Supervision) (g : Group) :
    v.dueGroups.contains g = decide ((v.cycle + 1) % 840 % ((v.entry g).checkDiv + 1) = 0) := by
  rw [Bool.eq_iff_iff, List.contains_iff_mem, Supervision.mem_dueGroups, decide_eq_true_iff]

theorem State.cycleEnded_essenceGap (s : State) :
    s.cycleEnded.recorder.essenceGap = (s.recorder.essenceGap && !s.sup.dueGroups.contains .essenceGap) := by
  have hkept := (s.cycleBegun.checkAll_oneCheck s.sup.dueGroups s.present).1
  rw [State.cycleEnded_eq]
  exact congrArg (· && !s.sup.dueGroups.contains .essenceGap) hkept

theorem State.cycleEnded_crcPresent {s : State} (hs : s.supSound) (l : LinkId) :
    (s.cycleEnded.link l).crcPresent = ((s.link l).crcPresent && !s.sup.dueGroups.contains .linkCrc) := by
  have hkept : (s.cycleChecked.link l).crcPresent = (s.link l).crcPresent := by
    cases l with
    | head => exact (s.cycleBegun.checkAll_oneCheck s.sup.dueGroups s.present).2.1
    | body =>
      obtain ⟨ns, hbody, -⟩ := State.cycleChecked_tells hs
      exact (congrArg LinkCtl.crcPresent hbody).trans (s.body.handNotices_keeps ns).2
  rw [State.cycleEnded_eq, ← hkept]
  cases l <;> rfl

theorem State.cycleEnded_mediaError (s : State) (x : SlotId) :
    (s.cycleEnded.slot x).mediaError = ((s.slot x).mediaError && !s.sup.dueGroups.contains .mediaError) := by
  have hkept := (s.cycleBegun.checkAll_oneCheck s.sup.dueGroups s.present).2.2
  obtain ⟨ha, hb⟩ := Prod.ext_iff.mp hkept
  rw [State.cycleEnded_eq]
  cases x with
  | a => exact congrArg (· && !s.sup.dueGroups.contains .mediaError) ha
  | b => exact congrArg (· && !s.sup.dueGroups.contains .mediaError) hb

/-! ### The statement -/

/-- Settles O50, block by block: the risings in order at each block that their actions change, and the notices that
the body link is handed. -/
theorem checkFlags : Obligations.CheckFlags := by
  intro s ms hrun hs due
  have h12 := (State.cycleBegun_sound hs).groups
  obtain ⟨htable, -, -, -⟩ := s.cycleBegun.sup.checkedAll_keeps s.sup.dueGroups s.present
  refine ⟨s.cycleEnded, exec_checkCycle_of_running hrun, State.cycleEnded_sound hs,
    (congrArg Supervision.table s.cycleEnded_sup).trans htable, fun g d hd => ?flags, ?_⟩
  case flags =>
    rw [State.cycleEnded_group hs]
    by_cases hdue : (s.sup.cycle + 1) % 840 % ((s.sup.entry g).checkDiv + 1) = 0
    · simp only [hdue, if_true, due, decide_true, true_and]
      exact GroupState.check_flags ((State.cycleBegun_sound hs).group g) _ (s.present_length g) hd
    · simp [hdue, due]
  intro risen
  have hrisen : risen = s.risenInCycleTo := funext (State.risenInCycleTo_eq hs)
  clear_value risen
  subst hrisen
  refine ⟨fun hrange => ?risings, fun g => ?warn, ?stab, ?zoom, ?recorder, ?notices, ?gap, fun l => ?crc,
    fun x => ?media⟩
  case risings =>
    have hall : s.risenInCycleTo (fun _ => true) = s.risenInCycle := by simp [State.risenInCycleTo]
    rw [hall]
    exact State.cycleEnded_risings hs hrange
  case warn =>
    rw [State.cycleEnded_warnGroups hs]
    exact mem_joinAll
  case stab =>
    have hstab := State.cycleEnded_stab hs
    split
    next hnone =>
      have hsame : (if s.risenInCycleTo Actions.stabOff = [] then s.stab else s.stab.faultOff) = s.stab := by
        split
        · rfl
        · exact if_pos (hnone.resolve_left ‹_›)
      rwa [hsame] at hstab
    next hsome =>
      obtain ⟨hrise, hon⟩ := not_or.mp hsome
      rw [if_neg hrise, Stabiliser.faultOff, if_neg hon] at hstab
      exact hstab
  case zoom =>
    intro stops arises
    have hzoom := State.cycleEnded_zoom hs
    split
    next hnone =>
      have hnone : s.risenInCycleTo Actions.zoomStop = [] := hnone
      rw [hnone] at hzoom
      exact ⟨congrArg Prod.fst hzoom, congrArg Prod.snd hzoom⟩
    next hsome =>
      rw [foldl_stopClaimedAt hsome] at hzoom
      have hfst : s.cycleEnded.zoom = _ := congrArg Prod.fst hzoom
      have harises : arises ↔ ¬s.zoom.stopClaim = true := by
        simp [arises, Zoom.stopClaim_iff, hsome]
      refine ⟨fun g => ?_, ?_, congrArg Prod.snd hzoom⟩
      · rw [hfst]; exact mem_joinAll
      · rw [hfst]
        by_cases hclaim : s.zoom.stopClaim = true
        · simp [harises, hclaim]
        · simp [harises, hclaim]
  case recorder =>
    intro stops marking canStop
    have hcan : s.recorder.canStop = true ↔ canStop := s.recorder.canStop_iff
    refine ⟨?_, fun hmarking => ?_⟩
    · have hrec := State.cycleEnded_recState hs
      simp only [hcan] at hrec
      split
      next hnone => rwa [if_pos hnone] at hrec
      next hsome =>
        rw [if_neg hsome] at hrec
        split
        next hframe => rwa [if_pos hframe] at hrec
        next hframe =>
          rw [if_neg hframe] at hrec
          exact ⟨hrec.pendingStop, hrec.stopReason, hrec.closed, hrec.state⟩
    · rw [← hcan] at hmarking
      refine (State.cycleEnded_marks hs hmarking).trans ?_
      rw [List.map_map]
      refine List.map_congr_left fun p _ => ?_
      rw [Function.comp_apply, ClipPart.faultMarkedAll_eq]
      rfl
  case notices =>
    intro haligned hroom
    obtain ⟨qs, hqueue, hfaults, hpresets, hmodes⟩ := State.cycleEnded_queue hs haligned hroom
    rw [State.cycle_faultsTold hs] at hfaults
    rw [State.cycleEnded_presetEnds hs] at hpresets
    rw [State.cycleEnded_stabEnds hs] at hmodes
    rw [hqueue, List.take_left, List.drop_left]
    refine ⟨rfl, ?_, ?_, ?_⟩
    · rw [← hfaults]
      congr
    · refine Eq.trans ?_ (eq_of_append_rest hpresets)
      congr
    · have htold := eq_of_append_rest (p := ¬s.risenInCycleTo Actions.stabOff = []) (by rwa [ite_not])
      rw [ite_not, State.stabEnds, ← ite_or] at htold
      exact Eq.trans (by congr) htold
  case gap => exact (s.cycleEnded_essenceGap).trans (by rw [Supervision.dueGroups_contains])
  case crc => exact (State.cycleEnded_crcPresent hs l).trans (by rw [Supervision.dueGroups_contains])
  case media => exact (s.cycleEnded_mediaError x).trans (by rw [Supervision.dueGroups_contains])

end Sys2Proof.Machine
end

section
/-! PROOF. A step, the next state of every command, and the frame of every command: the blocks a command leaves
as they were, read off from the blocks that its operations leave. -/

namespace Sys2Proof.Machine

/-! ### A step -/

/-- Settles O1, by the two forms of the queue. -/
theorem stepRunsTheFrontCommand : Obligations.StepRunsTheFrontCommand := by
  refine ⟨fun i s => rfl, fun s h => ?_⟩
  simp only [step, h]

/-! ### Frames, block by block -/

/-- The frame as seventeen equations, each needed of the blocks not listed alone. -/
theorem sameOutside_iff (bs : List Block) (s t : State) :
    sameOutside bs s t ↔
      (.head ∈ bs ∨ t.head = s.head) ∧ (.body ∈ bs ∨ t.body = s.body) ∧ (.zoom ∈ bs ∨ t.zoom = s.zoom) ∧
      (.stab ∈ bs ∨ t.stab = s.stab) ∧ (.audio ∈ bs ∨ t.audio = s.audio) ∧
      (.recorder ∈ bs ∨ t.recorder = s.recorder) ∧ (.slotA ∈ bs ∨ t.slotA = s.slotA) ∧
      (.slotB ∈ bs ∨ t.slotB = s.slotB) ∧ (.vf ∈ bs ∨ t.vf = s.vf) ∧ (.sup ∈ bs ∨ t.sup = s.sup) ∧
      (.mgmt ∈ bs ∨ t.mgmt = s.mgmt) ∧ (.scene ∈ bs ∨ t.scene = s.scene) ∧
      (.items ∈ bs ∨ t.items = s.items) ∧ (.portSeq ∈ bs ∨ t.portSeq = s.portSeq) ∧
      (.inReset ∈ bs ∨ t.inReset = s.inReset) ∧ (.out ∈ bs ∨ t.out = s.out) ∧
      (.pending ∈ bs ∨ t.pending = s.pending) := by
  constructor
  · intro h
    refine ⟨?_, ?_, ?_, ?_, ?_, ?_, ?_, ?_, ?_, ?_, ?_, ?_, ?_, ?_, ?_, ?_, ?_⟩ <;>
      exact or_iff_not_imp_left.mpr (h _)
  · intro h b hb
    cases b <;> simp_all [Block.same]

theorem sameOutside.refl (bs : List Block) (s : State) : sameOutside bs s s := by simp [sameOutside_iff]

theorem sameOutside.trans {bs : List Block} {s t u : State} (h : sameOutside bs s t) (h' : sameOutside bs t u) :
    sameOutside bs s u := by
  intro b hb
  have h₁ := h b hb
  have h₂ := h' b hb
  cases b <;> exact Eq.trans h₂ h₁

theorem sameOutside.mono {bs cs : List Block} {s t : State} (h : sameOutside bs s t) (hc : bs ⊆ cs) :
    sameOutside cs s t :=
  fun b hb => h b (fun hm => hb (hc hm))

theorem State.begin_frame {bs : List Block} (h : .out ∈ bs) (s : State) : sameOutside bs s s.begin := by
  simp [sameOutside_iff, h]

/-! ### Frames of what the commands share -/

/-- A frame of the work of a packet's owner is one of the packet's intake, where it lists what any good packet of
the link may change. -/
theorem State.intake_frame {bs : List Block} {k : InKind} (hk : packetBlocks k.link ⊆ bs) (s : State) (seq : Byte)
    {owner : State → Nat → State} (h : ∀ u n, sameOutside bs u (owner u n)) :
    sameOutside bs s (s.begin.intake k seq owner) := by
  have hout : .out ∈ bs := hk (by cases k <;> decide)
  refine (s.begin_frame hout).trans fun b hb => ?_
  exact State.intake_same _ (fun hm => hb (hk hm)) (fun u n => h u n b hb)

theorem State.unlessReset_frame {bs : List Block} (hout : .out ∈ bs) (s : State) {f : State → State}
    (h : ∀ u, sameOutside bs u (f u)) : sameOutside bs s (s.begin.unlessReset f) := by
  unfold State.unlessReset
  split
  · exact s.begin_frame hout
  · exact (s.begin_frame hout).trans (h _)

theorem State.presence_frame {bs : List Block} {x : SlotId} (hout : .out ∈ bs) (hx : slotBlock x ∈ bs) (s : State)
    (level : Bool) {f : State → State} (h : ∀ u, sameOutside bs u (f u)) :
    sameOutside bs s ((s.begin.setLine x level).unlessReset f) := by
  have hline : sameOutside bs s.begin (s.begin.setLine x level) := by
    cases x <;> simp_all [sameOutside_iff, slotBlock, State.setLine]
  unfold State.unlessReset
  split
  · exact (s.begin_frame hout).trans hline
  · exact (s.begin_frame hout).trans (hline.trans (h _))

theorem State.expire_frame {bs : List Block} (hout : .out ∈ bs) (s : State) (c : Timer) {f : State → State}
    (h : ∀ u, sameOutside bs u (f u)) : sameOutside bs s (s.begin.expire c f) := by
  unfold State.expire
  split
  · exact (s.begin_frame hout).trans (h _)
  · exact s.begin_frame hout

theorem State.complete_frame {bs : List Block} (hout : .out ∈ bs) (s : State) {x : SlotId}
    (hx : slotBlock x ∈ bs) (kind : RequestKind) (number : Byte) {f : State → State}
    (h : ∀ u, sameOutside bs u (f u)) : sameOutside bs s (s.begin.complete x kind number f) := by
  refine State.unlessReset_frame hout s fun u => ?_
  split
  · exact h u
  · cases x <;> simp_all [sameOutside_iff, slotBlock]

theorem State.judge_frame {bs : List Block} (hbs : commandBlocks ⊆ bs) (s : State) (src : Source) (tag : Byte)
    (bits : List Nat) {run : State → State × Status × List Byte} (h : ∀ u, sameOutside bs u (run u).1) :
    sameOutside bs s (s.judge src tag bits run) := by
  have hbody : .body ∈ bs := hbs (by decide)
  have hmgmt : .mgmt ∈ bs := hbs (by decide)
  unfold State.judge
  split
  · exact (h s).trans (by simp [sameOutside_iff, hbody])
  · simp [sameOutside_iff, hbody, hmgmt]

theorem State.command_frame {bs : List Block} (hbs : commandBlocks ⊆ bs) (s : State) (seq : Byte)
    {run : State → State} (h : ∀ u, sameOutside bs u (run u)) : sameOutside bs s (s.begin.command seq run) :=
  State.intake_frame (fun b hb => hbs (by cases b <;> simp_all [packetBlocks, InKind.link, commandBlocks])) s seq
    (fun u _ => h u)

theorem State.action_frame {bs : List Block} (hbs : commandBlocks ⊆ bs) (s : State) (seq : Byte) (src : Source)
    (tag : Byte) (bits : List Nat) {run : State → State × Status} (h : ∀ u, sameOutside bs u (run u).1) :
    sameOutside bs s (s.begin.action seq src tag bits run) :=
  State.command_frame hbs s seq (fun u => State.judge_frame hbs u src tag bits h)

/-! ### Every command -/

/-- Every command answers a next state, which differs from the one before in the blocks it touches alone. -/
theorem exec_frame (i : Instr) (s : State) : ∃ t, exec i s = .next t ∧ sameOutside (touches i) s t := by
  cases i with
  | powerOnReset => exact ⟨_, rfl, by simp [sameOutside_iff, touches]⟩
  | powerOnResetEnd =>
    refine ⟨_, rfl, ?_⟩
    unfold State.powerOnEnd
    split <;> simp [sameOutside_iff, touches]
  | motion seq _ _ =>
    refine ⟨_, rfl, State.intake_frame (by simp [touches, zoomBlocks, packetBlocks, InKind.link]) s seq fun u n => ?_⟩
    simp [sameOutside_iff, touches, zoomBlocks]
  | lensReport seq _ _ _ _ =>
    refine ⟨_, rfl, State.intake_frame (by simp [touches, zoomBlocks, packetBlocks, InKind.link]) s seq fun u n => ?_⟩
    simp [sameOutside_iff, touches, zoomBlocks, State.takeReport]
  | panel seq _ _ =>
    refine ⟨_, rfl, State.intake_frame (by simp [touches, zoomBlocks, packetBlocks, InKind.link]) s seq fun u n => ?_⟩
    simp [sameOutside_iff, touches, zoomBlocks, recordingBlocks, State.takePanel]
  | audioIn seq _ =>
    refine ⟨_, rfl, ?_⟩
    split
    · refine State.intake_frame (by simp [touches, packetBlocks, InKind.link]) s seq fun u n => ?_
      simp [sameOutside_iff, touches]
    · refine State.unlessReset_frame (by simp [touches, packetBlocks]) s fun u => ?_
      simp [sameOutside_iff, touches, packetBlocks]
  | frameMark seq _ _ _ =>
    refine ⟨_, rfl, State.intake_frame (by simp [touches, recordingBlocks, packetBlocks, InKind.link]) s seq
      fun u n => ?_⟩
    simp [sameOutside_iff, touches, recordingBlocks]
  | essence seq _ _ _ _ _ =>
    refine ⟨_, rfl, ?_⟩
    split
    · refine State.intake_frame (by simp [touches, linkResetBlocks, packetBlocks, InKind.link]) s seq fun u n => ?_
      simp [sameOutside_iff, touches, State.takeEssence]
    · refine State.unlessReset_frame (by simp [touches, linkResetBlocks]) s fun u => ?_
      simp [sameOutside_iff, touches, linkResetBlocks]
  | vfLine seq _ _ =>
    refine ⟨_, rfl, ?_⟩
    split
    · refine State.intake_frame (by simp [touches, packetBlocks, InKind.link]) s seq fun u n => ?_
      simp [sameOutside_iff, touches, packetBlocks]
    · refine State.unlessReset_frame (by simp [touches, packetBlocks]) s fun u => ?_
      simp [sameOutside_iff, touches, packetBlocks]
  | linkReset l _ | inboundCrcFailure l | lossOfFraming l =>
    refine ⟨_, rfl, State.unlessReset_frame (by cases l <;> simp [touches, linkResetBlocks]) s fun u => ?_⟩
    cases l <;> simp [sameOutside_iff, touches, linkResetBlocks]
  | foreignPacket l | rejectedPacket l =>
    refine ⟨_, rfl, State.unlessReset_frame (by cases l <;> simp [touches, packetBlocks]) s fun u => ?_⟩
    cases l <;> simp [sameOutside_iff, touches, packetBlocks]
  | resendTimerExpiry l | transmitLineReady l =>
    refine ⟨_, rfl, (State.begin_frame (by simp [touches]) s).trans ?_⟩
    cases l <;> simp [sameOutside_iff, touches, linkBlock]
  | get seq _ _ _ | select seq _ _ _ _ | read seq _ _ _ | undefinedCommand seq _ =>
    refine ⟨_, rfl, State.command_frame (by simp [touches]) s seq fun u => ?_⟩
    simp [sameOutside_iff, touches, commandBlocks]
  | set seq _ _ _ _ =>
    refine ⟨_, rfl, State.command_frame (by simp [touches, commandBlocks]) s seq fun u => ?_⟩
    simp [sameOutside_iff, touches, commandBlocks]
  | write seq _ _ _ _ =>
    refine ⟨_, rfl, ?_⟩
    split
    · refine State.command_frame (by simp [touches, commandBlocks]) s seq fun u => ?_
      simp [sameOutside_iff, touches, commandBlocks]
    · refine State.unlessReset_frame (by simp [touches, commandBlocks]) s fun u => ?_
      simp [sameOutside_iff, touches, commandBlocks]
  | recStart seq _ _ | recStop seq _ _ | mark seq _ _ | lensTableClear seq _ _ | clearHold seq _ _ _ | enterRun seq _ _
  | clearFault seq _ _ _ _ _ | zoomPreset seq _ _ _ | zoomStop seq _ _ | stabOn seq _ _ | stabOff seq _ _
  | baselineReset seq _ _ | enterSetup seq _ _ | storeScene seq _ _ _ | recallScene seq _ _ _ | storeFixed seq _ _
  | recallFactory seq _ _ =>
    refine ⟨_, rfl, State.action_frame (by simp [touches, commandBlocks]) s seq _ _ _ fun u => ?_⟩
    simp [sameOutside_iff, touches, commandBlocks, recordingBlocks, zoomBlocks, loadBlocks]
  | cardInsertion x =>
    refine ⟨_, rfl, ?_⟩
    split
    · exact State.begin_frame (by simp [touches]) s
    · refine State.presence_frame (by simp [touches]) (by simp [touches]) s true fun u => ?_
      cases x <;> simp [sameOutside_iff, touches, slotBlock]
  | cardRemoval x =>
    refine ⟨_, rfl, ?_⟩
    split
    · refine State.presence_frame (by simp [touches, recordingBlocks])
        (by cases x <;> simp [touches, recordingBlocks, slotBlock]) s false fun u => ?_
      simp [sameOutside_iff, touches, recordingBlocks]
    · exact State.begin_frame (by simp [touches, recordingBlocks]) s
  | mountCompletion x number ok _ | partOpenCompletion x number ok | unitWriteCompletion x number ok
  | partCloseCompletion x number ok =>
    refine ⟨_, rfl, State.complete_frame (by simp [touches, recordingBlocks]) s
      (by cases x <;> simp [touches, recordingBlocks, slotBlock]) _ number fun u => ?_⟩
    cases x <;> cases ok <;> simp [sameOutside_iff, touches, recordingBlocks, slotBlock]
  | mountTimeout x | slowTimerExpiry x | requestTimeout x =>
    refine ⟨_, rfl, ?_⟩
    split
    · refine (State.begin_frame (by simp [touches, recordingBlocks]) s).trans ?_
      cases x <;> simp [sameOutside_iff, touches, slotBlock, recordingBlocks]
    · exact State.begin_frame (by simp [touches, recordingBlocks]) s
  | lensSilenceTimerExpiry | rockerLapseTimerExpiry | presetTimeoutExpiry | refreshTimerExpiry
  | gyroSilenceTimerExpiry | longGapTimerExpiry | audioSilenceTimerExpiry | meterLapseTimerExpiry
  | markSilenceTimerExpiry | lineSilenceTimerExpiry | checkCycle =>
    refine ⟨_, rfl, State.expire_frame (by simp [touches, zoomBlocks, recordingBlocks]) s _ fun u => ?_⟩
    simp [sameOutside_iff, touches, zoomBlocks, recordingBlocks]
  | storeCompletion ok | storeTimeout | recallCompletion =>
    refine ⟨_, rfl, (State.begin_frame (by simp [touches, loadBlocks]) s).trans ?_⟩
    simp [sameOutside_iff, touches, loadBlocks]
  | cellWriteCompletion ok => exact ⟨_, rfl, by simp [sameOutside_iff, touches]⟩

/-- No command touches the queue. -/
theorem pending_untouched (i : Instr) : .pending ∉ touches i := by
  cases i with
  | linkReset l _ | inboundCrcFailure l | lossOfFraming l | foreignPacket l | rejectedPacket l | resendTimerExpiry l
  | transmitLineReady l => cases l <;> simp [touches, linkResetBlocks, packetBlocks, linkBlock]
  | cardInsertion x | mountCompletion x _ _ _ | mountTimeout x | unitWriteCompletion x _ _
  | partCloseCompletion x _ _ | slowTimerExpiry x => cases x <;> simp [touches, slotBlock]
  | _ => simp [touches, commandBlocks, recordingBlocks, zoomBlocks, loadBlocks, linkResetBlocks, packetBlocks]

/-- Settles O2, by the frame of every command. -/
theorem everyCommandCompletes : Obligations.EveryCommandCompletes := by
  intro i s
  obtain ⟨t, ht, hframe⟩ := exec_frame i s
  exact ⟨t, ht, hframe .pending (pending_untouched i)⟩

/-- Settles O3. -/
theorem frameOfEveryCommand : Obligations.FrameOfEveryCommand := by
  intro i s t h
  obtain ⟨u, hu, hframe⟩ := exec_frame i s
  rw [hu] at h
  cases h
  exact hframe

/-! ### What every step keeps -/

/-- A property read off from these blocks alone. -/
def Reads (bs : List Block) (P : State → Prop) : Prop := ∀ s t, (∀ b ∈ bs, Block.same s t b) → P s → P t

/-- A property of these blocks, the queue not among them, is kept by every step if every command that touches one of
them keeps it. -/
theorem step_keeps {bs : List Block} {P : State → Prop} (hP : Reads bs P) (hpending : .pending ∉ bs)
    (hexec : ∀ i s t, exec i s = .next t → (∃ b ∈ bs, b ∈ touches i) → P s → P t) {s t : State}
    (h : step s = .next t) (hs : P s) : P t := by
  unfold step at h
  split at h
  · cases h
    exact hs
  · next i rest _ =>
    have hrest : P { s with pending := rest } :=
      hP s _ (fun b hb => by
        cases b with
        | pending => exact absurd hb hpending
        | _ => rfl) hs
    by_cases htouch : ∃ b ∈ bs, b ∈ touches i
    · exact hexec i _ t h htouch hrest
    · exact hP _ t (fun b hb => frameOfEveryCommand i _ t h b fun hm => htouch ⟨b, hb, hm⟩) hrest

end Sys2Proof.Machine
end

section
/-! PROOF. Power-on reset (R199): the state that steps 1 to 5 load, the entry to SETTLING, and the end of the
sequence. -/

namespace Sys2Proof.Machine

/-! ### POWER_ON_RESET, steps 1 to 6 -/

/-- Steps 1 to 5 of R199: every block at its power-on values, and what scene memory holds loaded. -/
def State.loaded (s : State) : State := s.blocksPowerOn.loadFixed.loadScene0.loadClip.loadOptics

theorem State.powerOn_eq (s : State) : s.powerOn = s.loaded.startStabiliser := rfl

/-- The blocks that the loading leaves at their power-on values. -/
theorem State.loaded_blocks (s : State) :
    s.loaded.inReset = true ∧ s.loaded.out = [] ∧ s.loaded.portSeq = 0#8 ∧ s.loaded.head = .powerOn ∧
    s.loaded.body = .powerOn ∧ s.loaded.mgmt = .powerOn ∧ s.loaded.stab = .powerOn := by
  obtain ⟨_, _, _, _, _, _, _, _, _, _, _, ⟨fixed, ⟨scene0, _, _, _⟩, _, _, _, _⟩, _, _, _, _, _⟩ := s
  cases fixed <;> cases scene0 <;> exact ⟨rfl, rfl, rfl, rfl, rfl, rfl, rfl⟩

/-- The blocks that the loading leaves at their power-on values but for what it loads. -/
theorem State.loaded_loading (s : State) :
    s.loaded.recorder =
      { Recorder.powerOn with
        clipCounter := s.scene.cell.getD 0
        state := if s.loaded.items.record.preRecSeconds = 0 then .idle else .standby } ∧
    s.loaded.zoom =
      { Zoom.powerOn with
        lens := s.loaded.zoom.lens, curve := s.loaded.zoom.curve, presets := s.loaded.zoom.presets
        mode := if s.loaded.zoom.tablesValid = true then .run else .setup } ∧
    s.loaded.vf =
      { Viewfinder.powerOn with
        palette := s.loaded.vf.palette, glyphs := s.loaded.vf.glyphs, editList := s.loaded.vf.editList
        editChanged := s.scene.scenes.q1.isSome } ∧
    s.loaded.audio =
      { Audio.powerOn with gainTable := s.loaded.audio.gainTable, gainNow := s.loaded.items.audio.inGain } ∧
    s.loaded.sup = { Supervision.powerOn with table := s.loaded.sup.table } := by
  obtain ⟨_, _, _, _, _, _, _, _, _, _, _, ⟨fixed, ⟨scene0, _, _, _⟩, _, _, _, _⟩, _, _, _, _, _⟩ := s
  cases fixed <;> cases scene0 <;> exact ⟨rfl, rfl, rfl, rfl, rfl⟩

/-- What the fixed area holds stands in the blocks (step 2 of R199). -/
theorem State.loaded_fixed (s : State) :
    match s.scene.fixed with
    | none =>
      s.loaded.zoom.lens = [] ∧ s.loaded.zoom.curve = List.replicate 9 none ∧
      s.loaded.audio.gainTable = factoryGain ∧ s.loaded.vf.glyphs = factoryGlyphs ∧
      s.loaded.vf.palette = factoryPalette ∧ s.loaded.sup.table = factoryFault
    | some f => s.loaded.fixedCopy = f := by
  obtain ⟨_, _, _, _, _, _, _, _, _, _, _, ⟨fixed, ⟨scene0, _, _, _⟩, _, _, _, _⟩, _, _, _, _, _⟩ := s
  cases fixed <;> cases scene0 <;> first | rfl | exact ⟨rfl, rfl, rfl, rfl, rfl, rfl⟩

/-- What scene 0 holds stands in the blocks (step 3 of R199). -/
theorem State.loaded_scene0 (s : State) :
    match s.scene.scenes.q1 with
    | none =>
      s.loaded.items = defaultItems ∧ s.loaded.zoom.presets = factoryPresets ∧
      s.loaded.vf.editList = List.replicate 48 .none
    | some c =>
      s.loaded.items = loadItems c.items defaultItems ∧ s.loaded.zoom.presets = c.presets ∧
      s.loaded.vf.editList = c.display.map DisplayEntry.taken := by
  obtain ⟨_, _, _, _, _, _, _, _, _, _, _, ⟨fixed, ⟨scene0, _, _, _⟩, _, _, _, _⟩, _, _, _, _, _⟩ := s
  cases fixed <;> cases scene0 <;> exact ⟨rfl, rfl, rfl⟩

/-- Step 6 of R199: the entry to SETTLING, with STAB_ENABLE on in RUN. -/
theorem State.startStabiliser_eq (s : State) :
    s.startStabiliser = if s.zoom.mode = .run ∧ s.items.stab.enable = true then s.enterSettling else s := by
  unfold State.startStabiliser
  cases s.zoom.mode <;> simp

/-- The blocks that step 6 leaves as the loading has made them. -/
theorem State.powerOn_loaded (s : State) :
    s.powerOn.body = s.loaded.body ∧ s.powerOn.zoom = s.loaded.zoom ∧ s.powerOn.audio = s.loaded.audio ∧
    s.powerOn.recorder = s.loaded.recorder ∧ s.powerOn.vf = s.loaded.vf ∧ s.powerOn.sup = s.loaded.sup ∧
    s.powerOn.mgmt = s.loaded.mgmt ∧ s.powerOn.items = s.loaded.items ∧ s.powerOn.portSeq = s.loaded.portSeq ∧
    s.powerOn.inReset = s.loaded.inReset ∧ s.powerOn.out = s.loaded.out := by
  rw [State.powerOn_eq, State.startStabiliser_eq]
  split <;> simp

/-- The stabiliser and the head link after step 6: the zero SHIFT_CMD of the entry is discarded (R51, R180). -/
theorem State.powerOn_stab (s : State) :
    if s.loaded.zoom.mode = .run ∧ s.loaded.items.stab.enable = true then
      s.powerOn.stab = { Stabiliser.powerOn with state := .settling } ∧
      s.powerOn.head = { LinkCtl.powerOn with outDiscarded := 1 }
    else s.powerOn.stab = .powerOn ∧ s.powerOn.head = .powerOn := by
  obtain ⟨-, -, -, hhead, -, -, hstab⟩ := s.loaded_blocks
  rw [State.powerOn_eq, State.startStabiliser_eq]
  split
  · constructor
    · simp only [State.enterSettling, State.hand_keeps, hstab]
      rfl
    · simp only [State.enterSettling, State.hand_shiftCmd_head, hhead]
      rfl
  · exact ⟨hstab, hhead⟩

/-- Settles O14, by the blocks of the loaded state and the entry to SETTLING. -/
theorem powerOnReset : Obligations.PowerOnReset := by
  intro s
  obtain ⟨hreset, hout, hseq, -, hbody, hmgmt, -⟩ := s.loaded_blocks
  obtain ⟨hrecorder, hzoom, hvf, haudio, hsup⟩ := s.loaded_loading
  obtain ⟨ebody, ezoom, eaudio, erecorder, evf, esup, emgmt, eitems, eseq, ereset, eout⟩ := s.powerOn_loaded
  obtain ⟨hpending, hscene, hslotA, hslotB⟩ := s.powerOn_keeps
  refine ⟨s.powerOn, rfl, ereset.trans hreset, eout.trans hout, hpending, eseq.trans hseq, ebody.trans hbody,
    emgmt.trans hmgmt, hslotA, hslotB, hscene, ?_⟩
  have hvalid : ∀ z : Zoom, z.tablesValid = true ↔ lensTableValid z.lens = true ∧ curveValid z.curve = true := by
    simp [Zoom.tablesValid]
  have hfixedCopy : s.powerOn.fixedCopy = s.loaded.fixedCopy := by
    simp only [State.fixedCopy, ezoom, eaudio, evf, esup]
  simp only [ezoom, eaudio, erecorder, evf, esup, eitems, hfixedCopy]
  simp only [hvalid] at hzoom
  exact ⟨hrecorder, hzoom, hvf, s.powerOn_stab, haudio, hsup, s.loaded_fixed, s.loaded_scene0⟩

/-! ### POWER_ON_RESET_END, step 7 -/

/-- A slot mounting the card that its presence line shows (R109). -/
def Slot.inserted (c : Slot) : Slot :=
  { c with
    cardPresent := true, state := .mounting, requestNumber := c.requestNumber + 1
    request := some ⟨.mount, c.requestNumber + 1⟩, mountTimer := .running 5000 }

/-- An insertion given to a slot: MOUNT on its port, the slot mounting, one notice; only an EMPTY slot takes it. -/
theorem State.insertPresent_eq (s : State) (x : SlotId) :
    s.insertPresent x =
      if (s.slot x).line = true ∧ (s.slot x).state = .empty then
        { s with
          out := s.out ++ [Emission.slotRequest x ((s.slot x).requestNumber + 1) .mount]
          body := s.body.hand (.notice (.slot x .mounting .inserted)) }.setSlot x (s.slot x).inserted
      else s := by
  unfold State.insertPresent State.takeInsertion
  cases hl : (s.slot x).line
  · simp
  · cases hs : (s.slot x).state <;> simp [State.startMount_modifySlot, Slot.inserted]

/-- What an insertion given to a slot may change of the body link and the ports. -/
theorem State.insertPresent_body (s : State) (x : SlotId) :
    (s.insertPresent x).body.state = s.body.state ∧ (s.insertPresent x).body.resend = s.body.resend ∧
    (s.insertPresent x).body.linkResets = s.body.linkResets ∧
    ∃ es, (s.insertPresent x).out = s.out ++ es := by
  rw [State.insertPresent_eq]
  split
  · simp
  · exact ⟨rfl, rfl, rfl, [], (List.append_nil _).symm⟩

theorem State.insertPresent_other (s : State) {x y : SlotId} (h : y ≠ x) :
    (s.insertPresent x).slot y = s.slot y := by
  rw [State.insertPresent_eq]
  split
  · cases x <;> cases y <;> first | rfl | exact absurd rfl h
  · rfl

/-- Both slots given their insertions, A first. -/
theorem State.insertBoth_slot (s : State) (x : SlotId) :
    ((s.insertPresent .a).insertPresent .b).slot x =
        (if (s.slot x).line = true ∧ (s.slot x).state = .empty then (s.slot x).inserted else s.slot x) ∧
      ((s.slot x).line = true ∧ (s.slot x).state = .empty →
        .slotRequest x ((s.slot x).requestNumber + 1) .mount ∈ ((s.insertPresent .a).insertPresent .b).out) := by
  obtain ⟨-, -, -, es, hes⟩ := (s.insertPresent .a).insertPresent_body .b
  cases x with
  | a =>
    rw [State.insertPresent_other _ (by decide), hes, s.insertPresent_eq .a]
    refine ⟨?_, fun h => ?_⟩
    · split <;> simp
    · rw [if_pos h]
      simp
  | b =>
    have hb : (s.insertPresent .a).slot .b = s.slot .b := s.insertPresent_other (by decide)
    rw [(s.insertPresent .a).insertPresent_eq .b, hb]
    refine ⟨?_, fun h => ?_⟩
    · split
      · simp
      · exact hb
    · rw [if_pos h]
      simp

/-- Settles O15: the state after the two LINK_RESETs, and then the two insertions. -/
theorem powerOnResetEnd : Obligations.PowerOnResetEnd := by
  intro s hr hhead hbody
  let u : State := (({ s.begin with inReset := false }.startTimers).firstReset .head).firstReset .body
  have hu : u.body = { s.body with outSeq := s.body.outSeq.set .i4 (s.body.outSeq.q4 + 1), resend := .running 2 } := rfl
  have huout : u.out =
      [.linkReset .head s.head.outSeq.q4 s.head.ownEpoch, .linkReset .body s.body.outSeq.q4 s.body.ownEpoch] := rfl
  have hend : s.begin.powerOnEnd = (u.insertPresent .a).insertPresent .b := if_pos hr
  obtain ⟨astate, aresend, aresets, es, hes⟩ := u.insertPresent_body .a
  obtain ⟨bstate, bresend, bresets, fs, hfs⟩ := (u.insertPresent .a).insertPresent_body .b
  refine ⟨s.begin.powerOnEnd, rfl, ?_⟩
  rw [hend]
  refine ⟨by simp [u], by simp [u]; rfl, ?_, ?_, ?_, ?_, by simp [u]; rfl, by simp [u]; rfl, by simp [u]; rfl,
    by simp [u]; rfl, by simp [u]; rfl, fun x => ?_⟩
  · rw [bstate, astate, hu, hbody]
  · rw [bresend, aresend, hu]
  · rw [bresets, aresets, hu]
  · rw [hfs, hes, huout]
    rfl
  · have hx : u.slot x = s.slot x := by cases x <;> rfl
    obtain ⟨hslot, hout⟩ := u.insertBoth_slot x
    rw [hx] at hslot hout
    rw [hslot]
    split
    · exact ⟨rfl, hout ‹_›⟩
    · rfl

end Sys2Proof.Machine
end

section
/-! PROOF. What a packet's intake, a COMMAND and an ACTION keep: a property that the link's own changes and the
owner's work keep. -/

namespace Sys2Proof.Machine

variable {P : State → Prop} {s : State}

/-- A property is kept by a packet's intake if the link's own changes keep it, the return to ALIGNED among them, and
the owner's work does. -/
theorem State.intake_holds {k : InKind} {seq : Byte} {owner : State → Nat → State}
    (hlink : ∀ u c, P u → P (u.setLink k.link c)) (hresync : ∀ u, P u → P (u.goodInResync k.link))
    (howner : ∀ u n, P u → P (owner u n)) (hs : P s) : P (s.intake k seq owner) := by
  unfold State.intake State.unlessReset
  split
  · exact hs
  · dsimp only
    have hgood : P (s.modifyLink k.link LinkCtl.goodCrc) := hlink _ _ hs
    split
    · exact hresync _ hgood
    · split
      · exact hlink _ _ hgood
      · exact howner _ _ (hlink _ _ hgood)

theorem State.unlessReset_holds {f : State → State} (h : s.inReset = false → P s → P (f s)) (hs : P s) :
    P (s.unlessReset f) := by
  unfold State.unlessReset
  split
  · exact hs
  · next hr => exact h (by simpa using hr) hs

theorem State.expire_holds {c : Timer} {f : State → State} (h : c.isRunning = true → P s → P (f s)) (hs : P s) :
    P (s.expire c f) := by
  unfold State.expire
  split
  · exact h ‹_› hs
  · exact hs

theorem State.judge_holds {src : Source} {tag : Byte} {bits : List Nat} {run : State → State × Status × List Byte}
    (hreply : ∀ u st d, P u → P (u.reply tag st d)) (hdenied : ∀ u, P u → P u.countDenied)
    (hrun : P s → P (run s).1) (hs : P s) : P (s.judge src tag bits run) := by
  unfold State.judge
  split
  · exact hreply _ _ _ (hrun hs)
  · exact hreply _ _ _ (hdenied _ hs)

theorem pieces_length (size n : Nat) (b : List Byte) : (pieces size n b).length = n := by
  induction n generalizing b with
  | zero => rfl
  | succ n ih => simp [pieces, ih]

/-- A WRITE keeps what its reply, its cursor and its entries in a table that takes them keep. -/
theorem State.doWrite_holds {src : Source} {tag : Byte} {n : Nat} {data : List Byte}
    (hreply : ∀ u st d, P u → P (u.reply tag st d)) (hdenied : ∀ u, P u → P u.countDenied)
    (hcursor : ∀ u c, P u → P (u.setCursor src c))
    (htable : ∀ t c, s.modeRefuses t = false → s.writeFits t c n = true → P s →
      P (s.writeTable t c (pieces t.entryBytes n data)).1) (hs : P s) : P (s.doWrite src tag n data) := by
  unfold State.doWrite
  split
  · exact hreply _ _ _ hs
  split
  · exact hreply _ _ _ hs
  next cur _ =>
  split
  · exact hreply _ _ _ hs
  split
  · exact hreply _ _ _ (hdenied _ hs)
  refine State.judge_holds hreply hdenied (fun hs => ?_) hs
  unfold State.writeEntries
  split
  · exact hs
  · next hmode =>
    split
    · exact hs
    · next hfits => exact hcursor _ _ (htable _ _ (by simpa using hmode) (by simpa using hfits) hs)

/-- A SET keeps what its reply keeps and what every item taken keeps. -/
theorem State.doSet_holds {src : Source} {tag : Byte} {item v : Nat}
    (hreply : ∀ u st d, P u → P (u.reply tag st d)) (hdenied : ∀ u, P u → P u.countDenied)
    (hset : ∀ sp ∈ itemSpecs, P s → P (s.setItem sp v).1) (hs : P s) : P (s.doSet src tag item v) := by
  unfold State.doSet
  split
  · next sp hsp => exact State.judge_holds hreply hdenied (hset sp (List.mem_of_find?_eq_some hsp)) hs
  · split
    · exact State.judge_holds hreply hdenied id hs
    · exact hreply _ _ _ hs

/-! ### The check cycle and CLEAR_FAULT -/

theorem foldl_holds {α : Type} {f : State → α → State} (h : ∀ u a, P u → P (f u a)) (xs : List α) (hs : P s) :
    P (xs.foldl f s) :=
  List.foldlRecOn xs f hs (fun u hu a _ => h u a hu)

theorem State.when_holds {b : Bool} {f : State → State} (h : ∀ u, P u → P (f u)) (hs : P s) : P (s.when b f) := by
  cases b with
  | false => exact hs
  | true => exact h s hs

/-- The actions of a rising keep what each of the five keeps (R159). -/
theorem State.runActions_holds {g : Group} {a : Actions} (hstab : ∀ u, P u → P u.faultStabOff)
    (hzoom : ∀ u, P u → P (u.faultZoomStop g)) (hmark : ∀ u, P u → P (u.faultMarkClip g))
    (hwarn : ∀ u, P u → P (u.faultWarn g)) (hstop : ∀ u, P u → P u.faultStopRec) (hs : P s) :
    P (s.runActions g a) :=
  State.when_holds hstop (State.when_holds hwarn (State.when_holds hmark (State.when_holds hzoom
    (State.when_holds hstab hs))))

/-- A change of supervision's flags and counts, its table and cycle as they were. -/
def KeptBySup (P : State → Prop) : Prop :=
  ∀ u v, v.table = u.sup.table → v.cycle = u.sup.cycle → P u → P { u with sup := v }

/-- The check cycle keeps what the cycle's count, the flags, the actions of a rising, the notices and the owners'
clearing keep (R155). -/
theorem State.checkCycle_holds (hsup : KeptBySup P)
    (hcycle : ∀ u t, P u → P { u with sup := { u.sup with cycle := nextCycle u.sup.cycle, timer := t } })
    (hactions : ∀ u g a, P u → P (u.runActions g a)) (hnotify : ∀ u n, P u → P (u.notify n))
    (hclear : ∀ u g, P u → P (u.clearSampled g)) (hs : P s) : P s.checkCycle := by
  have hrise : ∀ u g, P u → P (u.rise g) := fun u g hu => hsup _ _ rfl rfl (hactions u g _ hu)
  have hnotices : ∀ u g ds, P u → P (u.faultNotices g ds) := by
    intro u g ds hu
    unfold State.faultNotices
    split
    · exact foldl_holds (fun _ _ => hnotify _ _) _ hu
    · exact hu
  have hgroup : ∀ u g ps, P u → P (u.checkGroup g ps) := by
    intro u g ps hu
    have hset := hsup u _ (rfl : (u.sup.setGroup g ((u.sup.group g).check (u.sup.entry g) ps)).table = _) rfl hu
    unfold State.checkGroup
    dsimp only
    split
    · exact hnotices _ _ _ (hrise _ _ hset)
    · exact hnotices _ _ _ hset
  have hbegun := hcycle s (.running s.items.supPeriod) hs
  simp only [State.checkCycle, List.foldl_map]
  refine foldl_holds hclear _ ?_
  refine foldl_holds (fun u g => hgroup u g _) _ ?_
  exact hbegun

/-- Clearing keeps what the flags and a fall's two releases keep (R162). -/
theorem State.clearFault_holds (hsup : KeptBySup P) (hrelease : ∀ u g, P u → P (u.releaseStop g))
    (hwarn : ∀ u gs, P u → P { u with vf := { u.vf with warnGroups := gs } }) (scope group detail : Nat)
    (hs : P s) : P (s.clearFault scope group detail).1 := by
  have hfall : ∀ u g, P u → P (u.fall g) := fun u g hu => hsup _ _ rfl rfl (hwarn _ _ (hrelease u g hu))
  have hdetails : ∀ which u g, P u → P (u.clearDetails which g) := by
    intro which u g hu
    have hset := hsup u _ (rfl : (u.sup.setGroup g ((u.sup.group g).clear which)).table = _) rfl hu
    unfold State.clearDetails
    dsimp only
    split
    · exact hfall _ _ hset
    · exact hset
  unfold State.clearFault
  split
  · split
    · split
      · exact hdetails _ _ _ hs
      · exact hs
    · exact hs
  · split
    · exact hdetails _ _ _ hs
    · exact hs
  · dsimp only
    exact foldl_holds (fun u g => hdetails _ u g) _ hs
  · exact hs

/-! ### Recalls -/

theorem State.recallFactory_holds (hload : ∀ c b, P s → P (s.loadContents c b)) (hs : P s) : P s.recallFactory.1 := by
  unfold State.recallFactory
  split
  · exact hs
  · split
    · exact hs
    · exact hload _ _ hs

theorem State.endRecall_holds (hscene : ∀ u m, P u → P { u with scene := m })
    (hload : ∀ u c b, P u → P (u.loadContents c b)) (hnotify : ∀ u n, P u → P (u.notify n)) (hs : P s) :
    P s.endRecall := by
  unfold State.endRecall
  split
  · exact hnotify _ _ (hload _ _ _ (hscene _ _ hs))
  all_goals exact hs

/-! ### Items taken and loaded -/

/-- What each item keeps with a value of its range, the items loaded keep; the bound pairs and the assignment come
last (R49, R54). -/
theorem loadItems_holds {Q : Items → Prop}
    (hput : ∀ sp ∈ itemSpecs, ∀ v it, sp.holdsValue v = true ∨ v = sp.default → Q it → Q (sp.put v it))
    (hlast : ∀ it a, Q it → Q { it with stab := it.stab.boundPairs, audio := { it.audio with assign := a } })
    (stored : Items) {it : Items} (hit : Q it) : Q (loadItems stored it) := by
  refine hlast _ _ (List.foldlRecOn itemSpecs _ hit fun it h sp hsp => hput sp hsp _ _ ?_ h)
  by_cases hholds : sp.holdsValue (sp.get stored) = true
  · exact .inl (by rwa [if_pos hholds])
  · exact .inr (by rw [if_neg hholds])

/-! ### Membership in the lists of blocks -/

theorem mem_packetBlocks {b : Block} {l : LinkId} :
    b ∈ packetBlocks l ↔ b = .out ∨ b = linkBlock l ∨ (l = .head ∧ b = .zoom) := by
  cases l <;> simp [packetBlocks, linkBlock]

theorem mem_linkResetBlocks {b : Block} {l : LinkId} :
    b ∈ linkResetBlocks l ↔ b = .out ∨ b = linkBlock l ∨ (l = .head ∧ (b = .zoom ∨ b = .stab ∨ b = .recorder)) ∨
      (l = .body ∧ b = .mgmt) := by
  cases l <;> simp [linkResetBlocks, linkBlock]

theorem eq_linkBlock {b : Block} {l : LinkId} :
    b = linkBlock l ↔ (l = .head ∧ b = .head) ∨ (l = .body ∧ b = .body) := by
  cases l <;> simp [linkBlock]

theorem eq_slotBlock {b : Block} {x : SlotId} :
    b = slotBlock x ↔ (x = .a ∧ b = .slotA) ∨ (x = .b ∧ b = .slotB) := by
  cases x <;> simp [slotBlock]

/-! ### Properties of blocks that no link change touches -/

section
variable {bs : List Block} (hP : Reads bs P)
include hP

/-- A frame away from the blocks of a property keeps it. -/
theorem Reads.of_frame {cs : List Block} {t : State} (hcs : ∀ b ∈ bs, b ∉ cs) (h : sameOutside cs s t)
    (hs : P s) : P t :=
  hP s t (fun b hb => h b (hcs b hb)) hs

theorem Reads.begin (hbs : .out ∉ bs) (hs : P s) : P s.begin :=
  hP.of_frame (cs := [.out]) (by simp; exact fun b hb h => hbs (h ▸ hb)) (State.begin_frame (by simp) s) hs

/-- A property away from the blocks that any good packet of a link may change is kept by the intake if the owner's
work keeps it. -/
theorem Reads.intake {k : InKind} {seq : Byte} {owner : State → Nat → State}
    (hbs : ∀ b ∈ bs, b ∉ packetBlocks k.link) (howner : ∀ u n, P u → P (owner u n)) (hs : P s) :
    P (s.begin.intake k seq owner) := by
  refine State.intake_holds (fun u c => hP.of_frame hbs ?_) (fun u => hP.of_frame hbs ?_) howner
    (hP.begin (fun h => hbs _ h (by cases k <;> decide)) hs)
  · cases hk : k.link <;> simp [sameOutside_iff, packetBlocks]
  · cases hk : k.link <;> simp [sameOutside_iff, packetBlocks]

theorem Reads.unlessReset (hbs : .out ∉ bs) {f : State → State} (h : ∀ u, P u → P (f u)) (hs : P s) :
    P (s.begin.unlessReset f) :=
  State.unlessReset_holds (fun _ => h _) (hP.begin hbs hs)

theorem Reads.expire (hbs : .out ∉ bs) {c : Timer} {f : State → State} (h : ∀ u, P u → P (f u)) (hs : P s) :
    P (s.begin.expire c f) :=
  State.expire_holds (fun _ => h _) (hP.begin hbs hs)

theorem Reads.judge (hbs : ∀ b ∈ bs, b ∉ commandBlocks) {src : Source} {tag : Byte} {bits : List Nat}
    {run : State → State × Status × List Byte} (hrun : P s → P (run s).1) (hs : P s) :
    P (s.judge src tag bits run) := by
  refine State.judge_holds (fun u st d => hP.of_frame hbs ?_) (fun u => hP.of_frame hbs ?_) hrun hs <;>
    simp [sameOutside_iff, commandBlocks]

theorem Reads.write (hbs : ∀ b ∈ bs, b ∉ commandBlocks) {src : Source} {tag : Byte} {n : Nat} {data : List Byte}
    (htable : ∀ t c, s.modeRefuses t = false → s.writeFits t c n = true → P s →
      P (s.writeTable t c (pieces t.entryBytes n data)).1) (hs : P s) : P (s.doWrite src tag n data) := by
  refine State.doWrite_holds (fun u st d => hP.of_frame hbs ?_) (fun u => hP.of_frame hbs ?_)
    (fun u c => hP.of_frame hbs ?_) htable hs <;> simp [sameOutside_iff, commandBlocks]

theorem Reads.set (hbs : ∀ b ∈ bs, b ∉ commandBlocks) {src : Source} {tag : Byte} {item v : Nat}
    (hset : ∀ sp ∈ itemSpecs, P s → P (s.setItem sp v).1) (hs : P s) : P (s.doSet src tag item v) := by
  refine State.doSet_holds (fun u st d => hP.of_frame hbs ?_) (fun u => hP.of_frame hbs ?_) hset hs <;>
    simp [sameOutside_iff, commandBlocks]

theorem Reads.command (hbs : ∀ b ∈ bs, b ∉ commandBlocks) {seq : Byte} {run : State → State}
    (hrun : ∀ u, P u → P (run u)) (hs : P s) : P (s.begin.command seq run) :=
  hP.intake (fun b hb h => hbs b hb (by cases b <;> simp_all [packetBlocks, InKind.link, commandBlocks]))
    (fun u _ => hrun u) hs

theorem Reads.action (hbs : ∀ b ∈ bs, b ∉ commandBlocks) {seq : Byte} {src : Source} {tag : Byte} {bits : List Nat}
    {run : State → State × Status} (hrun : ∀ u, P u → P (run u).1) (hs : P s) :
    P (s.begin.action seq src tag bits run) :=
  hP.command hbs (fun u hu => hP.judge hbs (hrun u) hu) hs

end

end Sys2Proof.Machine
end

section
/-! PROOF. The limiter (R62 to R64) and the bounds of the audio unit (R53, R62, R68). -/

namespace Sys2Proof.Machine

/-! ### The limiter of one track -/

theorem natAbs_limitBy (g : Nat) (y : Int) : (limitBy g y).natAbs = y.natAbs * g / 65536 := by
  simp only [limitBy, truncDiv, Int.natAbs_tdiv, Int.natAbs_mul, Int.natAbs_natCast]
  rfl

/-- The gain of a sample beyond the threshold brings it within, and lies below the gain that did not. -/
theorem limitGain_holds {th g : Nat} {y : Int} (h : th < (limitBy g y).natAbs) :
    limitGain th y ≤ g ∧ (limitBy (limitGain th y) y).natAbs ≤ th := by
  rw [natAbs_limitBy] at h ⊢
  have hover : th * 65536 < y.natAbs * g := by
    have := (Nat.le_div_iff_mul_le (by decide)).mp (Nat.succ_le_of_lt h)
    omega
  constructor
  · exact Nat.div_le_of_le_mul hover.le
  · refine Nat.div_le_of_le_mul ?_
    rw [mul_comm 65536]
    exact Nat.mul_div_le _ _

/-- Settles O33, by the test of R62. -/
theorem limiterHoldsThreshold : Obligations.LimiterHoldsThreshold := by
  intro th g y
  have hby : Int.tdiv (y * g) 65536 = limitBy g y := rfl
  refine ⟨rfl, ?_⟩
  by_cases h : th < (limitBy g y).natAbs
  · have hone : limitOne true th g y = (limitGain th y, limitBy (limitGain th y) y) := by simp [limitOne, h]
    obtain ⟨hfalls, hholds⟩ := limitGain_holds h
    rw [hone, hby, if_neg (by omega)]
    exact ⟨hholds, hfalls, rfl, rfl⟩
  · have hone : limitOne true th g y = (g, limitBy g y) := by simp [limitOne, h]
    rw [hone, hby, if_pos (by omega)]
    exact ⟨by simpa using h, le_rfl, rfl, rfl⟩

/-! ### The limiter gains of a packet -/

/-- A limiter gain as `audioSound` bounds it. -/
def GainSound (on : Bool) (g : Nat) : Prop := g ≤ 65536 ∧ (on = false → g = 65536)

theorem limitOne_le (on : Bool) (th g : Nat) (y : Int) : (limitOne on th g y).1 ≤ g := by
  cases on with
  | false => exact le_rfl
  | true => exact (limiterHoldsThreshold th g y).2.2.1

theorem limitOne_gainSound {on : Bool} {th g : Nat} {y : Int} (h : GainSound on g) :
    GainSound on (limitOne on th g y).1 :=
  ⟨(limitOne_le on th g y).trans h.1, fun hoff => by subst hoff; exact h.2 rfl⟩

theorem linkedGain_le (th ga gb : Nat) (ya yb : Int) : linkedGain th ga gb ya yb ≤ min ga gb := by
  have hcand : ∀ {y c}, candidate th (min ga gb) y = some c → c ≤ min ga gb := by
    intro y c hc
    unfold candidate at hc
    split at hc
    · cases hc
      exact (limitGain_holds ‹_›).1
    · cases hc
  unfold linkedGain
  dsimp only
  split
  · exact le_rfl
  · exact hcand ‹_›
  · exact hcand ‹_›
  · exact (min_le_left ..).trans (hcand ‹_›)

theorem limitPair_gainSound {link onA onB : Bool} {th ga gb : Nat} {ya yb : Int} (ha : GainSound onA ga)
    (hb : GainSound onB gb) :
    GainSound onA (limitPair link onA onB th ga gb ya yb).1.1 ∧
    GainSound onB (limitPair link onA onB th ga gb ya yb).1.2 := by
  unfold limitPair
  split
  · next hlinked =>
    simp only [Bool.and_eq_true] at hlinked
    obtain ⟨⟨-, rfl⟩, rfl⟩ := hlinked
    have hle := (linkedGain_le th ga gb ya yb).trans ((min_le_left ..).trans ha.1)
    exact ⟨⟨hle, fun h => by cases h⟩, ⟨hle, fun h => by cases h⟩⟩
  · exact ⟨limitOne_gainSound ha, limitOne_gainSound hb⟩

/-- The bounds of the audio unit, for the limiters on or off (R62, R68). -/
def Audio.Bounded (on : Quad Bool) (a : Audio) : Prop :=
  ∀ t, (a.fifo.get t).length ≤ 4096 ∧ GainSound (on.get t) (a.limGain.get t)

theorem State.audioSound_iff (s : State) :
    s.audioSound ↔ isPermutation s.items.audio.assign = true ∧ s.audio.Bounded s.items.audio.limitOn := Iff.rfl

theorem Quad.get_map {α β : Type} (f : α → β) (q : Quad α) (t : Four) : (q.map f).get t = f (q.get t) := by
  cases t <;> rfl

theorem Quad.get_zipWith {α β γ : Type} (f : α → β → γ) (p : Quad α) (q : Quad β) (t : Four) :
    (p.zipWith f q).get t = f (p.get t) (q.get t) := by
  cases t <;> rfl

theorem fifoAppend_length {fifo : List Int} (h : fifo.length ≤ 4096) (z : Int) :
    (fifoAppend fifo z).1.length ≤ 4096 := by
  unfold fifoAppend fifoCapacity
  split <;> simp <;> omega

theorem limitAll_gainSound {it : AudioItems} {lg : Quad Nat} {y : Quad Int}
    (h : ∀ t, GainSound (it.limitOn.get t) (lg.get t)) (t : Four) :
    GainSound (it.limitOn.get t) ((limitAll it lg y).1.get t) := by
  have h12 := limitPair_gainSound (link := it.link12) (th := it.limitTh) (ya := y.q1) (yb := y.q2) (h .i1) (h .i2)
  have h34 := limitPair_gainSound (link := it.link34) (th := it.limitTh) (ya := y.q3) (yb := y.q4) (h .i3) (h .i4)
  cases t with
  | i1 => exact h12.1
  | i2 => exact h12.2
  | i3 => exact h34.1
  | i4 => exact h34.2

theorem Audio.sampleStep_bounded {it : AudioItems} {a : Audio} (h : a.Bounded it.limitOn) (x : Quad Int) :
    (a.sampleStep it x).1.Bounded it.limitOn := by
  intro t
  refine ⟨?_, limitAll_gainSound (fun t => (h t).2) t⟩
  simp only [Audio.sampleStep, Quad.get_map, Quad.get_zipWith]
  exact fifoAppend_length (h t).1 _

theorem Audio.sampleSteps_bounded {it : AudioItems} {a : Audio} (h : a.Bounded it.limitOn) (xs : List (Quad Int)) :
    (a.sampleSteps it xs).1.Bounded it.limitOn := by
  induction xs generalizing a with
  | nil => exact h
  | cons x xs ih => exact ih (Audio.sampleStep_bounded h x)

theorem releaseGain_gainSound {on : Bool} {g : Nat} (h : GainSound on g) (rel : Nat) :
    GainSound on (releaseGain rel on g) := by
  cases on with
  | false => exact h
  | true => exact ⟨Nat.min_le_left .., fun h => by cases h⟩

/-- The meters are no part of the bounds. -/
theorem Audio.advancePeriod_bounds (a : Audio) :
    a.advancePeriod.fifo = a.fifo ∧ a.advancePeriod.limGain = a.limGain := by
  unfold Audio.advancePeriod
  split <;> exact ⟨rfl, rfl⟩

theorem Audio.process_bounded {it : AudioItems} {a : Audio} (h : a.Bounded it.limitOn) (xs : List (Quad Int)) :
    (a.process it xs).1.Bounded it.limitOn := by
  have hcleared : Audio.Bounded it.limitOn { a with clip := .fill false } := h
  have hsteps := Audio.sampleSteps_bounded hcleared xs
  intro t
  simp only [Audio.process, Audio.advancePeriod_bounds, Quad.get_zipWith]
  exact ⟨(hsteps t).1, releaseGain_gainSound (hsteps t).2 _⟩

theorem State.takeAudio_bounded {s : State} (h : s.audio.Bounded s.items.audio.limitOn) (n : Nat)
    (xs : List (Quad Int)) : (s.takeAudio n xs).audio.Bounded s.items.audio.limitOn := by
  have hone : ∀ (u : State) ys, u.audio.Bounded u.items.audio.limitOn →
      (u.processAudio ys).audio.Bounded u.items.audio.limitOn := by
    intro u ys hu
    simp only [State.processAudio, State.hand_keeps]
    exact Audio.process_bounded hu ys
  have hfill : ∀ (m : Nat) (u : State), u.audio.Bounded u.items.audio.limitOn →
      (u.fillAudio m).audio.Bounded u.items.audio.limitOn := by
    intro m
    induction m with
    | zero => exact fun u hu => hu
    | succ m ih =>
      intro u hu
      have := ih (u.processAudio zeroPacket) (by simpa using hone u zeroPacket hu)
      simpa [State.fillAudio] using this
  have := hone (s.fillAudio (if s.audio.silence.isRunning then n else 0)) xs (by simpa using hfill _ s h)
  exact fun t => by simpa [State.takeAudio] using this t

/-! ### The assignment (R53, R54) -/

theorem formAssign_permutes (q : Quad Nat) : isPermutation (formAssign q) = true := by
  unfold formAssign
  dsimp only
  split
  · assumption
  · rfl

/-- A permutation of 1..4 carries each of them at one place. -/
theorem isPermutation_iff_perm (q : Quad Nat) : isPermutation q = true ↔ [1, 2, 3, 4].Perm q.toList := by
  have hsubset : isPermutation q = true ↔ [1, 2, 3, 4] ⊆ q.toList := by
    simp [isPermutation, List.subset_def]
  rw [hsubset]
  refine ⟨fun h => ?_, List.Perm.subset⟩
  exact (List.subperm_of_subset (by decide) h).perm_of_length_le (by simp [Quad.toList])

theorem injective_of_perm {q : Quad Nat} (h : [1, 2, 3, 4].Perm q.toList) : Function.Injective q.get := by
  have hnodup : q.toList.Nodup := h.nodup (by decide)
  simp only [Quad.toList, List.nodup_cons, List.mem_cons, List.not_mem_nil, not_or, or_false] at hnodup
  intro t u htu
  cases t <;> cases u <;> simp_all [Quad.get, eq_comm]

/-- A SET of an assignment exchanges the input sent and the one carried before, on every track (R53). -/
theorem swapAssign_get {q : Quad Nat} (hq : Function.Injective q.get) (t : Four) (i : Nat) (u : Four) :
    (swapAssign q t i).get u = Equiv.swap i (q.get t) (q.get u) := by
  unfold swapAssign
  dsimp only
  split
  · next hi => rw [← hi, Equiv.swap_self, Equiv.refl_apply]
  · by_cases hu : u = t
    · subst hu
      rw [Quad.get_set_same, Equiv.swap_apply_right]
    · rw [Quad.get_set_other _ _ _ _ hu, Quad.get_map, Equiv.swap_apply_def, if_neg (fun h => hu (hq h))]

/-- A swap of two values that a permutation holds makes a permutation (R53). -/
theorem swapAssign_permutes {q : Quad Nat} (h : isPermutation q = true) (t : Four) {i : Nat} (h1 : 1 ≤ i)
    (h4 : i ≤ 4) : isPermutation (swapAssign q t i) = true := by
  rw [isPermutation_iff_perm] at h ⊢
  have hj : q.get t ∈ [1, 2, 3, 4] := h.symm.subset (by cases t <;> simp [Quad.get, Quad.toList])
  have hi : i ∈ [1, 2, 3, 4] := by simp; omega
  have hswap : ∀ i ∈ [1, 2, 3, 4], ∀ j ∈ [1, 2, 3, 4], ([1, 2, 3, 4].map (Equiv.swap i j)).Perm [1, 2, 3, 4] := by
    decide
  have hget := swapAssign_get (injective_of_perm h) t i
  have hmap : (swapAssign q t i).toList = q.toList.map (Equiv.swap i (q.get t)) := by
    simp only [Quad.toList, List.map_cons, List.map_nil]
    exact congrArg₂ _ (hget .i1) (congrArg₂ _ (hget .i2) (congrArg₂ _ (hget .i3) (congrArg₂ _ (hget .i4) rfl)))
  rw [hmap]
  exact (hswap i hi _ hj).symm.trans (h.map _)

/-! ### SET of an item -/

/-- The items, family by family. -/
theorem forall_itemSpecs {P : ItemSpec → Prop}
    (hplain : ∀ sp ∈ zoomSpecs ++ stabSpecs ++ limiterSpecs ++ recordSpecs ++ viewSpecs, P sp)
    (hassign : ∀ t, P (assignSpec t)) (hinGain : ∀ t, P (inGainSpec t)) (hlimitOn : ∀ t, P (limitOnSpec t))
    (hmonL : ∀ t, P (monLSpec t)) (hmonR : ∀ t, P (monRSpec t)) : ∀ sp ∈ itemSpecs, P sp := by
  intro sp hsp
  have hmem : sp ∈ zoomSpecs ++ stabSpecs ++ limiterSpecs ++ recordSpecs ++ viewSpecs ∨
      sp ∈ Four.all.map assignSpec ∨ sp ∈ Four.all.map inGainSpec ∨ sp ∈ Four.all.map limitOnSpec ∨
      sp ∈ Four.all.map monLSpec ∨ sp ∈ Four.all.map monRSpec := by
    simp only [itemSpecs, audioSpecs, List.mem_append] at hsp ⊢
    tauto
  simp only [List.mem_map] at hmem
  rcases hmem with h | ⟨t, -, rfl⟩ | ⟨t, -, rfl⟩ | ⟨t, -, rfl⟩ | ⟨t, -, rfl⟩ | ⟨t, -, rfl⟩
  · exact hplain sp h
  · exact hassign t
  · exact hinGain t
  · exact hlimitOn t
  · exact hmonL t
  · exact hmonR t

/-- Only the assignments and the limiter switches among the items bear on the bounds of the audio unit. -/
theorem itemSpecs_audio : ∀ sp ∈ itemSpecs, (∃ t, sp = assignSpec t) ∨ (∃ t, sp = limitOnSpec t) ∨
    ∀ v it, (sp.put v it).audio.assign = it.audio.assign ∧ (sp.put v it).audio.limitOn = it.audio.limitOn := by
  refine forall_itemSpecs ?_ (fun t => .inl ⟨t, rfl⟩) (fun t => .inr (.inr fun v it => ⟨rfl, rfl⟩))
    (fun t => .inr (.inl ⟨t, rfl⟩)) (fun t => .inr (.inr fun v it => ⟨rfl, rfl⟩))
    (fun t => .inr (.inr fun v it => ⟨rfl, rfl⟩))
  intro sp hsp
  right; right
  revert sp
  simp only [zoomSpecs, stabSpecs, limiterSpecs, recordSpecs, viewSpecs, List.forall_mem_append,
    List.forall_mem_cons, List.not_mem_nil, false_implies, implies_true, and_self]

theorem mem_of_specOf {n : Nat} {sp : ItemSpec} (h : specOf n = some sp) : sp ∈ itemSpecs ∧ sp.number = n :=
  ⟨List.mem_of_find?_eq_some h, by simpa using List.find?_some h⟩

/-! ### Every other command that touches the audio unit or the items -/

theorem State.audioSound_reads : Reads [.items, .audio] State.audioSound := by
  intro s t h hs
  have hitems : t.items = s.items := h .items (by simp)
  have haudio : t.audio = s.audio := h .audio (by simp)
  unfold State.audioSound
  rw [hitems, haudio]
  exact hs

/-- Samples that leave the FIFOs leave the bounds (R70). -/
theorem Audio.takeFrame_bounded {on : Quad Bool} {a : Audio} (h : a.Bounded on) (n : Nat) :
    (a.takeFrame n).1.Bounded on := by
  intro t
  obtain ⟨hfifo, hgain⟩ := h t
  refine ⟨?_, hgain⟩
  simp only [Audio.takeFrame, Quad.get_map, List.length_drop]
  omega

theorem Audio.limitersOff_bounded {on : Quad Bool} {a : Audio}
    (h : a.Bounded on) (on' : Quad Bool) : (a.limitersOff on').Bounded on' := by
  intro t
  refine ⟨(h t).1, ?_⟩
  simp only [Audio.limitersOff, Quad.get_zipWith, GainSound]
  cases on'.get t with
  | false => exact ⟨le_rfl, fun _ => rfl⟩
  | true => exact ⟨(h t).2.1, fun h => by cases h⟩

/-- An audio unit from which at most the samples of a closed frame have left. -/
def Audio.Trimmed (a b : Audio) : Prop := b = a ∨ ∃ n, b = (a.takeFrame n).1

theorem Audio.Trimmed.bounded {on : Quad Bool} {a b : Audio} (h : a.Trimmed b) (ha : a.Bounded on) : b.Bounded on := by
  rcases h with rfl | ⟨n, rfl⟩
  · exact ha
  · exact Audio.takeFrame_bounded ha n

theorem State.closeFrame_trims (s : State) : s.audio.Trimmed s.closeFrame.audio := by
  unfold State.closeFrame
  split
  · exact .inl rfl
  · next f _ => exact .inr ⟨cadence f.rate f.frame, by simp⟩

theorem State.takeFrameMark_trims (s : State) (m : OpenFrame) : s.audio.Trimmed (s.takeFrameMark m).audio := by
  have hclose := State.closeFrame_trims
    { s.markGap m with recorder := { (s.markGap m).recorder with lastMark := some m, markSilence := .running 200 } }
  unfold State.takeFrameMark
  cases discontinuous s.recorder.lastMark m <;> simpa using hclose

theorem State.markSilenceExpires_trims (s : State) : s.audio.Trimmed s.markSilenceExpires.audio := by
  have hclose := State.closeFrame_trims { s with recorder := { s.recorder with markSilence := .expired } }
  simpa [State.markSilenceExpires] using hclose

theorem State.audioSound_ownerActs {s : State} (hs : s.audioSound) (n : Nat) : (s.ownerActs n).audioSound := by
  unfold State.ownerActs
  split
  · exact hs
  · split
    · exact State.audioSound_reads s _ (by simp [Block.same]) hs
    · split
      · exact ⟨hs.1, Audio.limitersOff_bounded hs.2 _⟩
      · exact hs

/-- A limiter switched takes its gain to unity when off (R62). -/
theorem State.audioSound_limitOn {s : State} (hs : s.audioSound) (t : Four) (v : Nat) :
    ({ s with items := (limitOnSpec t).put v s.items }.ownerActs (limitOnSpec t).number).audioSound := by
  have hn : (limitOnSpec t).number ≠ 67 ∧ (limitOnSpec t).number ≠ 130 ∧
      104 ≤ (limitOnSpec t).number ∧ (limitOnSpec t).number ≤ 107 := by cases t <;> decide
  unfold State.ownerActs
  rw [if_neg hn.1, if_neg hn.2.1, if_pos hn.2.2]
  exact ⟨hs.1, Audio.limitersOff_bounded hs.2 _⟩

theorem takenValue_assign (it : Items) (t : Four) (v : Nat) :
    1 ≤ takenValue it (assignSpec t) v ∧ takenValue it (assignSpec t) v ≤ 4 := by
  have h : takenValue it (assignSpec t) v = clampNat 1 4 v := by cases t <;> rfl
  rw [h]
  exact clampNat_mem (by decide) v

theorem State.audioSound_setItem {s : State} (hs : s.audioSound) {sp : ItemSpec} (hsp : sp ∈ itemSpecs) (v : Nat) :
    (s.setItem sp v).1.audioSound := by
  unfold State.setItem
  split
  · exact hs
  · dsimp only
    rcases itemSpecs_audio sp hsp with ⟨t, rfl⟩ | ⟨t, rfl⟩ | hother
    · obtain ⟨hassign, hbounds⟩ := hs
      obtain ⟨h1, h4⟩ := takenValue_assign s.items t v
      exact State.audioSound_ownerActs (s := { s with items := (assignSpec t).put _ s.items }) ⟨swapAssign_permutes hassign t h1 h4, hbounds⟩ _
    · exact State.audioSound_limitOn hs t _
    · obtain ⟨hassign, hon⟩ := hother (takenValue s.items sp v) s.items
      refine State.audioSound_ownerActs (s := { s with items := _ }) ?_ _
      rw [State.audioSound_iff] at hs ⊢
      dsimp only
      rw [hassign, hon]
      exact hs

theorem loadItems_assign (stored it : Items) : isPermutation (loadItems stored it).audio.assign = true :=
  formAssign_permutes _

/-- The items after a load: the record items that a start taken in the meantime keeps stand (R197). -/
def State.itemsLoaded (s : State) (c : SceneArea) (startTaken : Bool) : Items :=
  if startTaken then
    { loadItems c.items s.items with record := keepRecord s.items.record (loadItems c.items s.items).record }
  else loadItems c.items s.items

/-- Only the record items tell whether a start was taken. -/
theorem State.itemsLoaded_parts (s : State) (c : SceneArea) (b : Bool) :
    (s.itemsLoaded c b).audio = (loadItems c.items s.items).audio ∧
    (s.itemsLoaded c b).stab = (loadItems c.items s.items).stab := by
  cases b <;> exact ⟨rfl, rfl⟩

/-- What a load of scene contents makes of the blocks of its owners (R197). -/
theorem State.loadContents_blocks (s : State) (c : SceneArea) (b : Bool) :
    (s.loadContents c b).items = s.itemsLoaded c b ∧
    (s.loadContents c b).zoom = { s.zoom with presets := c.presets } ∧
    (s.loadContents c b).vf =
      { s.vf with editList := c.display.map DisplayEntry.taken, editChanged := true } ∧
    (s.loadContents c b).stab = s.stab.clearBuckets (s.itemsLoaded c b).stab.bucketTh ∧
    (s.loadContents c b).audio = s.audio.limitersOff (s.itemsLoaded c b).audio.limitOn := by
  simp only [State.loadContents, State.applyPreRec_keeps, State.itemsLoaded, and_self]

theorem State.audioSound_loadContents {s : State} (hs : s.audioSound) (c : SceneArea) (b : Bool) :
    (s.loadContents c b).audioSound := by
  obtain ⟨hitems, -, -, -, haudio⟩ := s.loadContents_blocks c b
  rw [State.audioSound_iff, hitems, haudio, (s.itemsLoaded_parts c b).1]
  exact ⟨loadItems_assign _ _, Audio.limitersOff_bounded hs.2 _⟩

theorem State.audioSound_powerOn (s : State) : s.powerOn.audioSound := by
  obtain ⟨-, -, eaudio, -, -, -, -, eitems, -, -, -⟩ := s.powerOn_loaded
  obtain ⟨-, -, -, haudio, -⟩ := s.loaded_loading
  rw [State.audioSound_iff, eitems, eaudio, haudio]
  constructor
  · have hscene := s.loaded_scene0
    split at hscene
    · rw [hscene.1]
      rfl
    · rw [hscene.1]
      exact loadItems_assign _ _
  · intro t
    have hgain : Audio.powerOn.limGain.get t = 65536 := by cases t <;> rfl
    have hfifo : Audio.powerOn.fifo.get t = [] := by cases t <;> rfl
    exact ⟨by simp [hfifo], hgain.le, fun _ => hgain⟩

theorem State.audioSound_of_trimmed {s t : State} (hs : s.audioSound) (hitems : t.items = s.items)
    (haudio : s.audio.Trimmed t.audio) : t.audioSound := by
  rw [State.audioSound_iff] at hs ⊢
  rw [hitems]
  exact ⟨hs.1, haudio.bounded hs.2⟩

/-- The gain table is no part of the bounds. -/
theorem State.audioSound_writeTable {s : State} (hs : s.audioSound) (t : TableId) (c : Nat) (bs : List (List Byte)) :
    (s.writeTable t c bs).1.audioSound := by
  cases t <;> exact hs

theorem State.audioSound_powerOnEnd {s : State} (hs : s.audioSound) : s.powerOnEnd.audioSound := by
  unfold State.powerOnEnd
  split
  · have hstart : ({ s with inReset := false }.startTimers).audioSound := hs
    exact State.audioSound_reads _ _ (by simp [Block.same]) hstart
  · exact hs

/-- Settles O10, command by command: those that touch the audio unit or the items. -/
theorem audioStaysBounded : Obligations.AudioStaysBounded := by
  intro s t hstep hs
  refine step_keeps State.audioSound_reads (by simp) ?_ hstep hs
  clear hs hstep s t
  intro i s t h htouch hs
  have hP := State.audioSound_reads
  have hout : Block.out ∉ [Block.items, .audio] := by decide
  have hcommand : ∀ b ∈ [Block.items, .audio], b ∉ commandBlocks := by decide
  cases i with
  | powerOnReset => cases h; exact State.audioSound_powerOn s
  | powerOnResetEnd => cases h; exact State.audioSound_powerOnEnd (hP.begin hout hs)
  | audioIn seq samples =>
    cases h
    split
    · refine hP.intake (by decide) (fun u n hu => ?_) hs
      rw [State.audioSound_iff] at hu ⊢
      simpa using ⟨hu.1, State.takeAudio_bounded hu.2 n _⟩
    · exact hP.unlessReset hout (fun u => hP.of_frame (cs := packetBlocks .head) (by decide)
        (by simp [sameOutside_iff, packetBlocks])) hs
  | frameMark seq frame tc rate =>
    cases h
    exact hP.intake (by decide) (fun u n hu => State.audioSound_of_trimmed hu (by simp) (u.takeFrameMark_trims _)) hs
  | set seq src tag item v =>
    cases h
    exact hP.command hcommand (fun u => hP.set hcommand fun sp hsp hu => State.audioSound_setItem hu hsp _) hs
  | write seq src tag n data =>
    cases h
    split
    · exact hP.command hcommand (fun u => hP.write hcommand fun _ _ _ _ hu => State.audioSound_writeTable hu _ _ _) hs
    · exact hP.unlessReset hout (fun u => hP.of_frame (cs := linkResetBlocks .body) (by decide)
        (by simp [sameOutside_iff, linkResetBlocks])) hs
  | recallFactory seq src tag => cases h; exact hP.action hcommand (fun u => State.recallFactory_holds fun _ _ hu => State.audioSound_loadContents hu _ _) hs
  | recallCompletion => 
    cases h
    exact State.endRecall_holds (fun _ _ h => h) (fun u c b hu => State.audioSound_loadContents hu c b)
      (fun u n => State.audioSound_reads _ _ (by simp [Block.same])) (hP.begin hout hs)
  | audioSilenceTimerExpiry => cases h; exact hP.expire hout (fun u hu => hu) hs
  | meterLapseTimerExpiry => cases h; exact hP.expire hout (fun u hu => hu) hs
  | markSilenceTimerExpiry =>
    cases h
    exact hP.expire hout (fun u hu => State.audioSound_of_trimmed hu (by simp) u.markSilenceExpires_trims) hs
  | _ =>
    simp [touches, zoomBlocks, recordingBlocks, commandBlocks, mem_packetBlocks, mem_linkResetBlocks,
      eq_linkBlock, eq_slotBlock] at htouch

end Sys2Proof.Machine
end

section
/-! PROOF. The bounds of the stabiliser (R38, R41, R44) through its samples, its entries, and the commands that reach
it. -/

namespace Sys2Proof.Machine

/-! ### One axis -/

theorem Axis.sound_track {it : StabItems} {a : Axis} (h : a.sound it.bucketTh) (d : Int) :
    (a.track it d).sound it.bucketTh := by
  obtain ⟨hbase, hbucket, hinteg⟩ := h
  unfold Axis.track
  split
  · dsimp only
    split
    · exact ⟨by dsimp only; omega, by dsimp only; omega, hinteg⟩
    · split
      · exact ⟨by dsimp only; omega, by dsimp only; omega, hinteg⟩
      · exact ⟨hbase, by dsimp only; omega, hinteg⟩
  · exact ⟨hbase, hbucket, hinteg⟩

/-- Pan detection leaves what the bounds speak of. -/
theorem Axis.sound_detectPan {th : Nat} {a : Axis} (h : a.sound th) (it : StabItems) (d : Int) :
    (a.detectPan it d).1.sound th := by
  unfold Axis.detectPan
  split
  · split <;> exact h
  · split
    · split <;> exact h
    · exact h

theorem Axis.sound_integrate {th : Nat} {a : Axis} (h : a.sound th) (it : StabItems) (d : Int) :
    (a.integrate it d).sound th := by
  obtain ⟨hbase, hbucket, -⟩ := h
  refine ⟨hbase, hbucket, ?_⟩
  have hclamp := clampInt_mem (lo := -integMax) (hi := integMax) (by decide)
    (a.integ + d - truncDiv a.integ (2 ^ (if a.pan then it.leakPan else it.leakSteady)))
  simp only [integMax] at hclamp
  simp only [Axis.integrate, integMax]
  omega

theorem Axis.sound_advance {it : StabItems} {a : Axis} (h : a.sound it.bucketTh) (n : Nat) (r : Int) :
    (a.advance it n r).1.sound it.bucketTh := by
  have hjoin : (a.join r).sound it.bucketTh := h
  simp only [Axis.advance]
  refine Axis.sound_integrate (Axis.sound_detectPan ?_ _ _) _ _
  split
  · exact hjoin
  · exact Axis.sound_track hjoin _

theorem Axis.sound_correct {th : Nat} {a : Axis} (h : a.sound th) (it : StabItems) (gain travel : Nat) :
    (a.correct it gain travel).1.sound th := by
  unfold Axis.correct
  dsimp only
  split
  · split <;> exact h
  · exact h

theorem Axis.sound_fill {it : StabItems} {a : Axis} (h : a.sound it.bucketTh) (n : Nat) (r : Int) :
    (a.fill it n r).sound it.bucketTh :=
  Axis.sound_advance h n r

theorem Axis.sound_take {it : StabItems} {a : Axis} (h : a.sound it.bucketTh) (n : Nat) (v : LensValues) (r : Int) :
    (a.take it n v r).1.sound it.bucketTh :=
  Axis.sound_correct (Axis.sound_advance h n r) _ _ _

theorem Axis.sound_enterSettling {th : Nat} {a : Axis} (h : a.sound th) : a.enterSettling.sound th :=
  ⟨h.1, h.2.1, Nat.zero_le _⟩

theorem Axis.threshold_pos {th : Nat} {a : Axis} (h : a.sound th) : 0 < th := Nat.zero_lt_of_lt h.2.1

theorem Axis.sound_enterOff {th : Nat} {a : Axis} (h : a.sound th) : a.enterOff.sound th :=
  ⟨h.1, Axis.threshold_pos h, Nat.zero_le _⟩

theorem Axis.sound_settled {th : Nat} {a : Axis} (h : a.sound th) : a.settled.sound th := by
  have hclamp := clampInt_mem (lo := -1536) (hi := 1536) (by decide) (truncDiv a.settleSum 64)
  refine ⟨?_, Axis.threshold_pos h, Nat.zero_le _⟩
  simp only [Axis.settled]
  omega

/-! ### The stabiliser -/

/-- The bounds of the stabiliser with a bucket threshold (R38, R41, R44). -/
def Stabiliser.Bounded (th : Nat) (st : Stabiliser) : Prop :=
  st.yaw.sound th ∧ st.pitch.sound th ∧ st.ring.length ≤ 4

theorem State.stabSound_iff (s : State) : s.stabSound ↔ s.stab.Bounded s.items.stab.bucketTh := Iff.rfl

theorem State.stabSound_reads : Reads [.items, .stab] State.stabSound := by
  intro s t h hs
  have hitems : t.items = s.items := h .items (by simp)
  have hstab : t.stab = s.stab := h .stab (by simp)
  unfold State.stabSound
  rw [hitems, hstab]
  exact hs

theorem State.stabSound_notify {s : State} (hs : s.stabSound) (n : Notice) : (s.notify n).stabSound :=
  State.stabSound_reads s _ (by simp [Block.same]) hs

theorem State.stabSound_hand {s : State} (hs : s.stabSound) (m : OutMsg) : (s.hand m).stabSound :=
  State.stabSound_reads s _ (by simp [Block.same]) hs

/-! ### Entries and samples -/

theorem State.stabSound_enterSettling {s : State} (hs : s.stabSound) : s.enterSettling.stabSound := by
  obtain ⟨hyaw, hpitch, -⟩ := hs
  exact State.stabSound_hand (s := { s with stab := _ })
    ⟨Axis.sound_enterSettling hyaw, Axis.sound_enterSettling hpitch, Nat.zero_le _⟩ _

theorem State.stabSound_enterOff {s : State} (hs : s.stabSound) (r : StabReason) : (s.enterOff r).stabSound := by
  obtain ⟨hyaw, hpitch, -⟩ := hs
  exact State.stabSound_hand (s := { s with stab := _ })
    ⟨Axis.sound_enterOff hyaw, Axis.sound_enterOff hpitch, Nat.zero_le _⟩ _

theorem State.stabSound_settleSample {s : State} (hs : s.stabSound) (r : YawPitch Int) :
    (s.settleSample r).stabSound := by
  obtain ⟨hyaw, hpitch, hring⟩ := hs
  unfold State.settleSample
  dsimp only
  split
  · exact ⟨hyaw, hpitch, hring⟩
  · refine State.stabSound_notify ?_ _
    exact ⟨Axis.sound_settled (a := { s.stab.yaw with settleSum := _ }) hyaw,
      Axis.sound_settled (a := { s.stab.pitch with settleSum := _ }) hpitch, hring⟩

theorem State.stabSound_fillSample {s : State} (hs : s.stabSound) : s.fillSample.stabSound := by
  unfold State.fillSample
  dsimp only
  split
  · exact hs
  · exact State.stabSound_settleSample hs _
  · exact ⟨Axis.sound_fill hs.1 _ _, Axis.sound_fill hs.2.1 _ _, hs.2.2⟩

theorem State.stabSound_fillSamples {s : State} (hs : s.stabSound) (n : Nat) : (s.fillSamples n).stabSound := by
  induction n generalizing s with
  | zero => exact hs
  | succ n ih => exact ih (State.stabSound_fillSample hs)

theorem State.stabSound_takeSample {s : State} (hs : s.stabSound) (r : YawPitch Int) : (s.takeSample r).stabSound := by
  unfold State.takeSample
  dsimp only
  split
  · exact hs
  · exact State.stabSound_settleSample hs r
  · refine State.stabSound_hand (s := State.countDownDrop _) ?_ _
    exact ⟨Axis.sound_take hs.1 _ _ _, Axis.sound_take hs.2.1 _ _ _, keepLast_length _ _⟩

theorem State.stabSound_takeMotion {s : State} (hs : s.stabSound) (n : Nat) (r : YawPitch Int) :
    (s.takeMotion n r).stabSound := by
  have hbegun : ({ s with
      stab := { s.stab with hold := false, gyroLost := decide (gapMissed ≤ n) }.restartTimers }).stabSound := hs
  unfold State.takeMotion
  dsimp only
  split
  · split
    · exact State.stabSound_takeSample (State.stabSound_notify (State.stabSound_enterSettling hbegun) _) r
    · exact State.stabSound_takeSample hbegun r
  · exact State.stabSound_takeSample (State.stabSound_fillSamples hbegun n) r

/-! ### Actions, the zoom drive, links, items -/

theorem State.stabSound_of_same {s t : State} (hs : s.stabSound) (hitems : t.items = s.items)
    (hstab : t.stab = s.stab) : t.stabSound :=
  State.stabSound_reads s t (by simp [Block.same, hitems, hstab]) hs

theorem State.stabSound_arbitrate {s : State} (hs : s.stabSound) : s.arbitrate.stabSound := by
  unfold State.arbitrate
  dsimp only
  split
  · exact hs
  · have hsent : ({ s with
        zoom := { s.zoom with sentSpeed := s.zoom.maskSpeed s.zoom.classSpeed } }.sendZoom).stabSound :=
      State.stabSound_of_same hs (by simp) (by simp)
    exact hsent

theorem State.stabSound_stabOn {s : State} (hs : s.stabSound) : s.stabOn.1.stabSound := by
  unfold State.stabOn
  split
  · exact hs
  · exact State.stabSound_notify (State.stabSound_enterSettling hs) _
  · exact hs

theorem State.stabSound_stabOff {s : State} (hs : s.stabSound) : s.stabOff.1.stabSound := by
  unfold State.stabOff
  split
  · exact hs
  · exact hs
  · exact State.stabSound_notify (State.stabSound_enterOff hs _) _

theorem State.stabSound_baselineReset {s : State} (hs : s.stabSound) : s.baselineReset.1.stabSound := by
  unfold State.baselineReset
  split
  · exact hs
  · exact hs
  · exact State.stabSound_notify (State.stabSound_enterSettling hs) _

theorem State.stabSound_faultStabOff {s : State} (hs : s.stabSound) : s.faultStabOff.stabSound := by
  unfold State.faultStabOff
  split
  · exact hs
  · exact State.stabSound_notify (State.stabSound_enterOff hs _) _

theorem State.stabSound_setupStabOff {s : State} (hs : s.stabSound) : s.setupStabOff.stabSound := by
  unfold State.setupStabOff
  split
  · exact hs
  · exact State.stabSound_enterOff hs _

theorem State.stabSound_enterSetup {s : State} (hs : s.stabSound) : s.enterSetup.1.stabSound := by
  unfold State.enterSetup
  split
  · exact hs
  · split
    · exact hs
    · have hpending : (s.endPending .cancelled).stabSound := State.stabSound_of_same hs (by simp) (by simp)
      exact State.stabSound_of_same (State.stabSound_setupStabOff hpending) (by simp) (by simp)

theorem State.stabSound_panelStab {s : State} (hs : s.stabSound) (pressed : Bool) :
    (s.panelStab pressed).stabSound := by
  have hlevel : ({ s with stab := { s.stab with button := levelOf pressed } }).stabSound := hs
  unfold State.panelStab
  dsimp only
  split
  · split
    · exact State.stabSound_notify (State.stabSound_enterSettling hlevel) _
    · exact hs
    · exact State.stabSound_notify (State.stabSound_enterOff hlevel _) _
  · exact hs

theorem Stabiliser.bounded_crossCheck {th : Nat} {st : Stabiliser} (h : st.Bounded th) (it : StabItems)
    (m : YawPitch Int) : (st.crossCheck it m).Bounded th := by
  unfold Stabiliser.crossCheck
  split
  · split <;> exact h
  · exact h

theorem State.stabSound_takeReport {s : State} (hs : s.stabSound) (r : LensReport) : (s.takeReport r).stabSound := by
  have hcheck : ({ s with stab := s.stab.crossCheck s.items.stab r.shift }).stabSound :=
    Stabiliser.bounded_crossCheck hs _ _
  exact State.stabSound_arbitrate (State.stabSound_of_same hcheck (by simp) (by simp))

theorem State.stabSound_panelZoom {s : State} (hs : s.stabSound) (d : Int) (a b : Bool) :
    (s.panelZoom d a b).stabSound :=
  State.stabSound_arbitrate (State.stabSound_of_same hs (by simp) (by simp))

theorem State.stabSound_takePanel {s : State} (hs : s.stabSound) (rocker : Int) (buttons : Byte) :
    (s.takePanel rocker buttons).stabSound := by
  have hzoom := State.stabSound_panelZoom hs rocker (buttons.getLsbD 3) (buttons.getLsbD 4)
  have hbutton := State.stabSound_panelStab hzoom (buttons.getLsbD 2)
  exact State.stabSound_of_same hbutton (by simp [State.takePanel]) (by simp [State.takePanel])

theorem State.stabSound_zoomPreset {s : State} (hs : s.stabSound) (n : Nat) : (s.zoomPreset n).1.stabSound := by
  unfold State.zoomPreset
  split
  · exact hs
  · exact State.stabSound_arbitrate (State.stabSound_of_same hs (by simp) (by simp))

/-- Buckets cleared where a new threshold reaches them are below it (R38). -/
theorem Stabiliser.bounded_clearBuckets {th th' : Nat} {st : Stabiliser} (h : st.Bounded th) (hpos : 0 < th') :
    (st.clearBuckets th').Bounded th' := by
  have hclear : ∀ a : Axis, a.sound th → (if th' ≤ a.bucket.natAbs then { a with bucket := 0 } else a).sound th' := by
    intro a ha
    split
    · exact ⟨ha.1, hpos, ha.2.2⟩
    · exact ⟨ha.1, by omega, ha.2.2⟩
  exact ⟨hclear _ h.1, hclear _ h.2.1, h.2.2⟩

theorem itemSpecs_bucketTh : ∀ sp ∈ itemSpecs,
    (sp.number = 67 ∧ sp.lo = 1 ∧ sp.hi = 65535 ∧ sp.default = 4000 ∧ ∀ v it, (sp.put v it).stab.bucketTh = v) ∨
    (sp.number ≠ 67 ∧ ∀ v it, (sp.put v it).stab.bucketTh = it.stab.bucketTh) := by
  refine forall_itemSpecs ?_ ?_ ?_ ?_ ?_ ?_
  · simp [zoomSpecs, stabSpecs, limiterSpecs, recordSpecs, viewSpecs]
  all_goals
    intro t
    exact .inr ⟨by cases t <;> decide, fun _ _ => rfl⟩

theorem State.stabSound_setItem {s : State} (hs : s.stabSound) {sp : ItemSpec} (hsp : sp ∈ itemSpecs) (v : Nat) :
    (s.setItem sp v).1.stabSound := by
  unfold State.setItem
  split
  · exact hs
  · dsimp only
    rcases itemSpecs_bucketTh sp hsp with ⟨hnumber, hlo, hhi, -, hput⟩ | ⟨hnumber, hput⟩
    · have hpos : 0 < takenValue s.items sp v := by
        simp only [takenValue, hnumber, hlo, hhi, boundValue]
        exact (clampNat_mem (by decide) v).1
      rw [State.ownerActs, if_pos hnumber]
      exact Stabiliser.bounded_clearBuckets hs (by rwa [hput])
    · have htaken : ({ s with items := sp.put (takenValue s.items sp v) s.items }).stabSound := by
        rw [State.stabSound_iff]
        dsimp only
        rw [hput]
        exact hs
      refine State.stabSound_of_same htaken (by simp) ?_
      rw [State.ownerActs, if_neg hnumber]
      split
      · simp
      · split <;> rfl

theorem loadItems_bucketTh (stored : Items) {it : Items} (h : 0 < it.stab.bucketTh) :
    0 < (loadItems stored it).stab.bucketTh := by
  refine loadItems_holds (Q := fun it => 0 < it.stab.bucketTh) (fun sp hsp v it hv h => ?_) (fun _ _ h => h) stored h
  rcases itemSpecs_bucketTh sp hsp with ⟨hnumber, hlo, hhi, hdefault, hput⟩ | ⟨-, hput⟩
  · rw [hput]
    rcases hv with hv | rfl
    · simp only [ItemSpec.holdsValue, hnumber, hlo, hhi] at hv
      simp at hv
      omega
    · omega
  · rwa [hput]

theorem State.stabSound_loadContents {s : State} (hs : s.stabSound) (c : SceneArea) (b : Bool) :
    (s.loadContents c b).stabSound := by
  obtain ⟨hitems, -, -, hstab, -⟩ := s.loadContents_blocks c b
  rw [State.stabSound_iff, hitems, hstab]
  refine Stabiliser.bounded_clearBuckets hs ?_
  rw [(s.itemsLoaded_parts c b).2]
  exact loadItems_bucketTh _ (Axis.threshold_pos hs.1)

theorem State.stabSound_powerOn (s : State) : s.powerOn.stabSound := by
  have hpos : 0 < s.powerOn.items.stab.bucketTh := by
    obtain ⟨-, -, -, -, -, -, -, eitems, -, -, -⟩ := s.powerOn_loaded
    rw [eitems]
    have hscene := s.loaded_scene0
    split at hscene
    · rw [hscene.1]
      decide
    · rw [hscene.1]
      exact loadItems_bucketTh _ (by decide)
  have hstab := s.powerOn_stab
  rw [State.stabSound_iff]
  split at hstab <;> rw [hstab.1]
  · exact ⟨⟨Nat.zero_le _, hpos, Nat.zero_le _⟩, ⟨Nat.zero_le _, hpos, Nat.zero_le _⟩, Nat.zero_le _⟩
  · exact ⟨⟨Nat.zero_le _, hpos, Nat.zero_le _⟩, ⟨Nat.zero_le _, hpos, Nat.zero_le _⟩, Nat.zero_le _⟩

theorem State.stabSound_checkCycle {s : State} (hs : s.stabSound) : s.checkCycle.stabSound := by
  have hsame : ∀ u v : State, v.items = u.items → v.stab = u.stab → u.stabSound → v.stabSound :=
    fun u v hitems hstab hu => State.stabSound_of_same hu hitems hstab
  refine State.checkCycle_holds (fun u v _ _ hu => hu) (fun u t hu => hu) (fun u g a => State.runActions_holds
    (fun u => State.stabSound_faultStabOff) (fun u hu => ?_) (fun u => hsame u _ (by simp) (by simp)) (fun u hu => hu)
    (fun u => hsame u _ (by simp) (by simp))) (fun u n hu => State.stabSound_notify hu n)
    (fun u g => hsame u _ (by simp) (by simp)) hs
  exact State.stabSound_arbitrate (State.stabSound_of_same hu (by simp) (by simp))

theorem State.stabSound_powerOnEnd {s : State} (hs : s.stabSound) : s.powerOnEnd.stabSound := by
  unfold State.powerOnEnd
  split
  · have hstart : ({ s with inReset := false }.startTimers).stabSound := hs
    exact State.stabSound_of_same hstart (by simp) (by simp)
  · exact hs

/-- The link-down report takes the kept level of the STAB button alone (R52). -/
theorem State.stabSound_linkDown {s : State} (hs : s.stabSound) (l : LinkId) (f : LinkCtl → LinkCtl) :
    ((s.modifyLink l f).linkDown l).stabSound := by
  cases l <;> exact hs

/-- Of a link's own packets and failures the stabiliser learns the link-down report alone. -/
theorem State.stabSound_loseAlignment {s : State} (hs : s.stabSound) (l : LinkId) : (s.loseAlignment l).stabSound := by
  unfold State.loseAlignment
  split
  · exact hs
  · have hreset := State.stabSound_linkDown hs l (fun c => { c.resetChanges with state := .resync })
    exact State.stabSound_of_same hreset (by simp) (by simp)

theorem State.stabSound_failCrc {s : State} (hs : s.stabSound) (l : LinkId) : (s.failCrc l).stabSound := by
  have hcount : ∀ f, (s.modifyLink l f).stabSound := fun f => State.stabSound_of_same hs (by simp) (by simp)
  unfold State.failCrc
  dsimp only
  split
  · exact State.stabSound_of_same hs (by simp) (by simp)
  · split
    · exact State.stabSound_loseAlignment (hcount _) l
    · exact hcount _

theorem State.stabSound_takeLinkReset {s : State} (hs : s.stabSound) (l : LinkId) (e : Byte) :
    (s.takeLinkReset l e).stabSound := by
  have hgood : (s.modifyLink l LinkCtl.goodCrc).stabSound := State.stabSound_of_same hs (by simp) (by simp)
  unfold State.takeLinkReset
  dsimp only
  split
  · split
    · exact State.stabSound_of_same hgood (by simp) (by simp)
    · exact State.stabSound_of_same hgood (by simp) (by simp)
  · split
    · exact hgood
    · exact State.stabSound_of_same (State.stabSound_linkDown hgood l
        (fun c => { c with partnerEpoch := some e }.resetChanges)) (by simp) (by simp)

/-- Settles O9, command by command: those that touch the stabiliser or the items. -/
theorem stabiliserStaysBounded : Obligations.StabiliserStaysBounded := by
  intro s t hstep hs
  refine step_keeps State.stabSound_reads (by simp) ?_ hstep hs
  clear hs hstep s t
  intro i s t h htouch hs
  have hP := State.stabSound_reads
  have hout : Block.out ∉ [Block.items, .stab] := by decide
  have hcommand : ∀ b ∈ [Block.items, .stab], b ∉ commandBlocks := by decide
  have hlinks : ∀ l, ∀ b ∈ [Block.items, .stab], b ∉ packetBlocks l := fun l => by cases l <;> decide
  cases i with
  | powerOnReset => cases h; exact State.stabSound_powerOn s
  | powerOnResetEnd => cases h; exact State.stabSound_powerOnEnd (hP.begin hout hs)
  | motion seq yaw pitch => cases h; exact hP.intake (hlinks _) (fun u n hu => State.stabSound_takeMotion hu n _) hs
  | lensReport seq z a b status => cases h; exact hP.intake (hlinks _) (fun u n hu => State.stabSound_takeReport hu _) hs
  | panel seq rocker buttons =>
    cases h
    exact hP.intake (hlinks _) (fun u n hu => State.stabSound_takePanel hu _ _) hs
  | linkReset l e => cases h; exact hP.unlessReset hout (fun u hu => State.stabSound_takeLinkReset hu l e) hs
  | inboundCrcFailure l => cases h; exact hP.unlessReset hout (fun u hu => State.stabSound_failCrc hu l) hs
  | lossOfFraming l => cases h; exact hP.unlessReset hout (fun u hu => State.stabSound_loseAlignment hu l) hs
  | set seq src tag item v =>
    cases h
    exact hP.command hcommand (fun u => hP.set hcommand fun sp hsp hu => State.stabSound_setItem hu hsp _) hs
  | zoomPreset seq src tag n => cases h; exact hP.action hcommand (fun u hu => State.stabSound_zoomPreset hu _) hs
  | zoomStop seq src tag =>
    cases h
    exact hP.action hcommand (fun u hu => State.stabSound_arbitrate
      (State.stabSound_of_same hu (by simp) (by simp))) hs
  | enterSetup seq src tag => cases h; exact hP.action hcommand (fun u => State.stabSound_enterSetup) hs
  | stabOn seq src tag => cases h; exact hP.action hcommand (fun u => State.stabSound_stabOn) hs
  | stabOff seq src tag => cases h; exact hP.action hcommand (fun u => State.stabSound_stabOff) hs
  | baselineReset seq src tag => cases h; exact hP.action hcommand (fun u => State.stabSound_baselineReset) hs
  | clearFault seq src tag scope group detail =>
    cases h
    exact hP.action hcommand (fun u hu => State.clearFault_holds (fun _ _ _ _ h => h)
      (fun v g hv => State.stabSound_arbitrate (State.stabSound_of_same hv (by simp) (by simp)))
      (fun _ _ h => h) _ _ _ hu) hs
  | recallFactory seq src tag => cases h; exact hP.action hcommand (fun u => State.recallFactory_holds fun _ _ hu => State.stabSound_loadContents hu _ _) hs
  | recallCompletion => 
    cases h
    exact State.endRecall_holds (fun _ _ h => h) (fun u c b hu => State.stabSound_loadContents hu c b)
      (fun u n hu => State.stabSound_notify hu n) (hP.begin hout hs)
  | rockerLapseTimerExpiry | presetTimeoutExpiry =>
    cases h
    exact hP.expire hout (fun u hu => State.stabSound_arbitrate (State.stabSound_of_same hu (by simp) (by simp))) hs
  | gyroSilenceTimerExpiry | longGapTimerExpiry => cases h; exact hP.expire hout (fun u hu => hu) hs
  | checkCycle => cases h; exact hP.expire hout (fun u => State.stabSound_checkCycle) hs
  | _ =>
    simp [touches, recordingBlocks, commandBlocks, mem_packetBlocks, mem_linkResetBlocks,
      eq_linkBlock, eq_slotBlock] at htouch

end Sys2Proof.Machine
end

section
/-! PROOF. The optics mode and the sent speed (R6, R21, R25): what the links, the stabiliser and the zoom drive change
of them. -/

namespace Sys2Proof.Machine

/-! ### What the links change of the zoom drive and the stabiliser -/

/-- Of the zoom drive at most the kept button levels and the refresh timer have changed, and the stabiliser's state
stands. -/
def State.LinkOnly (s t : State) : Prop :=
  (∃ a b r, t.zoom = { s.zoom with p1 := a, p2 := b, refresh := r }) ∧ t.stab.state = s.stab.state

theorem State.LinkOnly.of_same {s t : State} (hzoom : t.zoom = s.zoom) (hstab : t.stab = s.stab) : s.LinkOnly t :=
  ⟨⟨_, _, _, hzoom⟩, by rw [hstab]⟩

theorem State.LinkOnly.trans {s t u : State} (h : s.LinkOnly t) (h' : t.LinkOnly u) : s.LinkOnly u := by
  obtain ⟨⟨a, b, r, hzoom⟩, hstab⟩ := h
  obtain ⟨⟨a', b', r', hzoom'⟩, hstab'⟩ := h'
  exact ⟨⟨a', b', r', by rw [hzoom', hzoom]⟩, hstab'.trans hstab⟩

theorem State.linkOnly_sendZoom (s : State) : s.LinkOnly s.sendZoom := by
  refine ⟨⟨s.zoom.p1, s.zoom.p2, .running 20, ?_⟩, ?_⟩ <;> simp [State.sendZoom]

theorem State.linkOnly_linkDown (s : State) (l : LinkId) : s.LinkOnly (s.linkDown l) := by
  cases l with
  | head => exact ⟨⟨_, _, _, rfl⟩, rfl⟩
  | body => exact ⟨⟨_, _, _, rfl⟩, rfl⟩

theorem State.linkOnly_linkAligned (s : State) (l : LinkId) : s.LinkOnly (s.linkAligned l) := by
  cases l with
  | head => exact s.linkOnly_sendZoom.trans (.of_same (by simp [State.linkAligned]) (by simp [State.linkAligned]))
  | body => exact .of_same rfl rfl

theorem State.linkOnly_align (s : State) (l : LinkId) : s.LinkOnly (s.align l) :=
  (State.LinkOnly.of_same (by simp) (by simp)).trans (State.linkOnly_linkAligned _ l)

theorem State.linkOnly_goodInResync (s : State) (l : LinkId) : s.LinkOnly (s.goodInResync l) := by
  unfold State.goodInResync
  split
  · exact s.linkOnly_align l
  · exact .of_same (by simp) (by simp)

theorem State.linkOnly_refusePacket (s : State) (l : LinkId) (f : LinkCtl → LinkCtl) :
    s.LinkOnly (s.refusePacket l f) := by
  unfold State.refusePacket
  dsimp only
  split
  · exact (State.LinkOnly.of_same (by simp) (by simp)).trans (State.linkOnly_goodInResync _ l)
  · exact .of_same (by simp) (by simp)

/-- The reset of a link, with its report and its LINK_RESET (R169, R175). -/
theorem State.linkOnly_reset (s : State) (l : LinkId) (f : LinkCtl → LinkCtl) :
    s.LinkOnly (((s.modifyLink l f).linkDown l).sendLinkReset l) := by
  have hlink : s.LinkOnly (s.modifyLink l f) := .of_same (by simp) (by simp)
  have hdown := State.linkOnly_linkDown (s.modifyLink l f) l
  exact hlink.trans (hdown.trans (.of_same (by simp) (by simp)))

theorem State.linkOnly_loseAlignment (s : State) (l : LinkId) : s.LinkOnly (s.loseAlignment l) := by
  unfold State.loseAlignment
  split
  · exact .of_same rfl rfl
  · exact (s.linkOnly_reset l (fun c => { c.resetChanges with state := .resync })).trans
      (.of_same (by simp) (by simp))

theorem State.linkOnly_failCrc (s : State) (l : LinkId) : s.LinkOnly (s.failCrc l) := by
  unfold State.failCrc
  dsimp only
  split
  · exact .of_same (by simp) (by simp)
  · split
    · exact (State.LinkOnly.of_same (by simp) (by simp)).trans (State.linkOnly_loseAlignment _ l)
    · exact .of_same (by simp) (by simp)

theorem State.linkOnly_takeLinkReset (s : State) (l : LinkId) (e : Byte) : s.LinkOnly (s.takeLinkReset l e) := by
  have hgood : s.LinkOnly (s.modifyLink l LinkCtl.goodCrc) := .of_same (by simp) (by simp)
  unfold State.takeLinkReset
  dsimp only
  split
  · split
    · exact hgood.trans (State.linkOnly_goodInResync _ l)
    · exact hgood.trans ((State.LinkOnly.of_same (by simp) (by simp)).trans (State.linkOnly_align _ l))
  · split
    · exact hgood
    · exact hgood.trans ((State.linkOnly_reset _ l _).trans (State.linkOnly_linkAligned _ l))

/-- A property that the links leave as it is. -/
def LinkFree (P : State → Prop) : Prop := ∀ u v : State, u.LinkOnly v → P u → P v

section
variable {P : State → Prop} {s : State} (hP : LinkFree P)
include hP

theorem LinkFree.same {t : State} (hzoom : t.zoom = s.zoom) (hstab : t.stab = s.stab) (hs : P s) : P t :=
  hP _ _ (.of_same hzoom hstab) hs

theorem LinkFree.begin (hs : P s) : P s.begin := hP s _ (.of_same rfl rfl) hs

theorem LinkFree.intake {k : InKind} {seq : Byte} {owner : State → Nat → State}
    (howner : ∀ u n, P u → P (owner u n)) (hs : P s) : P (s.begin.intake k seq owner) :=
  State.intake_holds (fun _ _ => hP.same (by simp) (by simp)) (fun u => hP _ _ (u.linkOnly_goodInResync _)) howner
    (hP.begin hs)

theorem LinkFree.unlessReset {f : State → State} (h : ∀ u, P u → P (f u)) (hs : P s) :
    P (s.begin.unlessReset f) :=
  State.unlessReset_holds (fun _ => h _) (hP.begin hs)

theorem LinkFree.expire {c : Timer} {f : State → State} (h : ∀ u, P u → P (f u)) (hs : P s) :
    P (s.begin.expire c f) :=
  State.expire_holds (fun _ => h _) (hP.begin hs)

theorem LinkFree.command {seq : Byte} {run : State → State} (hrun : ∀ u, P u → P (run u)) (hs : P s) :
    P (s.begin.command seq run) :=
  hP.intake (fun u _ => hrun u) hs

theorem LinkFree.action {seq : Byte} {src : Source} {tag : Byte} {bits : List Nat} {run : State → State × Status}
    (hrun : ∀ u, P u → P (run u).1) (hs : P s) : P (s.begin.action seq src tag bits run) :=
  hP.command (fun u hu => State.judge_holds (fun _ _ _ => hP.same (by simp) (by simp))
    (fun _ => hP.same (by simp) (by simp)) (hrun u) hu) hs

theorem LinkFree.write {src : Source} {tag : Byte} {n : Nat} {data : List Byte}
    (htable : ∀ t c, s.modeRefuses t = false → s.writeFits t c n = true → P s →
      P (s.writeTable t c (pieces t.entryBytes n data)).1) (hs : P s) : P (s.doWrite src tag n data) :=
  State.doWrite_holds (fun _ _ _ => hP.same (by simp) (by simp)) (fun _ => hP.same (by simp) (by simp))
    (fun _ _ => hP.same (by simp) (by simp)) htable hs

end

/-! ### The sent speed (R21) -/

/-- The sent speed is judged by the report, the claims and the move. -/
theorem State.zoomSound_of_claims {s t : State} (hs : s.zoomSound) (hsent : t.zoom.sentSpeed = s.zoom.sentSpeed)
    (hreport : t.zoom.report = s.zoom.report) (hgroups : t.zoom.stopGroups = s.zoom.stopGroups)
    (hrocker : t.zoom.rocker = s.zoom.rocker) (hmove : t.zoom.move = s.zoom.move) : t.zoomSound := by
  unfold State.zoomSound at hs ⊢
  generalize t.zoom = z' at *
  generalize s.zoom = z at *
  cases z
  cases z'
  dsimp only at hsent hreport hgroups hrocker hmove
  subst hsent hreport hgroups hrocker hmove
  exact hs

theorem zoomSound_linkFree : LinkFree State.zoomSound := by
  intro u v h hu
  obtain ⟨⟨a, b, r, hzoom⟩, -⟩ := h
  exact State.zoomSound_of_claims hu (by rw [hzoom]) (by rw [hzoom]) (by rw [hzoom]) (by rw [hzoom]) (by rw [hzoom])

/-- The arbiter makes the sent speed the masked class speed (R21). -/
theorem State.zoomSound_arbitrate (s : State) : s.arbitrate.zoomSound := by
  unfold State.zoomSound
  rw [State.arbitrate_zoom]
  rfl

theorem State.zoomSound_reads : Reads [.zoom] State.zoomSound := by
  intro s t h hs
  have hzoom : t.zoom = s.zoom := h .zoom (by simp)
  rwa [State.zoomSound, hzoom]

theorem State.zoomSound_powerOn (s : State) : s.powerOn.zoomSound := by
  obtain ⟨-, ezoom, -, -, -, -, -, -, -, -, -⟩ := s.powerOn_loaded
  obtain ⟨-, hzoom, -, -, -⟩ := s.loaded_loading
  rw [State.zoomSound, ezoom, hzoom]
  rfl

theorem State.zoomSound_loadContents {s : State} (hs : s.zoomSound) (c : SceneArea) (b : Bool) :
    (s.loadContents c b).zoomSound := by
  obtain ⟨-, hzoom, -, -, -⟩ := s.loadContents_blocks c b
  rw [State.zoomSound, hzoom]
  exact hs

theorem State.zoomSound_enterSetup {s : State} (hs : s.zoomSound) : s.enterSetup.1.zoomSound := by
  have hP := zoomSound_linkFree
  unfold State.enterSetup
  split
  · exact hs
  · split
    · exact hs
    · have hpending : (s.endPending .cancelled).setupStabOff.zoomSound := by
        unfold State.endPending
        split <;> refine State.zoomSound_of_claims hs ?_ ?_ ?_ ?_ ?_ <;> simp
      refine State.zoomSound_of_claims hpending ?_ ?_ ?_ ?_ ?_ <;> simp

theorem State.zoomSound_enterRun {s : State} (hs : s.zoomSound) : s.enterRun.1.zoomSound := by
  unfold State.enterRun
  split
  · exact hs
  · split
    · refine State.zoomSound_of_claims hs ?_ ?_ ?_ ?_ ?_ <;> simp
    · exact hs

theorem State.zoomSound_writeTable {s : State} (hs : s.zoomSound) (t : TableId) (c : Nat) (bs : List (List Byte)) :
    (s.writeTable t c bs).1.zoomSound := by
  cases t <;> exact hs

theorem State.zoomSound_checkCycle {s : State} (hs : s.zoomSound) : s.checkCycle.zoomSound := by
  have hsame : ∀ u v : State, v.zoom = u.zoom → u.zoomSound → v.zoomSound := fun u v h hu =>
    State.zoomSound_reads u v (by simpa [Block.same] using h) hu
  refine State.checkCycle_holds (fun u v _ _ hu => hu) (fun u t hu => hu) (fun u g a => State.runActions_holds
    (fun u => hsame u _ (by simp)) (fun u _ => State.zoomSound_arbitrate _) (fun u => hsame u _ (by simp))
    (fun u hu => hu) (fun u => hsame u _ (by simp))) (fun u n => hsame u _ (by simp))
    (fun u g => hsame u _ (by simp)) hs

theorem State.zoomSound_takePanel (s : State) (rocker : Int) (buttons : Byte) :
    (s.takePanel rocker buttons).zoomSound := by
  have hzoom : (s.panelZoom rocker (buttons.getLsbD 3) (buttons.getLsbD 4)).zoomSound := State.zoomSound_arbitrate _
  exact State.zoomSound_reads _ _ (by simp [State.takePanel, Block.same]) hzoom

/-- Every command that touches the zoom drive leaves the sent speed at the masked class speed. -/
theorem zoomSound_exec (i : Instr) (s t : State) (h : exec i s = .next t)
    (htouch : ∃ b ∈ [Block.zoom], b ∈ touches i) (hs : s.zoomSound) : t.zoomSound := by
  have hP := zoomSound_linkFree
  have hsame : ∀ {u v : State}, v.zoom = u.zoom → u.zoomSound → v.zoomSound := fun {u v} h hu =>
    State.zoomSound_reads u v (by simpa [Block.same] using h) hu
  cases i with
  | powerOnReset => cases h; exact State.zoomSound_powerOn s
  | powerOnResetEnd =>
    cases h
    unfold State.powerOnEnd
    split
    · exact State.zoomSound_of_claims hs (by simp [State.startTimers]) (by simp [State.startTimers])
        (by simp [State.startTimers]) (by simp [State.startTimers]) (by simp [State.startTimers])
    · exact hs
  | motion => cases h; exact hP.intake (fun u n => hsame (by simp)) hs
  | lensReport => cases h; exact hP.intake (fun u n _ => State.zoomSound_arbitrate _) hs
  | panel =>
    cases h
    exact hP.intake (fun u n _ => u.zoomSound_takePanel _ _) hs
  | audioIn seq samples =>
    cases h
    split
    · exact hP.intake (fun u n => hsame (by simp)) hs
    · exact hP.unlessReset (fun u => hP _ _ (u.linkOnly_refusePacket _ _)) hs
  | linkReset l e => cases h; exact hP.unlessReset (fun u => hP _ _ (u.linkOnly_takeLinkReset l e)) hs
  | inboundCrcFailure l => cases h; exact hP.unlessReset (fun u => hP _ _ (u.linkOnly_failCrc l)) hs
  | lossOfFraming l => cases h; exact hP.unlessReset (fun u => hP _ _ (u.linkOnly_loseAlignment l)) hs
  | foreignPacket l | rejectedPacket l =>
    cases h; exact hP.unlessReset (fun u => hP _ _ (u.linkOnly_refusePacket l _)) hs
  | write seq src tag n data =>
    cases h
    split
    · exact hP.command (fun u => hP.write fun _ _ _ _ hu => State.zoomSound_writeTable hu _ _ _) hs
    · exact hP.unlessReset (fun u => hP _ _ (u.linkOnly_failCrc _)) hs
  | zoomPreset seq src tag n =>
    cases h
    refine hP.action (fun u hu => ?_) hs
    unfold State.zoomPreset
    split
    · exact hu
    · exact State.zoomSound_arbitrate _
  | zoomStop => cases h; exact hP.action (fun u _ => State.zoomSound_arbitrate _) hs
  | enterSetup => cases h; exact hP.action (fun u => State.zoomSound_enterSetup) hs
  | enterRun => cases h; exact hP.action (fun u => State.zoomSound_enterRun) hs
  | lensTableClear =>
    cases h
    refine hP.action (fun u hu => ?_) hs
    unfold State.lensTableClear
    split <;> exact hu
  | clearFault =>
    cases h
    exact hP.action (fun u hu => State.clearFault_holds (fun _ _ _ _ h => h)
      (fun v g _ => State.zoomSound_arbitrate _) (fun _ _ h => h) _ _ _ hu) hs
  | recallFactory =>
    cases h
    exact hP.action (fun u => State.recallFactory_holds fun _ _ hu => State.zoomSound_loadContents hu _ _) hs
  | recallCompletion =>
    cases h
    exact State.endRecall_holds (fun _ _ h => h) (fun u c b hu => State.zoomSound_loadContents hu c b)
      (fun u n => hsame (by simp)) (hP.begin hs)
  | lensSilenceTimerExpiry => cases h; exact hP.expire (fun u hu => hu) hs
  | rockerLapseTimerExpiry | presetTimeoutExpiry =>
    cases h; exact hP.expire (fun u _ => State.zoomSound_arbitrate _) hs
  | refreshTimerExpiry => cases h; exact hP.expire (fun u => hP _ _ u.linkOnly_sendZoom) hs
  | checkCycle => cases h; exact hP.expire (fun u => State.zoomSound_checkCycle) hs
  | _ =>
    simp [touches, recordingBlocks, commandBlocks, mem_packetBlocks, mem_linkResetBlocks, eq_linkBlock, eq_slotBlock]
      at htouch

/-! ### The optics mode (R6, R24, R25) -/

theorem State.opticsSound_iff (s : State) :
    s.opticsSound ↔ (s.zoom.mode = .run → s.zoom.tablesValid = true) ∧ (s.zoom.mode = .setup → s.stab.state = .off) := by
  unfold State.opticsSound
  cases s.zoom.mode <;> simp

theorem State.opticsSound_reads : Reads [.zoom, .stab] State.opticsSound := by
  intro s t h hs
  have hzoom : t.zoom = s.zoom := h .zoom (by simp)
  have hstab : t.stab = s.stab := h .stab (by simp)
  rwa [State.opticsSound, hzoom, hstab]

/-- The optics mode and the tables of the zoom drive. -/
def Zoom.optics (z : Zoom) : OpticsMode × List LensEntry × List (Option Nat) × List Preset :=
  (z.mode, z.lens, z.curve, z.presets)

/-- The mode and the tables it is judged by as they were, and the stabiliser not out of OFF. -/
theorem State.opticsSound_of_tables {s t : State} (hs : s.opticsSound) (hmode : t.zoom.mode = s.zoom.mode)
    (hlens : t.zoom.lens = s.zoom.lens) (hcurve : t.zoom.curve = s.zoom.curve)
    (hstab : s.stab.state = .off → t.stab.state = .off) : t.opticsSound := by
  rw [State.opticsSound_iff] at hs ⊢
  simp only [Zoom.tablesValid, hmode, hlens, hcurve]
  exact ⟨hs.1, fun h => hstab (hs.2 h)⟩

theorem State.opticsSound_of_optics {s t : State} (hs : s.opticsSound) (hoptics : t.zoom.optics = s.zoom.optics)
    (hstab : s.stab.state = .off → t.stab.state = .off) : t.opticsSound := by
  simp only [Zoom.optics, Prod.mk.injEq] at hoptics
  obtain ⟨hmode, hlens, hcurve, -⟩ := hoptics
  exact State.opticsSound_of_tables hs hmode hlens hcurve hstab

/-- In RUN the stabiliser is free. -/
theorem State.opticsSound_of_run {s t : State} (hs : s.opticsSound) (hrun : s.zoom.mode = .run)
    (hzoom : t.zoom = s.zoom) : t.opticsSound := by
  rw [State.opticsSound_iff] at hs ⊢
  rw [hzoom]
  exact ⟨hs.1, fun h => by rw [hrun] at h; cases h⟩

theorem opticsSound_linkFree : LinkFree State.opticsSound := by
  intro u v h hu
  obtain ⟨⟨a, b, r, hzoom⟩, hstab⟩ := h
  exact State.opticsSound_of_optics hu (by rw [hzoom]; rfl) (fun h => by rw [hstab, h])

/-! #### The zoom drive leaves the mode and the tables -/

theorem State.arbitrate_optics (s : State) :
    s.arbitrate.zoom.optics = s.zoom.optics ∧ s.arbitrate.stab.state = s.stab.state := by
  rcases s.arbitrate_cases with ⟨-, h⟩ | ⟨-, h⟩ <;> rw [h] <;> exact ⟨rfl, rfl⟩

theorem State.endMove_optics (s : State) (e : MoveEnd) : (s.endMove e).zoom.optics = s.zoom.optics := by
  unfold State.endMove
  split <;> rfl

theorem State.endPending_optics (s : State) (e : MoveEnd) : (s.endPending e).zoom.optics = s.zoom.optics := by
  unfold State.endPending
  split <;> rfl

theorem State.stepMove_optics (s : State) : s.stepMove.zoom.optics = s.zoom.optics := by
  unfold State.stepMove
  split
  · rfl
  · dsimp only
    split
    · exact s.endMove_optics _
    · rfl

theorem State.startPreset_optics (s : State) (n : Nat) : (s.startPreset n).zoom.optics = s.zoom.optics :=
  State.stepMove_optics _

theorem State.requestPreset_optics (s : State) (b : Bool) (n : Nat) :
    (s.requestPreset b n).1.zoom.optics = s.zoom.optics := by
  unfold State.requestPreset
  split
  · rfl
  · split
    · cases b <;> rfl
    · exact s.endPending_optics _
    · exact (State.startPreset_optics _ n).trans (s.endMove_optics _)
    · exact (State.startPreset_optics _ n).trans (s.endMove_optics _)

theorem State.presetEdge_optics (s : State) (b : Bool) (n : Nat) : (s.presetEdge b n).zoom.optics = s.zoom.optics := by
  unfold State.presetEdge
  split
  · exact s.requestPreset_optics _ _
  · rfl

theorem State.panelRocker_optics (s : State) (d : Int) : (s.panelRocker d).zoom.optics = s.zoom.optics := by
  unfold State.panelRocker
  split
  · dsimp only
    split
    · exact State.endMove_optics s.ignoreZoom _
    · exact s.endMove_optics _
  · dsimp only
    split
    · split
      · rfl
      · exact State.startPreset_optics _ _
    · rfl

theorem State.stopArises_optics (s : State) (b : Bool) : (s.stopArises b).zoom.optics = s.zoom.optics := by
  unfold State.stopArises
  split
  · exact (State.endPending_optics _ _).trans (s.endMove_optics _)
  · rfl

/-- The arbiter recomputed after a change of claims that leaves the mode, the tables and the stabiliser. -/
theorem State.opticsSound_arbitrate {s t : State} (hs : s.opticsSound) (hoptics : t.zoom.optics = s.zoom.optics)
    (hstab : t.stab = s.stab) : t.arbitrate.opticsSound :=
  State.opticsSound_of_optics hs (t.arbitrate_optics.1.trans hoptics) (fun h => by rw [t.arbitrate_optics.2, hstab, h])

theorem State.opticsSound_panelZoom {s : State} (hs : s.opticsSound) (d : Int) (a b : Bool) :
    (s.panelZoom d a b).opticsSound := by
  refine State.opticsSound_arbitrate hs ?_ (by simp)
  rw [State.presetEdge_optics, State.presetEdge_optics, State.panelRocker_optics]
  rfl

theorem State.opticsSound_takeReport {s : State} (hs : s.opticsSound) (r : LensReport) :
    (s.takeReport r).opticsSound := by
  have hcheck : ({ s with stab := s.stab.crossCheck s.items.stab r.shift }).opticsSound := by
    refine State.opticsSound_of_optics hs rfl fun h => ?_
    dsimp only [Stabiliser.crossCheck]
    split
    · split <;> exact h
    · exact h
  refine State.opticsSound_arbitrate hcheck ?_ (by simp)
  rw [State.stopArises_optics, State.stepMove_optics]
  rfl

theorem State.opticsSound_faultZoomStop {s : State} (hs : s.opticsSound) (g : Group) :
    (s.faultZoomStop g).opticsSound := by
  refine State.opticsSound_arbitrate hs ?_ (by simp)
  rw [State.stopArises_optics]
  rfl

/-! #### The stabiliser leaves OFF in RUN alone -/

theorem State.enterOff_state (s : State) (r : StabReason) : (s.enterOff r).stab.state = .off := by
  simp [State.enterOff]

theorem State.opticsSound_enterOff {s : State} (hs : s.opticsSound) (r : StabReason) : (s.enterOff r).opticsSound :=
  State.opticsSound_of_optics hs (by simp [Zoom.optics]) (fun _ => s.enterOff_state r)

theorem State.opticsSound_notify {s : State} (hs : s.opticsSound) (n : Notice) : (s.notify n).opticsSound :=
  opticsSound_linkFree.same (by simp) (by simp) hs

theorem State.opticsSound_stabOn {s : State} (hs : s.opticsSound) : s.stabOn.1.opticsSound := by
  unfold State.stabOn
  split
  · exact hs
  · next hmode _ => exact State.opticsSound_of_run hs hmode (by simp)
  · exact hs

theorem State.opticsSound_baselineReset {s : State} (hs : s.opticsSound) : s.baselineReset.1.opticsSound := by
  unfold State.baselineReset
  split
  · exact hs
  · exact hs
  · next hmode _ => exact State.opticsSound_of_run hs hmode (by simp)

theorem State.opticsSound_stabOff {s : State} (hs : s.opticsSound) : s.stabOff.1.opticsSound := by
  unfold State.stabOff
  split
  · exact hs
  · exact hs
  · exact State.opticsSound_notify (State.opticsSound_enterOff hs _) _

theorem State.opticsSound_faultStabOff {s : State} (hs : s.opticsSound) : s.faultStabOff.opticsSound := by
  unfold State.faultStabOff
  split
  · exact hs
  · exact State.opticsSound_notify (State.opticsSound_enterOff hs _) _

theorem State.opticsSound_panelStab {s : State} (hs : s.opticsSound) (pressed : Bool) :
    (s.panelStab pressed).opticsSound := by
  have hlevel : ({ s with stab := { s.stab with button := levelOf pressed } }).opticsSound :=
    State.opticsSound_of_optics hs rfl (fun h => h)
  unfold State.panelStab
  dsimp only
  split
  · split
    · next hmode => exact State.opticsSound_of_run hlevel hmode (by simp)
    · exact hlevel
    · exact State.opticsSound_notify (State.opticsSound_enterOff hlevel _) _
  · exact hlevel

theorem State.opticsSound_takePanel {s : State} (hs : s.opticsSound) (rocker : Int) (buttons : Byte) :
    (s.takePanel rocker buttons).opticsSound := by
  have hzoom := State.opticsSound_panelZoom hs rocker (buttons.getLsbD 3) (buttons.getLsbD 4)
  have hbutton := State.opticsSound_panelStab hzoom (buttons.getLsbD 2)
  exact opticsSound_linkFree.same (by simp [State.takePanel]) (by simp [State.takePanel]) hbutton

/-- A sample keeps the stabiliser in OFF. -/
theorem State.takeSample_off {s : State} (h : s.stab.state = .off) (r : YawPitch Int) :
    (s.takeSample r).stab.state = .off := by
  simp only [State.takeSample, h]
  rfl

theorem State.fillSamples_off {s : State} (h : s.stab.state = .off) (n : Nat) : (s.fillSamples n).stab.state = .off := by
  induction n generalizing s with
  | zero => exact h
  | succ n ih =>
    refine ih ?_
    simp only [State.fillSample, h]
    exact h

theorem State.takeMotion_off {s : State} (h : s.stab.state = .off) (n : Nat) (r : YawPitch Int) :
    (s.takeMotion n r).stab.state = .off := by
  have hbegun : ({ s with
      stab := { s.stab with hold := false, gyroLost := decide (gapMissed ≤ n) }.restartTimers }).stab.state = .off := h
  unfold State.takeMotion
  dsimp only
  split
  · rw [if_neg (by simp [Stabiliser.restartTimers, h])]
    exact State.takeSample_off hbegun r
  · exact State.takeSample_off (State.fillSamples_off hbegun n) r

/-! #### Every command -/

theorem State.opticsSound_enterSetup {s : State} (hs : s.opticsSound) : s.enterSetup.1.opticsSound := by
  unfold State.enterSetup
  split
  · exact hs
  · split
    · exact hs
    · refine (State.opticsSound_iff _).mpr ⟨fun h => by simp at h, fun _ => ?_⟩
      simp only [State.notifyMode_keeps, State.setupStabOff]
      split
      · assumption
      · exact State.enterOff_state _ _

theorem State.opticsSound_enterRun {s : State} (hs : s.opticsSound) : s.enterRun.1.opticsSound := by
  unfold State.enterRun
  split
  · exact hs
  · split
    · next hvalid => exact (State.opticsSound_iff _).mpr ⟨fun _ => by simpa [Zoom.tablesValid] using hvalid, fun h => by simp at h⟩
    · exact hs

theorem State.opticsSound_writeTable {s : State} (hs : s.opticsSound) {t : TableId} (hmode : s.modeRefuses t = false)
    (c : Nat) (bs : List (List Byte)) : (s.writeTable t c bs).1.opticsSound := by
  have hsetup : ∀ u : State, (t = .lens ∨ t = .speedCurve) → u.zoom.mode = s.zoom.mode → u.stab = s.stab →
      u.opticsSound := by
    intro u ht humode hustab
    have hnot : s.zoom.mode ≠ .run := by
      intro h
      rcases ht with rfl | rfl <;> simp [State.modeRefuses, h] at hmode
    rw [State.opticsSound_iff] at hs ⊢
    rw [humode, hustab]
    exact ⟨fun h => absurd h hnot, hs.2⟩
  cases t with
  | lens => exact hsetup _ (.inl rfl) rfl rfl
  | speedCurve => exact hsetup _ (.inr rfl) rfl rfl
  | _ => exact State.opticsSound_of_tables hs rfl rfl rfl id

theorem State.opticsSound_setItem {s : State} (hs : s.opticsSound) (sp : ItemSpec) (v : Nat) :
    (s.setItem sp v).1.opticsSound := by
  refine State.opticsSound_of_optics hs (by simp [Zoom.optics]) fun hoff => ?_
  unfold State.setItem
  split
  · exact hoff
  · dsimp only [State.ownerActs]
    split
    · exact hoff
    · split
      · simpa using hoff
      · split <;> exact hoff

theorem State.opticsSound_loadContents {s : State} (hs : s.opticsSound) (c : SceneArea) (b : Bool) :
    (s.loadContents c b).opticsSound := by
  obtain ⟨-, hzoom, -, hstab, -⟩ := s.loadContents_blocks c b
  exact State.opticsSound_of_tables hs (by rw [hzoom]) (by rw [hzoom]) (by rw [hzoom]) (fun h => by rw [hstab]; exact h)

theorem State.opticsSound_powerOn (s : State) : s.powerOn.opticsSound := by
  obtain ⟨-, ezoom, -, -, -, -, -, -, -, -, -⟩ := s.powerOn_loaded
  obtain ⟨-, hzoom, -, -, -⟩ := s.loaded_loading
  have hmode : s.loaded.zoom.mode = if s.loaded.zoom.tablesValid = true then .run else .setup := congrArg Zoom.mode hzoom
  have hstab := s.powerOn_stab
  rw [State.opticsSound_iff, ezoom]
  constructor
  · intro h
    by_contra hinvalid
    simp [hmode, hinvalid] at h
  · intro h
    rw [if_neg (by simp [h])] at hstab
    rw [hstab.1]
    rfl

theorem State.opticsSound_checkCycle {s : State} (hs : s.opticsSound) : s.checkCycle.opticsSound := by
  have hsame : ∀ u v : State, v.zoom = u.zoom → v.stab = u.stab → u.opticsSound → v.opticsSound := fun u v h h' hu =>
    opticsSound_linkFree.same h h' hu
  exact State.checkCycle_holds (fun u v _ _ hu => hu) (fun u t hu => hu) (fun u g a => State.runActions_holds
    (fun u => State.opticsSound_faultStabOff) (fun u hu => State.opticsSound_faultZoomStop hu g)
    (fun u => hsame u _ (by simp) (by simp)) (fun u hu => hu) (fun u => hsame u _ (by simp) (by simp)))
    (fun u n => hsame u _ (by simp) (by simp)) (fun u g => hsame u _ (by simp) (by simp)) hs

/-- Every command that touches the zoom drive or the stabiliser keeps the tables valid in RUN and the stabiliser OFF
in SETUP. -/
theorem opticsSound_exec (i : Instr) (s t : State) (h : exec i s = .next t)
    (htouch : ∃ b ∈ [Block.zoom, .stab], b ∈ touches i) (hs : s.opticsSound) : t.opticsSound := by
  have hP := opticsSound_linkFree
  cases i with
  | powerOnReset => cases h; exact State.opticsSound_powerOn s
  | powerOnResetEnd =>
    cases h
    unfold State.powerOnEnd
    split
    · have hstart : ({ s.begin with inReset := false }.startTimers).opticsSound :=
        State.opticsSound_of_optics hs rfl id
      exact hP.same (by simp) (by simp) hstart
    · exact hs
  | motion =>
    cases h
    exact hP.intake (fun u n hu => State.opticsSound_of_optics hu (by simp [Zoom.optics])
      fun hoff => State.takeMotion_off hoff n _) hs
  | lensReport => cases h; exact hP.intake (fun u n hu => State.opticsSound_takeReport hu _) hs
  | panel =>
    cases h
    exact hP.intake (fun u n hu => State.opticsSound_takePanel hu _ _) hs
  | audioIn seq samples =>
    cases h
    split
    · exact hP.intake (fun u n => hP.same (by simp) (by simp)) hs
    · exact hP.unlessReset (fun u => hP _ _ (u.linkOnly_refusePacket _ _)) hs
  | linkReset l e => cases h; exact hP.unlessReset (fun u => hP _ _ (u.linkOnly_takeLinkReset l e)) hs
  | inboundCrcFailure l => cases h; exact hP.unlessReset (fun u => hP _ _ (u.linkOnly_failCrc l)) hs
  | lossOfFraming l => cases h; exact hP.unlessReset (fun u => hP _ _ (u.linkOnly_loseAlignment l)) hs
  | foreignPacket l | rejectedPacket l =>
    cases h; exact hP.unlessReset (fun u => hP _ _ (u.linkOnly_refusePacket l _)) hs
  | set seq src tag item v =>
    cases h
    exact hP.command (fun u => State.doSet_holds (fun _ _ _ => hP.same (by simp) (by simp))
      (fun _ => hP.same (by simp) (by simp)) fun sp _ hu => State.opticsSound_setItem hu sp _) hs
  | write seq src tag n data =>
    cases h
    split
    · exact hP.command (fun u => hP.write fun _ _ hmode _ hu => State.opticsSound_writeTable hu hmode _ _) hs
    · exact hP.unlessReset (fun u => hP _ _ (u.linkOnly_failCrc _)) hs
  | zoomPreset seq src tag n =>
    cases h
    refine hP.action (fun u hu => ?_) hs
    unfold State.zoomPreset
    split
    · exact hu
    · exact State.opticsSound_arbitrate hu (u.requestPreset_optics _ _) (by simp)
  | zoomStop =>
    cases h
    exact hP.action (fun u hu => State.opticsSound_arbitrate hu
      ((State.endPending_optics _ _).trans (u.endMove_optics _)) (by simp)) hs
  | stabOn => cases h; exact hP.action (fun u => State.opticsSound_stabOn) hs
  | stabOff => cases h; exact hP.action (fun u => State.opticsSound_stabOff) hs
  | baselineReset => cases h; exact hP.action (fun u => State.opticsSound_baselineReset) hs
  | enterSetup => cases h; exact hP.action (fun u => State.opticsSound_enterSetup) hs
  | enterRun => cases h; exact hP.action (fun u => State.opticsSound_enterRun) hs
  | lensTableClear =>
    cases h
    refine hP.action (fun u hu => ?_) hs
    unfold State.lensTableClear
    split
    · exact hu
    · next hmode =>
      rw [State.opticsSound_iff] at hu ⊢
      exact ⟨fun h => absurd (h.symm.trans hmode) (by decide), hu.2⟩
  | clearFault =>
    cases h
    exact hP.action (fun u hu => State.clearFault_holds (fun _ _ _ _ h => h)
      (fun v g hv => State.opticsSound_arbitrate hv rfl rfl) (fun _ _ h => h) _ _ _ hu) hs
  | recallFactory =>
    cases h
    exact hP.action (fun u => State.recallFactory_holds fun _ _ hu => State.opticsSound_loadContents hu _ _) hs
  | recallCompletion =>
    cases h
    exact State.endRecall_holds (fun _ _ h => h) (fun u c b hu => State.opticsSound_loadContents hu c b)
      (fun u n => hP.same (by simp) (by simp)) (hP.begin hs)
  | lensSilenceTimerExpiry | gyroSilenceTimerExpiry | longGapTimerExpiry =>
    cases h; exact hP.expire (fun u hu => State.opticsSound_of_optics hu rfl id) hs
  | rockerLapseTimerExpiry =>
    cases h
    exact hP.expire (fun u hu => State.opticsSound_arbitrate hu (State.endPending_optics _ _) (by simp)) hs
  | presetTimeoutExpiry =>
    cases h; exact hP.expire (fun u hu => State.opticsSound_arbitrate hu (u.endMove_optics _) (by simp)) hs
  | refreshTimerExpiry => cases h; exact hP.expire (fun u => hP _ _ u.linkOnly_sendZoom) hs
  | checkCycle => cases h; exact hP.expire (fun u => State.opticsSound_checkCycle) hs
  | _ =>
    simp [touches, recordingBlocks, commandBlocks, mem_packetBlocks, mem_linkResetBlocks, eq_linkBlock, eq_slotBlock]
      at htouch

/-- Settles O8, each of the two properties on its own. -/
theorem opticsAndZoomStaySound : Obligations.OpticsAndZoomStaySound := fun _ _ hstep =>
  ⟨step_keeps State.opticsSound_reads (by simp) opticsSound_exec hstep,
    step_keeps State.zoomSound_reads (by simp) zoomSound_exec hstep⟩

end Sys2Proof.Machine
end

section
/-! PROOF. Supervision's own bonds (R156, R158, R161) through the check cycle, a clearing, a WRITE of table 8 and
power-on. -/

namespace Sys2Proof.Machine

theorem State.supSound_reads : Reads [.sup] State.supSound := by
  intro s t h hs
  have hsup : t.sup = s.sup := h .sup (by simp)
  rw [State.supSound_iff] at hs ⊢
  rwa [hsup]

theorem Group.clear_sound (g : Group) : (clearGroup g).Sound g := by
  constructor <;> cases g <;> simp [clearGroup, Group.details]

/-- At power-on no flag is set, whatever table 8 holds. -/
theorem Supervision.powerOn_sound (table : List FaultEntry) : { Supervision.powerOn with table := table }.Sound := by
  have hgroup : ∀ g, ({ Supervision.powerOn with table := table } : Supervision).group g = clearGroup g := by
    intro g
    cases g <;> rfl
  have hsummary : ∀ g, (clearGroup g).summary = false := fun g => by cases g <;> rfl
  refine ⟨rfl, fun g => by rw [hgroup]; exact g.clear_sound, fun h => (by cases h), fun ⟨g, hset, _⟩ => ?_⟩
  rw [hgroup, hsummary] at hset
  cases hset

/-- The line judged again after a change of table 8 alone. -/
theorem Supervision.judgeAttention_sound {v : Supervision} (h : v.Sound) (table : List FaultEntry) :
    ({ v with table := table }.judgeAttention).Sound :=
  ⟨h.groups, h.group, Supervision.judgeAttention_iff _⟩

theorem State.supSound_writeTable {s : State} (hs : s.supSound) (t : TableId) (c : Nat) (bs : List (List Byte)) :
    (s.writeTable t c bs).1.supSound := by
  cases t with
  | fault =>
    rw [State.supSound_iff] at hs ⊢
    exact Supervision.judgeAttention_sound hs _
  | _ => exact hs

theorem State.supSound_clearFault {s : State} (hs : s.supSound) (scope group detail : Nat) :
    (s.clearFault scope group detail).1.supSound := by
  rw [State.clearFault_eq]
  split
  · rw [State.supSound_iff] at hs ⊢
    rw [State.clearAll_sup]
    exact Supervision.clearedAll_sound hs _ _
  · exact hs

/-- Settles O11, command by command: those that touch supervision. -/
theorem supervisionStaysBounded : Obligations.SupervisionStaysBounded := by
  intro s t hstep hs
  refine step_keeps State.supSound_reads (by simp) ?_ hstep hs
  clear hs hstep s t
  intro i s t h htouch hs
  have hP := State.supSound_reads
  have hout : Block.out ∉ [Block.sup] := by decide
  have hcommand : ∀ b ∈ [Block.sup], b ∉ commandBlocks := by decide
  cases i with
  | powerOnReset =>
    cases h
    obtain ⟨-, -, -, -, -, esup, -, -, -, -, -⟩ := s.powerOn_loaded
    obtain ⟨-, -, -, -, hsup⟩ := s.loaded_loading
    rw [State.supSound_iff, esup, hsup]
    exact Supervision.powerOn_sound _
  | powerOnResetEnd =>
    cases h
    unfold State.powerOnEnd
    split
    · have hstart : ({ s.begin with inReset := false }.startTimers).supSound := hs
      exact hP _ _ (by simp [Block.same]) hstart
    · exact hs
  | write seq src tag n data =>
    cases h
    split
    · exact hP.command hcommand (fun u => hP.write hcommand fun _ _ _ _ hu => State.supSound_writeTable hu _ _ _) hs
    · exact hP.unlessReset hout (fun u => hP.of_frame (cs := linkResetBlocks .body) (by decide)
        (by simp [sameOutside_iff, linkResetBlocks])) hs
  | clearFault => cases h; exact hP.action hcommand (fun u hu => State.supSound_clearFault hu _ _ _) hs
  | checkCycle =>
    cases ht : s.sup.timer with
    | running ms =>
      rw [exec_checkCycle_of_running ht] at h
      cases h
      exact State.cycleEnded_sound hs
    | _ =>
      cases h
      rw [ht]
      exact hs
  | _ =>
    simp [touches, zoomBlocks, recordingBlocks, commandBlocks, loadBlocks, mem_packetBlocks, mem_linkResetBlocks,
      eq_linkBlock, eq_slotBlock] at htouch

end Sys2Proof.Machine
end

section
/-! PROOF. What every operation of the recording keeps: a property that the packets handed, the changes away from
the links and the unit store, and the store's own steps keep. -/

namespace Sys2Proof.Machine

/-! ### The steps of the unit store -/

/-- Two units with the same name, holders, blocks and essence. -/
def RecordUnit.SameStored (u v : RecordUnit) : Prop :=
  v.id = u.id ∧ v.refs = u.refs ∧ v.blocks = u.blocks ∧ v.dropped = u.dropped ∧ v.main = u.main ∧ v.proxy = u.proxy

/-- What the recording does with the unit store, apart from essence, the opening of a unit and the pre-record ring's
growth: holders leave and join (R77), the assembly and the ring let go (R85, R88), a unit is described (R83). -/
inductive Recorder.StoreStep (r : Recorder) : Recorder → Prop where
  | release (id : Nat) : StoreStep r { r with store := r.store.release id }
  | releaseAll (ids : List Nat) : StoreStep r { r with store := r.store.releaseAll ids }
  | addRef (id : Nat) : StoreStep r { r with store := r.store.addRef id }
  | releaseAssembly : StoreStep r r.releaseAssembly
  | trimRing (n : Nat) : StoreStep r (r.trimRing n)
  | clearRing : StoreStep r { r with ring := [] }
  | describe (u v : RecordUnit) (hfind : r.store.find u.id = some u) (hsame : u.SameStored v) :
    StoreStep r (r.modifyUnit u.id (fun _ => v))

/-- Two states with the same links, power-on reset, unit store, ring, assembly, clip counter and scene memory. -/
def State.RecordSame (s t : State) : Prop :=
  t.head = s.head ∧ t.body = s.body ∧ t.inReset = s.inReset ∧ t.recorder.store = s.recorder.store ∧
  t.recorder.ring = s.recorder.ring ∧ t.recorder.assembly = s.recorder.assembly ∧
  t.recorder.clipCounter = s.recorder.clipCounter ∧ t.scene = s.scene

/-- A property kept by packets handed, by changes away from the links and the unit store, and by the store's steps. -/
structure RecordClosed (P : State → Prop) : Prop where
  hand : ∀ {u : State} (m : OutMsg), P u → P (u.hand m)
  frame : ∀ {u v : State}, u.RecordSame v → P u → P v
  store : ∀ {u : State} {r : Recorder}, u.recorder.StoreStep r → P u → P { u with recorder := r }

theorem UnitStore.find_id {st : UnitStore} {id : Nat} {u : RecordUnit} (h : st.find id = some u) : u.id = id := by
  simpa using List.find?_some h

theorem UnitStore.find_modify_isSome {st : UnitStore} {id k : Nat} {f : RecordUnit → RecordUnit}
    (hf : ∀ u ∈ st.units, u.id = id → (f u).id = u.id) (h : (st.find k).isSome) : ((st.modify id f).find k).isSome := by
  simp only [UnitStore.find, UnitStore.modify, List.find?_isSome, List.mem_map, exists_exists_and_eq_and] at h ⊢
  obtain ⟨u, hu, hk⟩ := h
  refine ⟨u, hu, ?_⟩
  split
  · next hid => rwa [hf u hu hid]
  · exact hk

/-- The unit that a close describes keeps its name, holders, blocks and essence (R83). -/
theorem State.describe_sameStored (s : State) (u : RecordUnit) (count : Nat) (tracks : Quad (List Int))
    (short : Quad Nat) : u.SameStored (s.describeUnit (u.takeAudio count tracks short).judgeComplete) := by
  have htake : u.SameStored (u.takeAudio count tracks short) := by
    unfold RecordUnit.takeAudio
    split <;> exact ⟨rfl, rfl, rfl, rfl, rfl, rfl⟩
  have hjudge : ∀ v : RecordUnit, v.SameStored v.judgeComplete := by
    intro v
    unfold RecordUnit.judgeComplete
    split <;> exact ⟨rfl, rfl, rfl, rfl, rfl, rfl⟩
  obtain ⟨h1, h2, h3, h4, h5, h6⟩ := htake
  obtain ⟨k1, k2, k3, k4, k5, k6⟩ := hjudge (u.takeAudio count tracks short)
  exact ⟨k1.trans h1, k2.trans h2, k3.trans h3, k4.trans h4, k5.trans h5, k6.trans h6⟩

namespace RecordClosed

variable {P : State → Prop} (hP : RecordClosed P) {s : State}
include hP

/-! ### Record state and slots -/

theorem notify (n : Notice) (hs : P s) : P (s.notify n) := hP.hand _ hs

/-- A change of the recorder away from the store, the ring, the assembly and the clip counter. -/
theorem recorder {r : Recorder} (hstore : r.store = s.recorder.store) (hring : r.ring = s.recorder.ring)
    (hassembly : r.assembly = s.recorder.assembly) (hclip : r.clipCounter = s.recorder.clipCounter) (hs : P s) :
    P { s with recorder := r } :=
  hP.frame (u := s) ⟨rfl, rfl, rfl, hstore, hring, hassembly, hclip, rfl⟩ hs

theorem setSlot (x : SlotId) (c : Slot) (hs : P s) : P (s.setSlot x c) :=
  hP.frame (u := s) (by cases x <;> exact ⟨rfl, rfl, rfl, rfl, rfl, rfl, rfl, rfl⟩) hs

theorem modifySlot (x : SlotId) (f : Slot → Slot) (hs : P s) : P (s.modifySlot x f) := hP.setSlot x _ hs

theorem modifyCounts (x : SlotId) (f : SlotPart → SlotPart) (hs : P s) : P (s.modifyCounts x f) :=
  hP.modifySlot x _ hs

theorem modifyPart (x : SlotId) (f : ClipPart → ClipPart) (hs : P s) : P (s.modifyPart x f) :=
  hP.recorder rfl rfl rfl rfl hs

theorem emit (e : Emission) (hs : P s) : P (s.emit e) := hP.frame (u := s) ⟨rfl, rfl, rfl, rfl, rfl, rfl, rfl, rfl⟩ hs

theorem issue (x : SlotId) (b : RequestBody) (hs : P s) : P (s.issue x b) := hP.emit _ (hP.setSlot x _ hs)

theorem setRecState (st : RecState) (r : RecReason) (hs : P s) : P (s.setRecState st r) := by
  have hnotice : P ({ s with recorder := { s.recorder with state := st, lamp := lampOf st } }.notify
      (.record st s.recorder.clipCounter r)) := hP.notify _ (hP.recorder rfl rfl rfl rfl hs)
  unfold State.setRecState
  dsimp only
  split
  · exact hnotice
  · exact hP.hand _ hnotice

theorem endRecording (r : RecReason) (hs : P s) : P (s.endRecording r) := by
  have hrest := hP.setRecState s.items.record.restState r
    (hP.recorder (r := { s.recorder with pendingStop := none, stopReason := some r }) rfl rfl rfl rfl hs)
  unfold State.endRecording
  dsimp only
  split
  · exact hP.store .releaseAssembly hrest
  · exact hrest

theorem afterPartEnd (hs : P s) : P s.afterPartEnd := by
  rw [State.afterPartEnd_eq]
  split
  · exact hP.endRecording _ hs
  · exact hs

theorem endPart (x : SlotId) (hs : P s) : P (s.endPart x) := hP.afterPartEnd (hP.modifyPart x _ hs)

theorem slotTo (x : SlotId) (st : SlotState) (r : SlotReason) (hs : P s) : P (s.slotTo x st r) :=
  hP.notify _ (hP.modifySlot x _ hs)

theorem startMount (x : SlotId) (r : SlotReason) (hs : P s) : P (s.startMount x r) :=
  hP.slotTo x _ _ (hP.issue x _ hs)

theorem takeInsertion (x : SlotId) (hs : P s) : P (s.takeInsertion x) := by
  unfold State.takeInsertion
  split
  · exact hP.startMount x _ (hP.modifySlot x _ hs)
  · exact hs

theorem mountOk (x : SlotId) (free : Nat) (hs : P s) : P (s.mountOk x free) :=
  hP.slotTo x _ _ (hP.modifySlot x _ hs)

theorem mountError (x : SlotId) (hs : P s) : P (s.mountError x) := hP.slotTo x _ _ (hP.modifySlot x _ hs)

theorem clearHold (slot : Nat) (hs : P s) : P (s.clearHold slot).1 := by
  have hgo : ∀ x, P (if ((s.modifySlot x (fun c => { c with hold := false })).slot x).state = .empty ∧
      ((s.modifySlot x (fun c => { c with hold := false })).slot x).cardPresent then
        (s.modifySlot x (fun c => { c with hold := false })).startMount x .remount
      else s.modifySlot x (fun c => { c with hold := false })) := by
    intro x
    split
    · exact hP.startMount x _ (hP.modifySlot x _ hs)
    · exact hP.modifySlot x _ hs
  unfold State.clearHold
  split
  · exact hgo .a
  · exact hgo .b
  · exact hs

/-! ### Writing, closing, stops -/

theorem issueWrite (x : SlotId) (hs : P s) : P (s.issueWrite x) := by
  unfold State.issueWrite
  dsimp only
  split
  · exact hP.issue x _ (hP.setSlot x _ hs)
  · exact hP.issue x _ (hP.setSlot x _ hs)
  · exact hs

theorem issueClose (x : SlotId) (hs : P s) : P (s.issueClose x) := by
  unfold State.issueClose
  dsimp only
  split
  · exact hP.issue x _ hs
  · exact hs

theorem continueSlot (x : SlotId) (hs : P s) : P (s.continueSlot x) := hP.issueClose x (hP.issueWrite x hs)

theorem beginClose (x : SlotId) (r : CloseReason) (hs : P s) : P (s.beginClose x r) := by
  unfold State.beginClose
  split
  · have hclosing := hP.modifyCounts x (fun p => { p with closeReason := r })
      (hP.modifyPart x (fun p => { p with phase := .closing }) hs)
    dsimp only
    split
    · exact hP.continueSlot x (hP.slotTo x _ _ hclosing)
    · exact hclosing
  · split
    · exact hP.modifyCounts x _ hs
    · exact hs
  · exact hs

theorem enterStopping (r : RecReason) (hs : P s) : P (s.enterStopping r) := by
  have hstopping := hP.setRecState .stopping r
    (hP.recorder (r := { s.recorder with pendingStop := none, stopReason := some r }) rfl rfl rfl rfl hs)
  exact hP.afterPartEnd (foldl_holds (fun u x => hP.beginClose x (u.stopCloseReason x)) _ hstopping)

theorem requestStop (r : RecReason) (hs : P s) : P (s.requestStop r) := by
  have hpending := hP.recorder (r := { s.recorder with pendingStop := some r }) rfl rfl rfl rfl hs
  unfold State.requestStop
  split
  · dsimp only
    split
    · exact hpending
    · exact hP.enterStopping r hpending
  · exact hs

/-! ### Parts and the units offered to them -/

theorem createPart (x : SlotId) (clip number : Nat) (hs : P s) : P (s.createPart x clip number) :=
  hP.slotTo x _ _ (hP.issue x _ (hP.modifySlot x _ (hP.recorder rfl rfl rfl rfl hs)))

theorem judgeUnit (x : SlotId) (id : Nat) (hs : P s) : P (s.judgeUnit x id).1 := by
  unfold State.judgeUnit
  dsimp only
  split
  · exact hs
  · split
    · exact hP.modifyCounts x _ hs
    · split
      · exact hP.modifyCounts x _ hs
      · split
        · exact hP.modifyPart x _ (hP.modifyCounts x _ hs)
        · exact hP.issueWrite x (hP.modifySlot x _ (hP.store (.addRef id) hs))

theorem offerOnce (x : SlotId) (id : Nat) (hs : P s) : P (s.offerOnce x id).1 :=
  hP.judgeUnit x id (hP.modifyPart x _ hs)

theorem refuseSingle (x : SlotId) (hs : P s) : P (s.refuseSingle x) :=
  hP.requestStop _ (hP.modifyCounts x _ hs)

theorem refuseDual (x : SlotId) (hs : P s) : P (s.refuseDual x) := by
  unfold State.refuseDual
  dsimp only
  split
  · exact hP.requestStop _ (hP.beginClose x _ hs)
  · exact hP.beginClose x _ hs

theorem relayHandover (x : SlotId) (id : Nat) (hs : P s) : P (s.relayHandover x id) := by
  unfold State.relayHandover
  dsimp only
  split
  · exact hP.modifyPart _ _ (hP.offerOnce _ id (hP.createPart _ _ _ (hP.beginClose x _ hs)))
  · exact hP.requestStop _ (hP.beginClose x _ hs)

theorem refusedForSpace (x : SlotId) (id : Nat) (hs : P s) : P (s.refusedForSpace x id) := by
  unfold State.refusedForSpace
  split
  · exact hP.refuseSingle x hs
  · exact hP.refuseDual x hs
  · split
    · exact hP.refuseSingle x hs
    · exact hP.relayHandover x id hs

theorem offer (x : SlotId) (id : Nat) (hs : P s) : P (s.offer id x) := by
  unfold State.offer
  split
  · dsimp only
    split
    · exact hP.refusedForSpace x id (hP.offerOnce x id hs)
    · exact hP.offerOnce x id hs
  · exact hs

theorem offerAll (id : Nat) (hs : P s) : P (s.offerAll id) := foldl_holds (fun _ x => hP.offer x id) _ hs

/-! ### Completions and removals -/

theorem releaseUnit (id : Nat) (hs : P s) : P (s.releaseUnit id) := hP.store (.release id) hs

theorem damagePart (x : SlotId) (hs : P s) : P (s.damagePart x) := hP.modifyCounts x _ hs

theorem releaseQueue (x : SlotId) (hs : P s) : P (s.releaseQueue x) := by
  unfold State.releaseQueue
  exact hP.modifySlot x _ (hP.modifyCounts x _ (hP.store (.releaseAll _) hs))

theorem loseInFlight (x : SlotId) (hs : P s) : P (s.loseInFlight x) := by
  unfold State.loseInFlight
  split
  · exact hs
  · exact hP.modifySlot x _ (hP.modifyCounts x _ (hP.releaseUnit _ hs))

theorem reportOpened (hs : P s) : P s.reportOpened := by
  unfold State.reportOpened
  split
  · exact hP.setRecState _ _ (hP.recorder rfl rfl rfl rfl hs)
  · exact hs

theorem partOpenOk (x : SlotId) (hs : P s) : P (s.partOpenOk x) :=
  hP.continueSlot x (hP.slotTo x _ _ (hP.reportOpened (hP.modifySlot x _ hs)))

theorem partOpenError (x : SlotId) (hs : P s) : P (s.partOpenError x) := by
  have hstop : P (if (s.slot x).onContinuation then s.requestStop .relayExhausted else s) := by
    split
    · exact hP.requestStop _ hs
    · exact hs
  exact hP.endPart x (hP.slotTo x _ _ (hP.releaseQueue x (hP.damagePart x (hP.modifySlot x _ hstop))))

theorem unitWriteOk (x : SlotId) (hs : P s) : P (s.unitWriteOk x) := by
  have hended := hP.modifySlot x Slot.endRequest hs
  unfold State.unitWriteOk
  dsimp only
  split
  · exact hP.continueSlot x hended
  · exact hP.continueSlot x (hP.releaseUnit _ (hP.modifySlot x _ (hP.modifyCounts x _ hended)))

theorem writeSkip (x : SlotId) (hs : P s) : P (s.writeSkip x) := by
  unfold State.writeSkip
  split
  · exact hP.continueSlot x hs
  · exact hP.continueSlot x (hP.releaseUnit _ (hP.modifySlot x _ (hP.modifyPart x _ (hP.modifyCounts x _ hs))))

theorem writeAbort (x : SlotId) (hs : P s) : P (s.writeAbort x) :=
  hP.continueSlot x (hP.beginClose x _ (hP.modifyCounts x _ (hP.releaseQueue x (hP.damagePart x
    (hP.loseInFlight x hs)))))

theorem unitWriteError (x : SlotId) (hs : P s) : P (s.unitWriteError x) := by
  have hended := hP.modifySlot x (fun c => { c.endRequest with mediaError := true }) hs
  unfold State.unitWriteError
  dsimp only
  split
  · exact hP.writeSkip x hended
  · exact hP.writeAbort x hended

theorem partCloseEnd (x : SlotId) (ok : Bool) (hs : P s) : P (s.partCloseEnd x ok) := by
  unfold State.partCloseEnd
  refine hP.endPart x (hP.slotTo x _ _ ?_)
  split
  · exact hP.modifySlot x _ hs
  · exact hP.damagePart x (hP.modifySlot x _ hs)

theorem requestError (x : SlotId) (hs : P s) : P (s.requestError x) := by
  unfold State.requestError
  split
  · exact hP.partOpenError x hs
  · exact hP.unitWriteError x hs
  · exact hP.partCloseEnd x false hs
  · exact hP.mountError x hs
  · exact hs

theorem removeActive (x : SlotId) (hs : P s) : P (s.removeActive x) :=
  hP.endPart x (hP.slotTo x _ _ (hP.releaseQueue x (hP.damagePart x (hP.loseInFlight x (hP.modifySlot x _ hs)))))

theorem takeRemoval (x : SlotId) (hs : P s) : P (s.takeRemoval x) := by
  unfold State.takeRemoval
  split
  · exact hP.modifySlot x _ hs
  · exact hP.slotTo x _ _ (hP.modifySlot x _ hs)
  · exact hP.slotTo x _ _ (hP.modifySlot x _ hs)
  · exact hP.slotTo x _ _ (hP.modifySlot x _ hs)
  · refine hP.removeActive x ?_
    split
    · exact hP.requestStop _ hs
    · exact hs
  · exact hP.removeActive x hs
  · exact hP.removeActive x hs

/-! ### Frames -/

theorem judgeLoss (u : RecordUnit) (hs : P s) : P (s.judgeLoss u) := by
  unfold State.judgeLoss
  split
  · split
    · exact hP.recorder rfl rfl rfl rfl hs
    · dsimp only
      split
      · exact hP.requestStop _ (hP.recorder rfl rfl rfl rfl hs)
      · exact hP.recorder rfl rfl rfl rfl hs
  · exact hs

theorem markOpen (m : ClipMark) (hs : P s) : P { s with recorder := s.recorder.markOpen m } :=
  hP.recorder rfl rfl rfl rfl hs

theorem dispose (happend : ∀ {u : State} n id, (u.recorder.store.find id).isSome → P u →
      P { u with recorder := u.recorder.ringAppend n id })
    (u : RecordUnit) (hu : (s.recorder.store.find u.id).isSome) (hs : P s) : P (s.dispose u) := by
  unfold State.dispose
  split
  · split
    · exact hs
    · exact happend _ _ hu hs
  · split
    · exact hP.markOpen _ hs
    · exact hP.offerAll _ hs
  · split
    · exact hP.markOpen _ hs
    · exact hP.offerAll _ hs
  · exact hs
  · exact hs

/-- The close of a unit keeps what the growth of the ring keeps besides (R83, R85, R88). -/
theorem closeUnit (happend : ∀ {u : State} n id, (u.recorder.store.find id).isSome → P u →
      P { u with recorder := u.recorder.ringAppend n id })
    (count : Nat) (tracks : Quad (List Int)) (short : Quad Nat) (hs : P s) : P (s.closeUnit count tracks short) := by
  unfold State.closeUnit
  split
  · exact hs
  · next u hu =>
    obtain ⟨id, -, hfound⟩ := Option.bind_eq_some_iff.mp hu
    have hfind : s.recorder.store.find u.id = some u := (UnitStore.find_id hfound).symm ▸ hfound
    have hsame := s.describe_sameStored u count tracks short
    have hname := hsame.1
    generalize s.describeUnit (u.takeAudio count tracks short).judgeComplete = v at hsame hname ⊢
    dsimp only
    rw [hname]
    have hstored := hP.store (.describe u v hfind hsame) hs
    have hthere : ((s.recorder.modifyUnit u.id (fun _ => v)).store.find v.id).isSome := by
      rw [hname]
      exact UnitStore.find_modify_isSome (fun w _ hw => hname.trans hw.symm) (by simp [hfind])
    exact hP.store .releaseAssembly (hP.judgeLoss v (hP.dispose happend v hthere hstored))

theorem closeFrame (hclose : ∀ {u : State} count tracks short, P u → P (u.closeUnit count tracks short)) (hs : P s) :
    P s.closeFrame := by
  unfold State.closeFrame
  split
  · exact hs
  · exact hclose _ _ _ (hP.frame (u := s) ⟨rfl, rfl, rfl, rfl, rfl, rfl, rfl, rfl⟩ hs)

theorem endClose (hs : P s) : P s.endClose := by
  unfold State.endClose
  split
  · exact hs
  · dsimp only
    split
    · exact hP.enterStopping _ (hP.recorder rfl rfl rfl rfl hs)
    · exact hP.enterStopping _ (hP.recorder rfl rfl rfl rfl hs)
    · exact hP.recorder rfl rfl rfl rfl hs

theorem emptyRing (hs : P s) : P s.emptyRing := hP.store (.trimRing 0) hs

theorem markGap (m : OpenFrame) (hs : P s) : P (s.markGap m) := by
  unfold State.markGap
  dsimp only
  split
  · exact hs
  · exact hP.recorder rfl rfl rfl rfl hs

theorem openNew (hopen : ∀ {u : State} m, P u → P { u with recorder := u.recorder.openUnit m }) (m : OpenFrame)
    (hs : P s) : P (s.openNew m) := by
  have hframe := hP.recorder (r := { s.recorder with openFrame := some m }) rfl rfl rfl rfl hs
  unfold State.openNew
  dsimp only
  split
  · exact hframe
  · exact hopen m hframe

theorem takeFrameMark (hclose : ∀ {u : State} count tracks short, P u → P (u.closeUnit count tracks short))
    (hopen : ∀ {u : State} m, P u → P { u with recorder := u.recorder.openUnit m }) (m : OpenFrame)
    (hs : P s) : P (s.takeFrameMark m) := by
  have hclosed := hP.closeFrame hclose (hP.recorder
    (r := { (s.markGap m).recorder with lastMark := some m, markSilence := .running 200 }) rfl rfl rfl rfl
    (hP.markGap m hs))
  unfold State.takeFrameMark
  cases discontinuous s.recorder.lastMark m with
  | true => exact hP.openNew hopen m (hP.emptyRing (hP.endClose (hP.requestStop _ hclosed)))
  | false => exact hP.openNew hopen m (hP.endClose hclosed)

theorem markSilenceExpires (hclose : ∀ {u : State} count tracks short, P u → P (u.closeUnit count tracks short))
    (hs : P s) : P s.markSilenceExpires :=
  hP.endClose (hP.closeFrame hclose (hP.recorder rfl rfl rfl rfl hs))

/-! ### Starts, triggers, marks -/

theorem discardParts (hs : P s) : P s.discardParts := hP.frame (u := s) ⟨rfl, rfl, rfl, rfl, rfl, rfl, rfl, rfl⟩ hs

theorem passRing (hs : P s) : P s.passRing :=
  foldl_holds (fun _ id hu => hP.releaseUnit id (hP.offerAll id hu)) _ (hP.store .clearRing hs)

/-- A start keeps what the advance of the clip counter keeps besides (R91, R97). -/
theorem takeStart (hadvance : ∀ {u : State}, P u → P u.advanceClip) (slots : List SlotId) (hs : P s) :
    P (s.takeStart slots) :=
  hP.passRing (hP.setRecState _ _ (foldl_holds (fun u x => hP.createPart x u.recorder.clipCounter 1) _
    (hP.discardParts (hadvance hs))))

theorem ignoreTrigger (hs : P s) : P s.ignoreTrigger := hP.recorder rfl rfl rfl rfl hs

theorem recStart (hadvance : ∀ {u : State}, P u → P u.advanceClip) (hs : P s) : P s.recStart.1 := by
  have hrest : ∀ xs, P (match xs with
      | [] => (s, Status.refusedState)
      | x :: rest => (s.takeStart (x :: rest), .ok)).1 := by
    intro xs
    cases xs with
    | nil => exact hs
    | cons x xs => exact hP.takeStart hadvance _ hs
  unfold State.recStart
  split
  · exact hrest _
  · exact hrest _
  · split
    · exact hP.ignoreTrigger hs
    · exact hs
  · exact hP.ignoreTrigger hs
  · exact hP.ignoreTrigger hs

theorem recStop (hs : P s) : P s.recStop.1 := by
  unfold State.recStop
  split
  · exact hs
  · exact hs
  · split
    · exact hP.ignoreTrigger hs
    · exact hP.requestStop _ hs
  · exact hP.ignoreTrigger hs
  · exact hP.ignoreTrigger hs

theorem recEdge (hadvance : ∀ {u : State}, P u → P u.advanceClip) (hs : P s) : P s.recEdge := by
  have hrest : ∀ xs, P (match xs with
      | [] => s.notify (.record s.recorder.state s.recorder.clipCounter .noMedia)
      | x :: rest => s.takeStart (x :: rest)) := by
    intro xs
    cases xs with
    | nil => exact hP.notify _ hs
    | cons x xs => exact hP.takeStart hadvance _ hs
  unfold State.recEdge
  split
  · exact hrest _
  · exact hrest _
  · split
    · exact hP.ignoreTrigger hs
    · exact hP.requestStop _ hs
  · exact hP.ignoreTrigger hs
  · exact hP.ignoreTrigger hs

theorem placeMark (k : MarkKind) (hs : P s) : P (s.placeMark k).1 := by
  unfold State.placeMark
  split
  · exact hs
  · split
    · exact hP.markOpen _ hs
    · exact hs

theorem actionMark (hs : P s) : P s.actionMark.1 := hP.placeMark _ hs

theorem panelRecord (hadvance : ∀ {u : State}, P u → P u.advanceClip) (a b : Bool) (hs : P s) :
    P (s.panelRecord a b) := by
  have hlevels := hP.recorder (r := { s.recorder with recButton := levelOf a, markButton := levelOf b })
    rfl rfl rfl rfl hs
  have hedge : P (if risingEdge s.recorder.recButton a then
      { s with recorder := { s.recorder with recButton := levelOf a, markButton := levelOf b } }.recEdge
    else { s with recorder := { s.recorder with recButton := levelOf a, markButton := levelOf b } }) := by
    split
    · exact hP.recEdge hadvance hlevels
    · exact hlevels
  unfold State.panelRecord
  dsimp only
  split
  · exact hP.placeMark _ hedge
  · exact hedge

theorem applyPreRec (hs : P s) : P s.applyPreRec := by
  unfold State.applyPreRec
  dsimp only
  split
  · split
    · exact hs
    · exact hP.setRecState _ _ hs
  · split
    · exact hP.setRecState _ _ (hP.store .releaseAssembly (hP.emptyRing hs))
    · exact hP.store (.trimRing _) hs
  all_goals exact hs

end RecordClosed

end Sys2Proof.Machine
end

section
/-! PROOF. What every operation keeps of the links: a property that reads the links alone and that packets handed
keep, is kept by the work of every owner. -/

namespace Sys2Proof.Machine

/-- A property of the links and of power-on reset alone that a packet handed keeps. -/
structure LinkProp (P : State → Prop) : Prop where
  hand : ∀ {u : State} (m : OutMsg), P u → P (u.hand m)
  same : ∀ {u v : State}, v.head = u.head → v.body = u.body → v.inReset = u.inReset → P u → P v

namespace LinkProp

variable {P : State → Prop} (hP : LinkProp P) {s : State}
include hP

/-- The recording hands packets and leaves the links otherwise. -/
theorem recording : RecordClosed P where
  hand := hP.hand
  frame := fun ⟨hhead, hbody, hreset, _⟩ => hP.same hhead hbody hreset
  store := fun _ => hP.same rfl rfl rfl

/-- After a step that leaves the links, the property stands. -/
theorem after {u v : State} (hu : P u) (hhead : v.head = u.head) (hbody : v.body = u.body)
    (hreset : v.inReset = u.inReset) : P v := hP.same hhead hbody hreset hu

theorem notify (n : Notice) (hs : P s) : P (s.notify n) := hP.hand _ hs

theorem reply (t : Byte) (st : Status) (d : List Byte) (hs : P s) : P (s.reply t st d) := hP.hand _ hs

theorem ringAppend {u : State} (n id : Nat) (_ : (u.recorder.store.find id).isSome) (hu : P u) :
    P { u with recorder := u.recorder.ringAppend n id } := hP.same (u := u) rfl rfl rfl hu

theorem closeUnit {u : State} (count : Nat) (tracks : Quad (List Int)) (short : Quad Nat) (hu : P u) :
    P (u.closeUnit count tracks short) := hP.recording.closeUnit hP.ringAppend count tracks short hu

theorem openUnit {u : State} (m : OpenFrame) (hu : P u) : P { u with recorder := u.recorder.openUnit m } :=
  hP.same (u := u) rfl rfl rfl hu

theorem advanceClip {u : State} (hu : P u) : P u.advanceClip := hP.same (u := u) rfl rfl rfl hu

/-! ### The zoom drive -/

theorem arbitrate (hs : P s) : P s.arbitrate := by
  unfold State.arbitrate
  dsimp only
  split
  · exact hs
  · have hsent : P ({ s with zoom := { s.zoom with sentSpeed := s.zoom.maskSpeed s.zoom.classSpeed } }.sendZoom) :=
      hP.hand _ (hP.same (u := s) rfl rfl rfl hs)
    exact hP.after hsent rfl rfl rfl

theorem endMove (e : MoveEnd) (hs : P s) : P (s.endMove e) := by
  unfold State.endMove
  split
  · exact hs
  · exact hP.notify _ (hP.same (u := s) rfl rfl rfl hs)

theorem endPending (e : MoveEnd) (hs : P s) : P (s.endPending e) := by
  unfold State.endPending
  split
  · exact hs
  · exact hP.notify _ (hP.same (u := s) rfl rfl rfl hs)

theorem stepMove (hs : P s) : P s.stepMove := by
  unfold State.stepMove
  split
  · exact hs
  · dsimp only
    split
    · exact hP.endMove _ hs
    · exact hP.same (u := s) rfl rfl rfl hs

theorem startPreset (n : Nat) (hs : P s) : P (s.startPreset n) := by
  unfold State.startPreset
  exact hP.stepMove (hP.same (u := s) rfl rfl rfl hs)

theorem requestPreset (b : Bool) (n : Nat) (hs : P s) : P (s.requestPreset b n).1 := by
  unfold State.requestPreset
  split
  · exact hs
  · split
    · cases b with
      | true => exact hP.same (u := s) rfl rfl rfl hs
      | false => exact hs
    · exact hP.after (hP.endPending .cancelled hs) rfl rfl rfl
    · exact hP.startPreset n (hP.endMove _ hs)
    · exact hP.startPreset n (hP.endMove _ hs)

theorem presetEdge (b : Bool) (n : Nat) (hs : P s) : P (s.presetEdge b n) := by
  unfold State.presetEdge
  split
  · exact hP.requestPreset _ _ hs
  · exact hs

theorem panelRocker (d : Int) (hs : P s) : P (s.panelRocker d) := by
  unfold State.panelRocker
  split
  · dsimp only
    split
    · exact hP.after (hP.endMove (s := s.ignoreZoom) .preempted (hP.same (u := s) rfl rfl rfl hs)) rfl rfl rfl
    · exact hP.after (hP.endMove (s := s) .preempted hs) rfl rfl rfl
  · dsimp only
    split
    · split
      · exact hP.same (u := s) rfl rfl rfl hs
      · exact hP.startPreset _ (hP.same (u := s) rfl rfl rfl hs)
    · exact hP.same (u := s) rfl rfl rfl hs

theorem panelZoom (d : Int) (a b : Bool) (hs : P s) : P (s.panelZoom d a b) :=
  hP.arbitrate (hP.presetEdge _ _ (hP.presetEdge _ _ (hP.panelRocker d (hP.same (u := s) rfl rfl rfl hs))))

theorem stopArises (b : Bool) (hs : P s) : P (s.stopArises b) := by
  unfold State.stopArises
  split
  · exact hP.after (hP.endPending .stopped (hP.endMove .stopped hs)) rfl rfl rfl
  · exact hs

theorem faultZoomStop (g : Group) (hs : P s) : P (s.faultZoomStop g) :=
  hP.arbitrate (hP.stopArises _ (hP.same (u := s) rfl rfl rfl hs))

theorem releaseStop (g : Group) (hs : P s) : P (s.releaseStop g) := hP.arbitrate (hP.same (u := s) rfl rfl rfl hs)

theorem rockerLapse (hs : P s) : P s.rockerLapse :=
  hP.arbitrate (hP.endPending _ (hP.same (u := s) rfl rfl rfl hs))

theorem takeReport (r : LensReport) (hs : P s) : P (s.takeReport r) :=
  hP.arbitrate (hP.stopArises _ (hP.stepMove (hP.same (u := s) rfl rfl rfl hs)))

theorem zoomPreset (n : Nat) (hs : P s) : P (s.zoomPreset n).1 := by
  unfold State.zoomPreset
  split
  · exact hs
  · exact hP.arbitrate (hP.requestPreset _ _ hs)

theorem enterRun (hs : P s) : P s.enterRun.1 := by
  unfold State.enterRun
  split
  · exact hs
  · split
    · exact hP.notify _ (hP.same (u := s) rfl rfl rfl hs)
    · exact hs

/-! ### The stabiliser -/

theorem enterSettling (hs : P s) : P s.enterSettling := hP.hand _ (hP.same (u := s) rfl rfl rfl hs)

theorem enterOff (r : StabReason) (hs : P s) : P (s.enterOff r) := hP.hand _ (hP.same (u := s) rfl rfl rfl hs)

theorem settleSample (r : YawPitch Int) (hs : P s) : P (s.settleSample r) := by
  unfold State.settleSample
  dsimp only
  split
  · exact hP.same (u := s) rfl rfl rfl hs
  · exact hP.notify _ (hP.same (u := s) rfl rfl rfl hs)

theorem fillSample (hs : P s) : P s.fillSample := by
  unfold State.fillSample
  dsimp only
  split
  · exact hP.same (u := s) rfl rfl rfl hs
  · exact hP.after (hP.settleSample ⟨s.stab.yaw.lastRaw, s.stab.pitch.lastRaw⟩ hs) rfl rfl rfl
  · exact hP.same (u := s) rfl rfl rfl hs

theorem fillSamples (n : Nat) (hs : P s) : P (s.fillSamples n) := by
  induction n generalizing s with
  | zero => exact hs
  | succ n ih => exact ih (hP.fillSample hs)

theorem takeSample (r : YawPitch Int) (hs : P s) : P (s.takeSample r) := by
  unfold State.takeSample
  dsimp only
  split
  · exact hP.same (u := s) rfl rfl rfl hs
  · exact hP.after (hP.settleSample r hs) rfl rfl rfl
  · exact hP.hand _ (hP.same (u := s) rfl rfl rfl hs)

theorem takeMotion (n : Nat) (r : YawPitch Int) (hs : P s) : P (s.takeMotion n r) := by
  have hbegun : P { s with
      stab := { s.stab with hold := false, gyroLost := decide (gapMissed ≤ n) }.restartTimers } :=
    hP.same (u := s) rfl rfl rfl hs
  unfold State.takeMotion
  dsimp only
  split
  · split
    · exact hP.takeSample r (hP.notify _ (hP.enterSettling hbegun))
    · exact hP.takeSample r hbegun
  · exact hP.takeSample r (hP.fillSamples n hbegun)

theorem stabOn (hs : P s) : P s.stabOn.1 := by
  unfold State.stabOn
  split
  · exact hs
  · exact hP.notify _ (hP.enterSettling hs)
  · exact hs

theorem stabOff (hs : P s) : P s.stabOff.1 := by
  unfold State.stabOff
  split
  · exact hs
  · exact hs
  · exact hP.notify _ (hP.enterOff _ hs)

theorem baselineReset (hs : P s) : P s.baselineReset.1 := by
  unfold State.baselineReset
  split
  · exact hs
  · exact hs
  · exact hP.notify _ (hP.enterSettling hs)

theorem faultStabOff (hs : P s) : P s.faultStabOff := by
  unfold State.faultStabOff
  split
  · exact hs
  · exact hP.notify _ (hP.enterOff _ hs)

theorem setupStabOff (hs : P s) : P s.setupStabOff := by
  unfold State.setupStabOff
  split
  · exact hP.same (u := s) rfl rfl rfl hs
  · exact hP.enterOff _ hs

theorem enterSetup (hs : P s) : P s.enterSetup.1 := by
  unfold State.enterSetup
  split
  · exact hs
  · split
    · exact hs
    · exact hP.notify _ (hP.after (hP.setupStabOff (hP.endPending .cancelled hs)) rfl rfl rfl)

theorem panelStab (p : Bool) (hs : P s) : P (s.panelStab p) := by
  have hlevel : P { s with stab := { s.stab with button := levelOf p } } := hP.same (u := s) rfl rfl rfl hs
  unfold State.panelStab
  dsimp only
  split
  · split
    · exact hP.notify _ (hP.enterSettling hlevel)
    · exact hlevel
    · exact hP.notify _ (hP.enterOff _ hlevel)
  · exact hlevel

theorem takePanel (rocker : Int) (buttons : Byte) (hs : P s) : P (s.takePanel rocker buttons) :=
  hP.recording.panelRecord hP.advanceClip _ _ (hP.panelStab _ (hP.panelZoom _ _ _ hs))

/-! ### The audio unit and the viewfinder -/

theorem processAudio (xs : List (Quad Int)) (hs : P s) : P (s.processAudio xs) :=
  hP.hand _ (hP.same (u := s) rfl rfl rfl hs)

theorem takeAudio (n : Nat) (xs : List (Quad Int)) (hs : P s) : P (s.takeAudio n xs) := by
  have hfill : ∀ (m : Nat) (u : State), P u → P (u.fillAudio m) := by
    intro m
    induction m with
    | zero => exact fun u hu => hu
    | succ m ih => exact fun u hu => ih _ (hP.processAudio _ hu)
  exact hP.after (hP.processAudio xs (hfill (if s.audio.silence.isRunning then n else 0) s hs)) rfl rfl rfl

/-! ### Supervision -/

theorem keptBySup : KeptBySup P := fun u _ _ _ => hP.same (u := u) rfl rfl rfl

theorem runActions (g : Group) (a : Actions) (hs : P s) : P (s.runActions g a) :=
  State.runActions_holds (fun _ => hP.faultStabOff) (fun _ => hP.faultZoomStop g) (fun _ => hP.recording.placeMark _)
    (fun u => hP.same (u := u) rfl rfl rfl) (fun _ => hP.recording.requestStop _) hs

theorem clearFault (scope group detail : Nat) (hs : P s) : P (s.clearFault scope group detail).1 :=
  State.clearFault_holds hP.keptBySup (fun _ g => hP.releaseStop g) (fun u _ => hP.same (u := u) rfl rfl rfl) _ _ _ hs

/-! ### Management and scene memory -/

theorem judge {src : Source} {tag : Byte} {bits : List Nat} {run : State → State × Status × List Byte}
    (hrun : P s → P (run s).1) (hs : P s) : P (s.judge src tag bits run) :=
  State.judge_holds (fun _ _ _ => hP.reply _ _ _) (fun u => hP.same (u := u) rfl rfl rfl) hrun hs

theorem doGet (src : Source) (tag : Byte) (item : Nat) (hs : P s) : P (s.doGet src tag item) := by
  unfold State.doGet
  split
  · exact hP.reply _ _ _ hs
  · exact hP.judge id hs

theorem setItem (sp : ItemSpec) (v : Nat) (hs : P s) : P (s.setItem sp v).1 := by
  unfold State.setItem
  split
  · exact hs
  · have hput : P { s with items := sp.put (takenValue s.items sp v) s.items } := hP.same (u := s) rfl rfl rfl hs
    dsimp only [State.ownerActs]
    split
    · exact hP.after hput rfl rfl rfl
    · split
      · exact hP.recording.applyPreRec hput
      · split
        · exact hP.after hput rfl rfl rfl
        · exact hput

theorem doSet (src : Source) (tag : Byte) (item v : Nat) (hs : P s) : P (s.doSet src tag item v) :=
  State.doSet_holds (fun _ _ _ => hP.reply _ _ _) (fun u => hP.same (u := u) rfl rfl rfl)
    (fun sp _ => hP.setItem sp v) hs

theorem doSelect (src : Source) (tag : Byte) (table index : Nat) (hs : P s) : P (s.doSelect src tag table index) := by
  unfold State.doSelect
  split
  · exact hP.reply _ _ _ hs
  · refine hP.judge (fun hs => ?_) hs
    split
    · exact hP.same (u := s) rfl rfl rfl hs
    · exact hs

theorem doWrite (src : Source) (tag : Byte) (n : Nat) (data : List Byte) (hs : P s) : P (s.doWrite src tag n data) :=
  State.doWrite_holds (fun _ _ _ => hP.reply _ _ _) (fun u => hP.same (u := u) rfl rfl rfl)
    (fun u _ => hP.same (u := u) rfl rfl rfl) (fun t _ _ _ => hP.same (by simp) (by simp) (by simp)) hs

theorem doRead (src : Source) (tag : Byte) (n : Nat) (hs : P s) : P (s.doRead src tag n) := by
  unfold State.doRead
  split
  · exact hP.reply _ _ _ hs
  · split
    · exact hP.reply _ _ _ hs
    · refine hP.judge (fun hs => ?_) hs
      unfold State.readEntries
      split
      · exact hs
      · exact hP.same (u := s) rfl rfl rfl hs

theorem loadContents (c : SceneArea) (b : Bool) (hs : P s) : P (s.loadContents c b) := by
  unfold State.loadContents
  exact hP.recording.applyPreRec (hP.same (u := s) rfl rfl rfl hs)

theorem storeScene (area : Nat) (hs : P s) : P (s.storeScene area).1 := by
  exact hP.same (by simp) (by simp) (by simp) hs

theorem endStore (ok : Bool) (hs : P s) : P (s.endStore ok) := by
  unfold State.endStore
  split
  · exact hP.notify _ (hP.same (u := s) rfl rfl rfl hs)
  · exact hP.notify _ (hP.same (u := s) rfl rfl rfl hs)
  · exact hs
  · exact hs

theorem endRecall (hs : P s) : P s.endRecall :=
  State.endRecall_holds (fun u _ => hP.same (u := u) rfl rfl rfl) (fun _ c b => hP.loadContents c b)
    (fun _ n => hP.notify n) hs

end LinkProp

end Sys2Proof.Machine
end

section
/-! PROOF. The packets of the inbound kinds: what their owners keep of the links (R173, R174). -/

namespace Sys2Proof.Machine

namespace LinkProp

variable {P : State → Prop} (hP : LinkProp P) {s : State}
include hP

theorem judgeAction {src : Source} {tag : Byte} {bits : List Nat} {run : State → State × Status}
    (hrun : ∀ u, P u → P (run u).1) (hs : P s) : P (s.judgeAction src tag bits run) :=
  hP.judge (hrun s) hs

theorem zoomStop (hs : P s) : P s.zoomStop.1 := hP.arbitrate (hP.endPending _ (hP.endMove _ hs))

theorem lensTableClear (hs : P s) : P s.lensTableClear.1 := by
  unfold State.lensTableClear
  split
  · exact hs
  · exact hP.same (u := s) rfl rfl rfl hs

theorem recallScene (area : Nat) (hs : P s) : P (s.recallScene area).1 := hP.same (by simp) (by simp) (by simp) hs

theorem recallFactory (hs : P s) : P s.recallFactory.1 :=
  State.recallFactory_holds hP.loadContents hs

theorem storeFixed (hs : P s) : P s.storeFixed.1 := hP.same (by simp) (by simp) (by simp) hs

theorem takeLine (line : Nat) (pixels : List Pixel) (hs : P s) : P (s.takeLine line pixels) :=
  hP.same (by simp) (by simp) (by simp) hs

/-- A packet of an inbound kind is checked by its link and handed to owners that keep what it holds of the links. -/
theorem exec_sequenced {i : Instr} {k : InKind} {seq : Byte} (hform : i.wellFormed = true)
    (hseq : i.sequenced = some (k, seq)) :
    ∃ owner : State → Nat → State, (∀ s, exec i s = .next (s.begin.intake k seq owner)) ∧
      ∀ u n, P u → P (owner u n) := by
  cases i with
  | motion => cases hseq; exact ⟨_, fun _ => rfl, fun _ n => hP.takeMotion n _⟩
  | lensReport => cases hseq; exact ⟨_, fun _ => rfl, fun _ _ => hP.takeReport _⟩
  | panel => cases hseq; exact ⟨_, fun _ => rfl, fun _ _ => hP.takePanel _ _⟩
  | audioIn _ samples =>
    cases hseq
    exact ⟨_, fun _ => congrArg _ (if_pos (by simpa [Instr.wellFormed] using hform)), fun _ n => hP.takeAudio n _⟩
  | frameMark => cases hseq; exact ⟨_, fun _ => rfl, fun _ _ => hP.recording.takeFrameMark hP.closeUnit hP.openUnit _⟩
  | essence =>
    cases hseq
    exact ⟨_, fun _ => congrArg _ (if_pos (by simpa [Instr.wellFormed] using hform)),
      fun u _ => hP.same (u := u) rfl rfl rfl⟩
  | vfLine =>
    cases hseq
    exact ⟨_, fun _ => congrArg _ (if_pos (by simpa [Instr.wellFormed] using hform)), fun _ _ => hP.takeLine _ _⟩
  | get => cases hseq; exact ⟨_, fun _ => rfl, fun _ _ => hP.doGet _ _ _⟩
  | set => cases hseq; exact ⟨_, fun _ => rfl, fun _ _ => hP.doSet _ _ _ _⟩
  | select => cases hseq; exact ⟨_, fun _ => rfl, fun _ _ => hP.doSelect _ _ _ _⟩
  | write =>
    cases hseq
    exact ⟨_, fun _ => congrArg _ (if_pos (by simpa [Instr.wellFormed] using hform)), fun _ _ => hP.doWrite _ _ _ _⟩
  | read => cases hseq; exact ⟨_, fun _ => rfl, fun _ _ => hP.doRead _ _ _⟩
  | undefinedCommand => cases hseq; exact ⟨_, fun _ => rfl, fun _ _ => hP.reply _ _ _⟩
  | recStart => cases hseq; exact ⟨_, fun _ => rfl, fun _ _ => hP.judgeAction fun _ => hP.recording.recStart hP.advanceClip⟩
  | recStop => cases hseq; exact ⟨_, fun _ => rfl, fun _ _ => hP.judgeAction fun _ => hP.recording.recStop⟩
  | mark => cases hseq; exact ⟨_, fun _ => rfl, fun _ _ => hP.judgeAction fun _ => hP.recording.actionMark⟩
  | zoomPreset => cases hseq; exact ⟨_, fun _ => rfl, fun _ _ => hP.judgeAction fun _ => hP.zoomPreset _⟩
  | zoomStop => cases hseq; exact ⟨_, fun _ => rfl, fun _ _ => hP.judgeAction fun _ => hP.zoomStop⟩
  | stabOn => cases hseq; exact ⟨_, fun _ => rfl, fun _ _ => hP.judgeAction fun _ => hP.stabOn⟩
  | stabOff => cases hseq; exact ⟨_, fun _ => rfl, fun _ _ => hP.judgeAction fun _ => hP.stabOff⟩
  | baselineReset => cases hseq; exact ⟨_, fun _ => rfl, fun _ _ => hP.judgeAction fun _ => hP.baselineReset⟩
  | enterSetup => cases hseq; exact ⟨_, fun _ => rfl, fun _ _ => hP.judgeAction fun _ => hP.enterSetup⟩
  | enterRun => cases hseq; exact ⟨_, fun _ => rfl, fun _ _ => hP.judgeAction fun _ => hP.enterRun⟩
  | lensTableClear => cases hseq; exact ⟨_, fun _ => rfl, fun _ _ => hP.judgeAction fun _ => hP.lensTableClear⟩
  | clearHold => cases hseq; exact ⟨_, fun _ => rfl, fun _ _ => hP.judgeAction fun _ => hP.recording.clearHold _⟩
  | clearFault => cases hseq; exact ⟨_, fun _ => rfl, fun _ _ => hP.judgeAction fun _ => hP.clearFault _ _ _⟩
  | storeScene => cases hseq; exact ⟨_, fun _ => rfl, fun _ _ => hP.judgeAction fun _ => hP.storeScene _⟩
  | recallScene => cases hseq; exact ⟨_, fun _ => rfl, fun _ _ => hP.judgeAction fun _ => hP.recallScene _⟩
  | recallFactory => cases hseq; exact ⟨_, fun _ => rfl, fun _ _ => hP.judgeAction fun _ => hP.recallFactory⟩
  | storeFixed => cases hseq; exact ⟨_, fun _ => rfl, fun _ _ => hP.judgeAction fun _ => hP.storeFixed⟩
  | _ => cases hseq

end LinkProp

/-! ### The sequence check (R173) -/

theorem State.link_setLink_other {s : State} {l m : LinkId} (c : LinkCtl) (h : m ≠ l) :
    (s.setLink l c).link m = s.link m := by
  cases l with
  | head =>
    cases m with
    | head => exact absurd rfl h
    | body => rfl
  | body =>
    cases m with
    | head => rfl
    | body => exact absurd rfl h

/-- What a link holds of its intake: the expectations, MISSED, REPEATS and the CRC failures in a row. -/
def LinkCtl.SameIntake (c d : LinkCtl) : Prop :=
  d.expect = c.expect ∧ d.missed = c.missed ∧ d.repeats = c.repeats ∧ d.crcFails = c.crcFails

/-- Packets handed leave what a link holds of its intake. -/
theorem sameIntake_linkProp (l : LinkId) (c : LinkCtl) : LinkProp (fun u => c.SameIntake (u.link l)) where
  hand := by
    intro u m hu
    by_cases hl : l = m.link
    · subst hl
      simpa [State.hand, LinkCtl.SameIntake] using hu
    · rwa [State.hand, State.link_setLink_other _ hl]
  same := by
    intro u v hhead hbody _ hu
    have hlink : v.link l = u.link l := by
      cases l with
      | head => exact hhead
      | body => exact hbody
    rwa [hlink]

/-- A packet taken leaves the intake of its link as `taken` has it. -/
theorem exec_sameIntake_of_takes {i : Instr} {k : InKind} {seq : Byte} {s : State} {n : Nat}
    (hform : i.wellFormed = true) (hseq : i.sequenced = some (k, seq)) (htakes : s.takes k seq n = true) :
    ∃ t, exec i s = .next t ∧ ((s.taken k seq n).link k.link).SameIntake (t.link k.link) := by
  obtain ⟨owner, hexec, hkeeps⟩ :=
    (sameIntake_linkProp k.link ((s.taken k seq n).link k.link)).exec_sequenced hform hseq
  refine ⟨_, hexec s, ?_⟩
  rw [State.intake_of_takes htakes]
  exact hkeeps _ _ ⟨rfl, rfl, rfl, rfl⟩

/-- Settles O16: the check of R173 answers the taken state or the repeat, and an owner leaves what the link holds of
its intake. -/
theorem sequenceIsChecked : Obligations.SequenceIsChecked := by
  intro i k seq s hform hseq hreset haligned
  cases hexpect : (s.link k.link).expect.get k.place with
  | none =>
    have htakes : s.takes k seq 0 = true := by simp [State.takes, hreset, haligned, hexpect]
    obtain ⟨t, ht, hsame, hmissed, hrepeats, hfails⟩ := exec_sameIntake_of_takes hform hseq htakes
    simp only [State.taken, State.link_setLink] at hsame hmissed hrepeats hfails
    exact ⟨t, ht, hsame, hmissed, hrepeats, hfails⟩
  | some e =>
    by_cases hrepeat : seq + 1 = e
    · subst hrepeat
      obtain ⟨owner, hexec, -⟩ := (sameIntake_linkProp k.link (s.link k.link)).exec_sequenced hform hseq
      refine ⟨_, hexec s, ?_⟩
      simp only [if_true]
      exact State.intake_of_repeat hreset haligned hexpect
    · have hdiff : (seq - e).toNat ≠ 255 := by bv_omega
      have htakes : s.takes k seq (seq - e).toNat = true := by
        simpa [State.takes, hreset, haligned, hexpect] using hdiff
      obtain ⟨t, ht, hsame, hmissed, hrepeats, hfails⟩ := exec_sameIntake_of_takes hform hseq htakes
      simp only [State.taken, State.link_setLink] at hsame hmissed hrepeats hfails
      refine ⟨t, ht, ?_⟩
      simp only [if_neg hrepeat]
      exact ⟨hsame, hmissed, hrepeats, hfails⟩

/-! ### Loss of alignment (R168, R169) -/

/-- Settles O20, by the cases of `LinkCtl.hand`. -/
theorem handingAndSending : Obligations.HandingAndSending := by
  refine ⟨fun c m => ?_, fun l s => ⟨?_, fun ms hrunning => ?_⟩⟩
  · cases hstate : c.state with
    | resync => simp only [LinkCtl.hand, hstate]
    | aligned =>
      simp only [LinkCtl.hand, hstate, txCapacity]
      split
      · exact ⟨rfl, rfl, rfl⟩
      · exact ⟨rfl, rfl, rfl⟩
  · change Host.Outcome.next (s.begin.lineReady l) = _
    have hlink : s.begin.link l = s.link l := by cases l <;> rfl
    simp only [State.lineReady, hlink]
    cases (s.link l).txQueue with
    | nil => rfl
    | cons p rest => cases l <;> rfl
  · change Host.Outcome.next (s.begin.resendExpires l) = _
    have hlink : s.begin.link l = s.link l := by cases l <;> rfl
    simp only [State.resendExpires, hlink, hrunning, Timer.isRunning, if_true]
    cases l <;> rfl

/-- Settles O17. -/
theorem alignmentIsLost : Obligations.AlignmentIsLost := by
  intro l s hreset
  have hbegin : s.begin.inReset = false := hreset
  have hlink : s.begin.link l = s.link l := by cases l <;> rfl
  have hfail : exec (.inboundCrcFailure l) s = .next (s.begin.failCrc l) := by
    change Host.Outcome.next (s.begin.unlessReset _) = _
    rw [State.unlessReset, hbegin]; rfl
  have hloss : exec (.lossOfFraming l) s = .next (s.begin.loseAlignment l) := by
    change Host.Outcome.next (s.begin.unlessReset _) = _
    rw [State.unlessReset, hbegin]; rfl
  rw [hfail, hloss]
  cases hstate : (s.link l).state with
  | resync =>
    simp only [hstate]
    refine ⟨?_, ?_⟩
    · simp only [State.failCrc, State.link_modifyLink, hlink, hstate]
      rw [← hstate]
      cases l <;> rfl
    · simp only [State.loseAlignment, hlink, hstate]
      rfl
  | aligned =>
    simp only [hstate]
    refine ⟨?_, ?_⟩
    · simp only [State.failCrc, State.link_modifyLink, hlink, hstate]
      by_cases hfew : (s.link l).crcFails < 3
      · rw [if_neg (by omega), if_pos hfew, ← hstate]
        cases l <;> rfl
      · rw [if_pos (by omega), if_neg hfew]
        simp only [State.loseAlignment, State.link_modifyLink, hlink, hstate]
        cases l <;> rfl
    · simp only [State.loseAlignment, hlink, hstate]
      cases l <;> rfl

/-! ### The return to ALIGNED (R170, R175) -/

/-- The zero SHIFT_CMD of the link-aligned report, on the head link itself (R52). -/
def LinkCtl.handShift (c : LinkCtl) (st : StabState) : LinkCtl :=
  if st = .running then c else c.hand (.shiftCmd ⟨0, 0⟩)

/-- A link that becomes `c`, with the link-aligned report (R175). -/
def State.reported (s : State) (l : LinkId) (c : LinkCtl) : State :=
  match l with
  | .body => { s with body := c }
  | .head =>
    { s with
      head := ((c.hand (.zoomCmd s.zoom.sentSpeed)).handShift s.stab.state).hand (.tally s.recorder.lamp)
      zoom := { s.zoom with refresh := .running 20 } }

theorem State.linkAligned_eq (s : State) (l : LinkId) : s.linkAligned l = s.reported l (s.link l) := by
  cases l with
  | body => rfl
  | head =>
    have hstab : s.sendZoom.stab.state = s.stab.state := rfl
    simp only [State.linkAligned, State.alignShift, hstab, State.reported, LinkCtl.handShift]
    cases s.stab.state <;> rfl

theorem State.align_eq (s : State) (l : LinkId) :
    s.align l = s.reported l { s.link l with state := .aligned, resend := .stopped, goodRun := 0 } := by
  unfold State.align
  rw [State.linkAligned_eq, State.link_modifyLink]
  cases l <;> rfl

/-- A good packet in RESYNC, with no CRC failure counted: the first one counts, the second aligns the link. -/
theorem State.goodInResync_good (s : State) (l : LinkId) :
    (s.modifyLink l LinkCtl.goodCrc).goodInResync l =
      if (s.link l).goodRun = 0 then s.setLink l { s.link l with crcFails := 0, goodRun := 1 }
      else s.reported l { s.link l with crcFails := 0, state := .aligned, resend := .stopped, goodRun := 0 } := by
  unfold State.goodInResync
  rw [State.link_modifyLink]
  by_cases hrun : (s.link l).goodRun = 0
  · rw [if_neg (by simp [LinkCtl.goodCrc, hrun]), if_pos hrun]
    simp only [State.modifyLink, State.setLink_setLink, State.link_setLink, LinkCtl.goodCrc, hrun]
  · rw [if_pos (by simp only [LinkCtl.goodCrc]; omega), if_neg hrun, State.align_eq, State.link_modifyLink]
    cases l <;> rfl

/-- Settles O19: a good packet that no block takes counts as `refusePacket` and `goodInResync` say. -/
theorem goodPacketsNotTaken : Obligations.GoodPacketsNotTaken := by
  intro l s hreset
  have hbegin : s.begin.inReset = false := hreset
  have hlink : s.begin.link l = s.link l := by cases l <;> rfl
  have hforeign : exec (.foreignPacket l) s = .next (s.begin.refusePacket l LinkCtl.countForeign) := by
    change Host.Outcome.next (s.begin.unlessReset _) = _
    rw [State.unlessReset, hbegin]; rfl
  have hrejected : exec (.rejectedPacket l) s = .next (s.begin.refusePacket l LinkCtl.countRejected) := by
    change Host.Outcome.next (s.begin.unlessReset _) = _
    rw [State.unlessReset, hbegin]; rfl
  rw [hforeign, hrejected]
  have hgood : (LinkCtl.goodCrc (s.link l)).state = (s.link l).state := rfl
  cases hstate : (s.link l).state with
  | aligned =>
    simp only [hstate, State.refusePacket, State.link_modifyLink, hlink, hgood]
    rw [← hstate]
    exact ⟨by cases l <;> rfl, by cases l <;> rfl⟩
  | resync =>
    have hrefused : ∀ f, s.begin.refusePacket l f = (s.begin.modifyLink l LinkCtl.goodCrc).goodInResync l := by
      intro f
      simp only [State.refusePacket, State.link_modifyLink, hlink, hgood, hstate]
    have hnext := s.begin.goodInResync_good l
    simp only [hstate]
    rw [← hstate]
    refine ⟨?_, ?_, ?_⟩
    · rw [hrefused, hnext, hlink]
      cases l <;> rfl
    · rw [hrefused, hnext, hlink]
      cases l <;> rfl
    · intro i k seq hform hseq hk
      subst hk
      obtain ⟨owner, hexec, -⟩ := (sameIntake_linkProp k.link (s.link k.link)).exec_sequenced hform hseq
      rw [hexec, State.intake_of_resync hreset hstate, hnext, hlink]
      cases k.link <;> rfl

/-- Settles O18. -/
theorem linkResetTaken : Obligations.LinkResetTaken := by
  intro l epoch s hreset
  have hbegin : s.begin.inReset = false := hreset
  have hlink : s.begin.link l = s.link l := by cases l <;> rfl
  have hexec : exec (.linkReset l epoch) s = .next (s.begin.takeLinkReset l epoch) := by
    change Host.Outcome.next (s.begin.unlessReset _) = _
    rw [State.unlessReset, hbegin]; rfl
  rw [hexec]
  have hgood : (LinkCtl.goodCrc (s.link l)).state = (s.link l).state := rfl
  have hepoch : (LinkCtl.goodCrc (s.link l)).partnerEpoch = (s.link l).partnerEpoch := rfl
  cases hstate : (s.link l).state with
  | resync =>
    simp only [hstate, State.takeLinkReset, State.link_modifyLink, hlink, hgood, hepoch]
    by_cases hknown : (s.link l).partnerEpoch = some epoch
    · simp only [hknown, beq_self_eq_true, if_true, ne_eq, not_true_eq_false, if_false]
      rw [s.begin.goodInResync_good l, hlink, ← hstate, ← hknown]
      cases l <;> rfl
    · have hnew : ((s.link l).partnerEpoch == some epoch) = false := by simpa using hknown
      simp only [hnew, ne_eq, hknown, not_false_eq_true, if_true, Bool.false_eq_true, if_false, State.align_eq,
        State.link_modifyLink, hlink]
      cases l <;> rfl
  | aligned =>
    simp only [hstate, State.takeLinkReset, State.link_modifyLink, hlink, hgood, hepoch]
    by_cases hknown : (s.link l).partnerEpoch = some epoch
    · simp only [hknown, beq_self_eq_true, if_true]
      rw [← hstate, ← hknown]
      cases l <;> rfl
    · have hnew : ((s.link l).partnerEpoch == some epoch) = false := by simpa using hknown
      simp only [hnew, Bool.false_eq_true, if_false, hknown, State.linkAligned_eq]
      rw [← hstate]
      cases l <;> rfl

end Sys2Proof.Machine
end

section
/-! PROOF. The link controllers' own bounds (R168 to R171, R176, R177): every command keeps them. -/

namespace Sys2Proof.Machine

/-- What `linksSound` says of one link, by whether power-on reset is in progress. -/
def LinkCtl.Held (inReset : Bool) (c : LinkCtl) : Prop :=
  c.sound ∧ if inReset then c.state = .resync else (c.resend.isRunning = true ↔ c.state = .resync)

/-- A step that changes one link. -/
theorem State.linksSound_of_link {s t : State} (l : LinkId) (hs : s.linksSound) (hreset : t.inReset = s.inReset)
    (hlink : (t.link l).Held s.inReset) (hother : ∀ m, m ≠ l → t.link m = s.link m) : t.linksSound := by
  intro m
  rw [hreset]
  by_cases hm : m = l
  · subst hm; exact hlink
  · rw [hother m hm]; exact hs m

theorem State.linksSound_setLink {s : State} {l : LinkId} {c : LinkCtl} (hs : s.linksSound) (hc : c.Held s.inReset) :
    (s.setLink l c).linksSound :=
  State.linksSound_of_link l hs (by simp) (by simpa using hc) fun _ hm => State.link_setLink_other c hm

theorem LinkCtl.Held.hand {r : Bool} {c : LinkCtl} (hc : c.Held r) (m : OutMsg) : (c.hand m).Held r :=
  ⟨c.hand_sound m hc.1, by simpa using hc.2⟩

theorem linksSound_linkProp : LinkProp State.linksSound where
  hand := fun {u} m hu => State.linksSound_setLink hu (LinkCtl.Held.hand (hu m.link) m)
  same := by
    intro u v hhead hbody hreset hu l
    have hlink : v.link l = u.link l := by
      cases l with
      | head => exact hhead
      | body => exact hbody
    rw [hlink, hreset]
    exact hu l

/-! ### What a link may become -/

/-- A link whose state, queue, expectations, good run and resend timer stand, with at most three failures. -/
theorem LinkCtl.Held.counts {r : Bool} {c d : LinkCtl} (hc : c.Held r) (hfails : d.crcFails ≤ 3)
    (hstate : d.state = c.state) (hqueue : d.txQueue = c.txQueue) (hexpect : d.expect = c.expect)
    (hrun : d.goodRun = c.goodRun) (hresend : d.resend = c.resend) : d.Held r := by
  simpa only [LinkCtl.Held, LinkCtl.sound, hstate, hqueue, hexpect, hrun, hresend, hfails, true_and, hc.1.2.1]
    using hc

theorem LinkCtl.held_aligned {c : LinkCtl} (hstate : c.state = .aligned) :
    c.Held false ↔ c.txQueue.length ≤ 32 ∧ c.crcFails ≤ 3 ∧ c.goodRun = 0 ∧ c.resend.isRunning = false := by
  simp [LinkCtl.Held, LinkCtl.sound, hstate, txCapacity, and_assoc]

theorem LinkCtl.held_resync {c : LinkCtl} (hstate : c.state = .resync) :
    c.Held false ↔ c.txQueue = [] ∧ c.crcFails ≤ 3 ∧ c.expect = .fill none ∧ c.goodRun ≤ 1 ∧
      c.resend.isRunning = true := by
  simp only [LinkCtl.Held, LinkCtl.sound, hstate]
  constructor
  · rintro ⟨⟨-, hfails, hqueue, hexpect, hrun⟩, hresend⟩
    exact ⟨hqueue, hfails, hexpect, hrun, by simpa using hresend⟩
  · rintro ⟨hqueue, hfails, hexpect, hrun, hresend⟩
    exact ⟨⟨by simp [hqueue], hfails, hqueue, hexpect, hrun⟩, by simp [hresend]⟩

/-! ### The link events -/

theorem State.linksSound_linkAligned {s : State} (l : LinkId) (hs : s.linksSound) : (s.linkAligned l).linksSound := by
  have hzoom : s.sendZoom.linksSound := linksSound_linkProp.hand _ (linksSound_linkProp.same (u := s) rfl rfl rfl hs)
  have hshift : s.sendZoom.alignShift.linksSound := by
    unfold State.alignShift
    split
    · exact linksSound_linkProp.hand _ hzoom
    · exact linksSound_linkProp.hand _ hzoom
    · exact hzoom
  cases l with
  | head => exact linksSound_linkProp.hand _ hshift
  | body => exact hs

theorem State.linksSound_modifyLink {s : State} {l : LinkId} {f : LinkCtl → LinkCtl} (hs : s.linksSound)
    (hf : (f (s.link l)).Held s.inReset) : (s.modifyLink l f).linksSound := State.linksSound_setLink hs hf

theorem State.linksSound_goodCrc {s : State} (hs : s.linksSound) (l : LinkId) :
    (s.modifyLink l LinkCtl.goodCrc).linksSound :=
  State.linksSound_modifyLink hs (LinkCtl.Held.counts (hs l) (Nat.zero_le 3) rfl rfl rfl rfl rfl)

section
variable {s : State} (hs : s.linksSound) (l : LinkId) (hreset : s.inReset = false)
include hs hreset

theorem State.held_link : (s.link l).Held false := hreset ▸ hs l

/-- A link out of RESYNC, with whatever it records of its partner. -/
theorem State.linksSound_align (hresync : (s.link l).state = .resync) : (s.align l).linksSound := by
  obtain ⟨hqueue, hfails, -⟩ := (LinkCtl.held_resync hresync).1 (State.held_link hs l hreset)
  refine State.linksSound_linkAligned l (State.linksSound_modifyLink hs ?_)
  rw [hreset]
  exact (LinkCtl.held_aligned rfl).2 ⟨by simp [hqueue], hfails, rfl, rfl⟩

theorem State.linksSound_goodInResync (hresync : (s.link l).state = .resync) : (s.goodInResync l).linksSound := by
  obtain ⟨hqueue, hfails, hexpect, hrun, hresend⟩ := (LinkCtl.held_resync hresync).1 (State.held_link hs l hreset)
  unfold State.goodInResync
  split
  · exact State.linksSound_align hs l hreset hresync
  · next hfew =>
    refine State.linksSound_modifyLink hs ?_
    rw [hreset]
    exact (LinkCtl.held_resync (by exact hresync)).2 ⟨hqueue, hfails, hexpect, by dsimp only at hfew ⊢; omega, hresend⟩

end

theorem State.linkDown_link (s : State) (l m : LinkId) : (s.linkDown l).link m = s.link m := by
  cases l <;> cases m <;> rfl

/-- A link reset from ALIGNED, whatever its own counts were (R169). -/
theorem State.linksSound_loseAligned {s : State} {l : LinkId} (hreset : s.inReset = false)
    (haligned : (s.link l).state = .aligned) (hother : ∀ m, m ≠ l → (s.link m).Held false) :
    (s.loseAlignment l).linksSound := by
  have hsame : ∀ m, m ≠ l → (s.loseAlignment l).link m = s.link m := by
    intro m hm
    simp only [State.loseAlignment, haligned, State.modifyLink, State.sendLinkReset, State.emit]
    rw [State.link_setLink_other _ hm]
    change (State.setLink _ l _).link m = _
    rw [State.link_setLink_other _ hm, State.linkDown_link, State.link_setLink_other _ hm]
  have hheld : ((s.loseAlignment l).link l).Held false := by
    simp only [State.loseAlignment, haligned, State.link_modifyLink]
    refine (LinkCtl.held_resync ?_).2 ?_
    · cases l <;> rfl
    · cases l <;> exact ⟨rfl, Nat.zero_le 3, rfl, Nat.zero_le 1, rfl⟩
  intro m
  have hstill : (s.loseAlignment l).inReset = false := by simpa using hreset
  rw [hstill]
  by_cases hm : m = l
  · subst hm; exact hheld
  · rw [hsame m hm]; exact hother m hm

section
variable {s : State} (hs : s.linksSound) (l : LinkId) (hreset : s.inReset = false)
include hs hreset

theorem State.linksSound_loseAlignment : (s.loseAlignment l).linksSound := by
  cases hstate : (s.link l).state with
  | resync => simpa only [State.loseAlignment, hstate] using hs
  | aligned => exact State.linksSound_loseAligned hreset hstate fun m _ => State.held_link hs m hreset

theorem State.linksSound_failCrc : (s.failCrc l).linksSound := by
  have hheld := State.held_link hs l hreset
  unfold State.failCrc
  dsimp only
  split
  · next hstate =>
    have hstate : (s.link l).state = .resync := by simpa using hstate
    obtain ⟨hqueue, hfails, hexpect, hrun, hresend⟩ := (LinkCtl.held_resync hstate).1 hheld
    simp only [State.modifyLink, State.setLink_setLink, State.link_setLink]
    refine State.linksSound_setLink hs ?_
    rw [hreset]
    refine (LinkCtl.held_resync (by exact hstate)).2 ⟨hqueue, ?_, hexpect, Nat.zero_le 1, hresend⟩
    dsimp only
    split <;> omega
  · next hstate =>
    have hstate : (s.link l).state = .aligned := by simpa using hstate
    obtain ⟨hqueue, hfails, hrun, hresend⟩ := (LinkCtl.held_aligned hstate).1 hheld
    split
    · refine State.linksSound_loseAligned (by simpa using hreset) (by simpa using hstate) fun m hm => ?_
      rw [State.modifyLink, State.link_setLink_other _ hm]
      exact State.held_link hs m hreset
    · next hfew =>
      rw [State.link_modifyLink] at hfew
      refine State.linksSound_modifyLink hs ?_
      rw [hreset]
      exact (LinkCtl.held_aligned (by exact hstate)).2 ⟨hqueue, by dsimp only at hfew ⊢; omega, hrun, hresend⟩

theorem State.linksSound_takeLinkReset (e : Byte) : (s.takeLinkReset l e).linksSound := by
  have hgood := State.linksSound_goodCrc hs l
  have hheld := State.held_link hgood l (by simpa using hreset)
  unfold State.takeLinkReset
  dsimp only
  split
  · next hstate =>
    split
    · exact State.linksSound_goodInResync hgood l (by simpa using hreset) hstate
    · refine State.linksSound_align ?_ l (by simpa using hreset) (by simpa using hstate)
      refine State.linksSound_modifyLink hgood ?_
      exact LinkCtl.Held.counts (hgood l) (by simp [LinkCtl.goodCrc]) rfl rfl rfl rfl rfl
  · next hstate =>
    split
    · exact hgood
    · obtain ⟨-, -, -, hresend⟩ := (LinkCtl.held_aligned hstate).1 hheld
      refine State.linksSound_linkAligned l (State.linksSound_of_link l hgood (by simp) ?_ fun m hm => ?_)
      · have hlink : ∀ u : State, (u.sendLinkReset l).link l =
            { u.link l with outSeq := (u.link l).outSeq.set .i4 ((u.link l).outSeq.q4 + 1) } := by
          intro u; cases l <;> rfl
        have hstill : (s.modifyLink l LinkCtl.goodCrc).inReset = false := by simpa using hreset
        rw [hstill, hlink, State.linkDown_link, State.link_modifyLink]
        exact (LinkCtl.held_aligned (by exact hstate)).2 ⟨Nat.zero_le 32, Nat.zero_le 3, rfl, hresend⟩
      · rw [State.sendLinkReset, State.emit]
        change (State.setLink _ l _).link m = _
        rw [State.link_setLink_other _ hm, State.linkDown_link, State.modifyLink, State.link_setLink_other _ hm]

theorem State.linksSound_refusePacket (f : LinkCtl → LinkCtl)
    (hf : ∀ c : LinkCtl, c.Held false → (f c).Held false) : (s.refusePacket l f).linksSound := by
  have hgood := State.linksSound_goodCrc hs l
  have hreset' : (s.modifyLink l LinkCtl.goodCrc).inReset = false := by simpa using hreset
  unfold State.refusePacket
  dsimp only
  split
  · next hstate => exact State.linksSound_goodInResync hgood l hreset' hstate
  · refine State.linksSound_modifyLink hgood ?_
    rw [hreset']
    exact hf _ (State.held_link hgood l hreset')

end

/-- The sequence check changes what a link expects, and its counts. -/
theorem LinkCtl.Held.checkSequence {c : LinkCtl} (hc : c.Held false) (haligned : c.state = .aligned) (p : Four)
    (seq : Byte) : (c.checkSequence p seq).1.Held false := by
  have hkept := (LinkCtl.held_aligned haligned).1 hc
  unfold LinkCtl.checkSequence
  split
  · exact (LinkCtl.held_aligned (by exact haligned)).2 hkept
  · dsimp only
    split
    · exact (LinkCtl.held_aligned (by exact haligned)).2 hkept
    · exact (LinkCtl.held_aligned (by exact haligned)).2 hkept

theorem State.linksSound_intake {s : State} {k : InKind} {seq : Byte} {owner : State → Nat → State}
    (hs : s.linksSound) (howner : ∀ u n, u.linksSound → (owner u n).linksSound) :
    (s.intake k seq owner).linksSound := by
  refine State.unlessReset_holds (fun hreset hs => ?_) hs
  have hgood := State.linksSound_goodCrc hs k.link
  dsimp only
  split
  · next hstate => exact State.linksSound_goodInResync hgood _ (by simpa using hreset) hstate
  · next hstate =>
    have hlink : ∀ c x, ((s.modifyLink k.link LinkCtl.goodCrc).link k.link).checkSequence k.place seq = (c, x) →
        ((s.modifyLink k.link LinkCtl.goodCrc).setLink k.link c).linksSound := by
      intro c x heq
      have hstill : (s.modifyLink k.link LinkCtl.goodCrc).inReset = false := by simpa using hreset
      refine State.linksSound_setLink hgood ?_
      rw [hstill]
      have hchecked := LinkCtl.Held.checkSequence (State.held_link hgood _ hstill) hstate k.place seq
      rwa [heq] at hchecked
    split
    · next c heq => exact hlink c _ heq
    · next c n heq => exact howner _ _ (hlink c _ heq)

/-! ### Power-on reset -/

theorem LinkCtl.held_powerOn : LinkCtl.powerOn.Held true :=
  ⟨⟨Nat.zero_le 32, Nat.zero_le 3, rfl, rfl, Nat.zero_le 1⟩, rfl⟩

theorem State.linksSound_powerOn (s : State) : s.powerOn.linksSound := by
  obtain ⟨hreset, -, -, hhead, hbody, -, -⟩ := s.loaded_blocks
  have hloaded : s.loaded.linksSound := by
    intro l
    rw [hreset]
    cases l with
    | head => rw [State.link_head, hhead]; exact LinkCtl.held_powerOn
    | body => rw [State.link_body, hbody]; exact LinkCtl.held_powerOn
  rw [State.powerOn_eq, State.startStabiliser_eq]
  split
  · exact linksSound_linkProp.enterSettling hloaded
  · exact hloaded

/-- A link in RESYNC after its first LINK_RESET, its resend timer running (R180). -/
theorem LinkCtl.Held.firstReset {c : LinkCtl} (hc : c.Held true) (q : Quad Byte) :
    { c with outSeq := q, resend := .running 2 }.Held false := by
  obtain ⟨⟨hqueue, hfails, hstate⟩, hresync⟩ := hc
  have hresync : c.state = .resync := by simpa using hresync
  rw [hresync] at hstate
  exact (LinkCtl.held_resync (by exact hresync)).2 ⟨hstate.1, hfails, hstate.2.1, hstate.2.2, rfl⟩

theorem State.linksSound_powerOnEnd {s : State} (hs : s.linksSound) : s.powerOnEnd.linksSound := by
  unfold State.powerOnEnd
  split
  · next hreset =>
    have hstarted : (({ s with inReset := false }.startTimers.firstReset .head).firstReset .body).linksSound := by
      intro l
      have hl := hs l
      rw [hreset] at hl
      cases l with
      | head => exact LinkCtl.Held.firstReset hl _
      | body => exact LinkCtl.Held.firstReset hl _
    have hinsert : ∀ (u : State) x, u.linksSound → (u.insertPresent x).linksSound := by
      intro u x hu
      unfold State.insertPresent
      split
      · exact linksSound_linkProp.recording.takeInsertion x hu
      · exact hu
    exact hinsert _ _ (hinsert _ _ hstarted)
  · exact hs

/-! ### The transmit line and the resend timer -/

theorem State.linksSound_lineReady {s : State} (l : LinkId) (hs : s.linksSound) : (s.lineReady l).linksSound := by
  unfold State.lineReady
  split
  · exact hs
  · next p rest hqueue =>
    refine linksSound_linkProp.recording.emit _ (State.linksSound_modifyLink hs ?_)
    obtain ⟨⟨hlen, hfails, hstate⟩, hresync⟩ := hs l
    refine ⟨⟨?_, hfails, ?_⟩, hresync⟩
    · rw [hqueue, List.length_cons] at hlen
      exact Nat.le_of_succ_le hlen
    · dsimp only
      split
      · next hst =>
        rw [hst, hqueue] at hstate
        exact absurd hstate.1 (List.cons_ne_nil _ _)
      · next hst =>
        rw [hst] at hstate
        exact hstate

theorem LinkCtl.Held.startResend {r : Bool} {c : LinkCtl} (hc : c.Held r) (hrunning : c.resend.isRunning = true)
    (q : Quad Byte) : { c with outSeq := q }.startResend.Held r := by
  obtain ⟨hsound, hresync⟩ := hc
  refine ⟨hsound, ?_⟩
  cases r with
  | true => exact hresync
  | false => exact ⟨fun _ => hresync.1 hrunning, fun _ => rfl⟩

theorem State.linksSound_resendExpires {s : State} (l : LinkId) (hs : s.linksSound) :
    (s.resendExpires l).linksSound := by
  unfold State.resendExpires
  split
  · next hrunning =>
    have hlink : ((s.sendLinkReset l).link l) =
        { s.link l with outSeq := (s.link l).outSeq.set .i4 ((s.link l).outSeq.q4 + 1) } := by
      cases l <;> rfl
    refine State.linksSound_modifyLink (linksSound_linkProp.recording.emit _ (State.linksSound_setLink hs ?_)) ?_
    · exact hs l
    · have hstill : (s.sendLinkReset l).inReset = s.inReset := by simp
      rw [hlink, hstill]
      exact LinkCtl.Held.startResend (hs l) hrunning _
  · exact hs

/-! ### Every command -/

theorem linksSound_reads : Reads [.head, .body, .inReset] State.linksSound := by
  intro s t h
  exact linksSound_linkProp.same (h .head (by simp)) (h .body (by simp)) (h .inReset (by simp))

section
variable {s : State}

theorem State.linksSound_begin (hs : s.linksSound) : s.begin.linksSound := linksSound_linkProp.same (u := s) rfl rfl rfl hs

/-- Sampling the CRC indicator leaves the links' bounds. -/
theorem State.linksSound_checkCycle (hs : s.linksSound) : s.checkCycle.linksSound := by
  have hP := linksSound_linkProp
  refine State.checkCycle_holds hP.keptBySup (fun u _ => hP.same (u := u) rfl rfl rfl) (fun _ => hP.runActions)
    (fun _ => hP.notify) (fun u g hu => ?_) hs
  cases g with
  | linkCrc =>
    intro l
    cases l with
    | head => exact hu .head
    | body => exact hu .body
  | _ => exact hP.same (u := u) rfl rfl rfl hu

theorem State.linksSound_complete {x : SlotId} {kind : RequestKind} {number : Byte} {act : State → State}
    (hact : ∀ u : State, u.linksSound → (act u).linksSound) (hs : s.linksSound) :
    (s.begin.complete x kind number act).linksSound := by
  refine State.unlessReset_holds (fun _ hs => ?_) (State.linksSound_begin hs)
  split
  · exact hact _ hs
  · exact linksSound_linkProp.recording.modifySlot x _ hs

end

/-- Every command keeps both links sound. -/
theorem linksSound_exec (i : Instr) (s t : State) (h : exec i s = .next t) (hs : s.linksSound) : t.linksSound := by
  have hP := linksSound_linkProp
  have hbegin := State.linksSound_begin hs
  have htaken : ∀ k seq, i.wellFormed = true → i.sequenced = some (k, seq) → t.linksSound := by
    intro k seq hform hseq
    obtain ⟨owner, hexec, howner⟩ := hP.exec_sequenced hform hseq
    rw [hexec] at h
    cases h
    exact State.linksSound_intake hbegin howner
  have hexpire : ∀ {c : Timer} {f : State → State}, (∀ u : State, u.linksSound → (f u).linksSound) →
      (s.begin.expire c f).linksSound := fun hf => State.expire_holds (fun _ => hf _) hbegin
  have hlive : ∀ {f : State → State}, (∀ u : State, u.inReset = false → u.linksSound → (f u).linksSound) →
      (s.begin.unlessReset f).linksSound := fun hf => State.unlessReset_holds (fun hr => hf _ hr) hbegin
  have hrefused : ∀ l f, (∀ c : LinkCtl, c.Held false → (f c).Held false) →
      (s.begin.unlessReset (State.refusePacket · l f)).linksSound := fun l f hf =>
    hlive fun u hreset hu => State.linksSound_refusePacket hu l hreset f hf
  have hcount : ∀ c : LinkCtl, c.Held false → c.countForeign.Held false ∧ c.countRejected.Held false :=
    fun c hc => ⟨hc, hc⟩
  have hcrc : ∀ l, (s.begin.unlessReset (State.failCrc · l)).linksSound := fun l =>
    hlive fun u hreset hu => State.linksSound_failCrc hu l hreset
  cases i with
  | powerOnReset => cases h; exact State.linksSound_powerOn s
  | powerOnResetEnd => cases h; exact State.linksSound_powerOnEnd hbegin
  | audioIn seq samples =>
    by_cases hlen : samples.length = 48
    · exact htaken _ _ (by simpa [Instr.wellFormed] using hlen) rfl
    · cases h
      rw [if_neg hlen]
      exact hrefused _ _ fun c hc => (hcount c hc).2
  | vfLine seq line pixels =>
    by_cases hlen : pixels.length = 960
    · exact htaken _ _ (by simpa [Instr.wellFormed] using hlen) rfl
    · cases h
      rw [if_neg hlen]
      exact hrefused _ _ fun c hc => (hcount c hc).2
  | essence seq frame stream last offset bytes =>
    by_cases hlen : bytes.length ≤ maxEssenceBytes
    · exact htaken _ _ (by simpa [Instr.wellFormed] using hlen) rfl
    · cases h
      rw [if_neg hlen]
      exact hcrc _
  | write seq src tag n data =>
    by_cases hlen : data.length ≤ maxWriteBytes
    · exact htaken _ _ (by simpa [Instr.wellFormed] using hlen) rfl
    · cases h
      rw [if_neg hlen]
      exact hcrc _
  | linkReset l e => cases h; exact hlive fun u hreset hu => State.linksSound_takeLinkReset hu l hreset e
  | inboundCrcFailure l => cases h; exact hcrc l
  | foreignPacket l => cases h; exact hrefused _ _ fun c hc => (hcount c hc).1
  | rejectedPacket l => cases h; exact hrefused _ _ fun c hc => (hcount c hc).2
  | lossOfFraming l => cases h; exact hlive fun u hreset hu => State.linksSound_loseAlignment hu l hreset
  | resendTimerExpiry l => cases h; exact State.linksSound_resendExpires l hbegin
  | transmitLineReady l => cases h; exact State.linksSound_lineReady l hbegin
  | cardInsertion x =>
    cases h
    split
    · exact hbegin
    · exact State.unlessReset_holds (fun _ => hP.recording.takeInsertion x) (hP.recording.modifySlot x _ hbegin)
  | cardRemoval x =>
    cases h
    split
    · exact State.unlessReset_holds (fun _ => hP.recording.takeRemoval x) (hP.recording.modifySlot x _ hbegin)
    · exact hbegin
  | mountCompletion x number ok free =>
    cases h
    refine State.linksSound_complete (fun u hu => ?_) hs
    split
    · exact hP.recording.mountOk x _ hu
    · exact hP.recording.mountError x hu
  | partOpenCompletion x number ok =>
    cases h
    refine State.linksSound_complete (fun u hu => ?_) hs
    split
    · exact hP.recording.partOpenOk x hu
    · exact hP.recording.partOpenError x hu
  | unitWriteCompletion x number ok =>
    cases h
    refine State.linksSound_complete (fun u hu => ?_) hs
    split
    · exact hP.recording.unitWriteOk x hu
    · exact hP.recording.unitWriteError x hu
  | partCloseCompletion x number ok =>
    cases h; exact State.linksSound_complete (fun _ => hP.recording.partCloseEnd x ok) hs
  | mountTimeout x =>
    cases h
    split
    · exact hP.recording.mountError x hbegin
    · exact hbegin
  | slowTimerExpiry x =>
    cases h
    split
    · exact hP.recording.modifySlot x _ hbegin
    · exact hbegin
  | requestTimeout x =>
    cases h
    split
    · exact hP.recording.requestError x hbegin
    · exact hbegin
  | lensSilenceTimerExpiry | gyroSilenceTimerExpiry | longGapTimerExpiry | audioSilenceTimerExpiry
  | meterLapseTimerExpiry => cases h; exact hexpire fun u => hP.same (u := u) rfl rfl rfl
  | rockerLapseTimerExpiry => cases h; exact hexpire fun u => hP.rockerLapse
  | presetTimeoutExpiry => cases h; exact hexpire fun u hu => hP.arbitrate (hP.endMove _ hu)
  | refreshTimerExpiry => cases h; exact hexpire fun u hu => hP.hand _ (hP.same (u := u) rfl rfl rfl hu)
  | markSilenceTimerExpiry => cases h; exact hexpire fun u => hP.recording.markSilenceExpires hP.closeUnit
  | lineSilenceTimerExpiry => cases h; exact hexpire fun u => hP.same (by simp) (by simp) (by simp)
  | checkCycle => cases h; exact hexpire fun u => State.linksSound_checkCycle
  | storeCompletion | storeTimeout => cases h; exact hP.endStore _ hbegin
  | recallCompletion => cases h; exact hP.endRecall hbegin
  | cellWriteCompletion => cases h; exact hP.same (u := s) rfl rfl rfl hs
  | _ => exact htaken _ _ rfl rfl

/-- Settles O7: a step runs one command on the state with the queue's rest. -/
theorem linksStaySound : Obligations.LinksStaySound :=
  fun _ _ => step_keeps linksSound_reads (by simp) fun i u v h _ => linksSound_exec i u v h

end Sys2Proof.Machine
end

section
/-! PROOF. Reading a written packet (R200, R201, R203): bytes to values and back, the frame, each payload. -/

namespace Sys2Proof

open Machine

/-! ### Bytes and values -/

theorem leNat_leBytes (n v : Nat) : leNat (leBytes n v) = v % 256 ^ n := by
  induction n generalizing v with
  | zero => simp [leBytes, leNat, Nat.mod_one]
  | succ n ih =>
    rw [leBytes, leNat, ih, BitVec.toNat_ofNat, pow_succ' 256 n, Nat.mod_mul]

/-- A field read from the bytes of a value it holds is that value. -/
theorem field_leBytes {w : Nat} (n : Nat) (hw : 2 ^ w ≤ 256 ^ n) (v : BitVec w) : field w (leBytes n v.toNat) = v := by
  unfold field
  rw [leNat_leBytes, Nat.mod_eq_of_lt (lt_of_lt_of_le v.isLt hw), BitVec.ofNat_toNat, BitVec.setWidth_eq]

/-- The row that a good payload of channel 0 presents on its link. -/
def readOn (l : LinkId) (kind seq : Byte) (payload : List Byte) : Instr :=
  match l with
  | .head => readHead kind seq payload
  | .body => readBody kind seq payload

/-- A frame of channel 0 is read by its kind and payload. -/
theorem receive_frameBytes (l : LinkId) (kind seq : Byte) (payload : List Byte) (hlen : payload.length ≤ 4096) :
    receive l (frameBytes kind 0#8 seq payload) = readOn l kind seq payload := by
  have hfield : leNat [BitVec.ofNat 8 payload.length, BitVec.ofNat 8 (payload.length / 256)] = payload.length := by
    have := leNat_leBytes 2 payload.length
    rw [Nat.mod_eq_of_lt (by omega)] at this
    exact this
  have hcrc : ∀ c : BitVec 16, field 16 (leBytes 2 c.toNat) = c := field_leBytes 2 (by decide)
  simp only [receive, frameBytes, leBytes, List.cons_append, List.nil_append, hfield]
  rw [if_neg (by simp only [List.length_append, List.length_cons, List.length_nil]; omega)]
  simp only [List.drop_left, List.take_left]
  rw [if_neg (by rw [ne_eq, not_not]; exact hcrc _), if_neg (by decide)]
  rfl

/-- The samples of an AUDIO_IN payload. -/
theorem readSamples_flatMap (samples : List InputSamples) :
    readSamples samples.length (samples.flatMap sampleBytes) = samples := by
  induction samples with
  | nil => rfl
  | cons q rest ih =>
    have hfield : ∀ v : BitVec 24, field 24 (leBytes 3 v.toNat) = v := field_leBytes 3 (by decide)
    have hread : readSamples (rest.length + 1) ((q :: rest).flatMap sampleBytes) =
        ⟨field 24 (leBytes 3 q.q1.toNat), field 24 (leBytes 3 q.q2.toNat), field 24 (leBytes 3 q.q3.toNat),
          field 24 (leBytes 3 q.q4.toNat)⟩ :: readSamples rest.length (rest.flatMap sampleBytes) := rfl
    rw [List.length_cons, hread, ih, hfield, hfield, hfield, hfield]

/-- The words of a VF_LINE payload. -/
theorem readPixels_flatMap (pixels : List (BitVec 32)) :
    readPixels pixels.length (pixels.flatMap (fun p => leBytes 4 p.toNat)) = pixels := by
  induction pixels with
  | nil => rfl
  | cons p rest ih =>
    have hread : readPixels (rest.length + 1) ((p :: rest).flatMap (fun p => leBytes 4 p.toNat)) =
        field 32 (leBytes 4 p.toNat) :: readPixels rest.length (rest.flatMap (fun p => leBytes 4 p.toNat)) := rfl
    rw [List.length_cons, hread, ih, field_leBytes 4 (by decide)]

theorem RateCode.ofByte_toByte (r : RateCode) : RateCode.ofByte r.toByte = some r := by cases r <;> rfl

theorem Stream.ofByte_toByte (st : Stream) : Stream.ofByte st.toByte = some st := by cases st <;> rfl

theorem Source.ofByte_toByte (src : Source) : Source.ofByte src.toByte = some src := by cases src <;> rfl

/-- A COMMAND's payload is read by its source. -/
theorem readOn_command (seq : Byte) (src : Source) (tag code : Byte) (args : List Byte) :
    readOn .body kindCommand seq (commandPayload src tag code args) = readCommand seq src tag code args := by
  have hread : readOn .body kindCommand seq (commandPayload src tag code args) =
      match Source.ofByte src.toByte with
      | some src => readCommand seq src tag code args
      | none => .undefinedCommand seq tag := rfl
  rw [hread, Source.ofByte_toByte]

/-! ### Each row -/

/-- A row whose payload is read as the row, in a frame that its link reads. -/
theorem reads_of_payload {i : Instr} {l l' : LinkId} {kind seq : Byte} {payload bytes : List Byte}
    (hlen : payload.length ≤ 4096) (hread : readOn l kind seq payload = i)
    (hpacket : some (l, frameBytes kind 0#8 seq payload) = some (l', bytes)) : receive l' bytes = i := by
  cases hpacket
  rw [receive_frameBytes l kind seq payload hlen, hread]

/-- The same for a COMMAND. -/
theorem reads_of_command {i : Instr} {l' : LinkId} {seq tag code : Byte} {src : Source} {args bytes : List Byte}
    (hlen : args.length ≤ 4093) (hread : readCommand seq src tag code args = i)
    (hpacket : some (LinkId.body, frameBytes kindCommand 0#8 seq (commandPayload src tag code args)) =
      some (l', bytes)) : receive l' bytes = i :=
  reads_of_payload (by simp only [commandPayload, List.length_cons]; omega)
    ((readOn_command seq src tag code args).trans hread) hpacket

/-- Settles O4, row by row. -/
theorem packetsReadBack : Obligations.PacketsReadBack := by
  intro i l bytes hform hpacket
  have hword : ∀ v : BitVec 16, field 16 (leBytes 2 v.toNat) = v := field_leBytes 2 (by decide)
  have hlong : ∀ v : BitVec 32, field 32 (leBytes 4 v.toNat) = v := field_leBytes 4 (by decide)
  cases i with
  | motion seq yaw pitch =>
    refine reads_of_payload (by simp [Laws.Framing.leBytes_length]) ?_ hpacket
    exact congrArg₂ (Instr.motion seq) (hword yaw) (hword pitch)
  | lensReport seq z y p status =>
    refine reads_of_payload (by simp [Laws.Framing.leBytes_length]) ?_ hpacket
    change Instr.lensReport seq (field 16 (leBytes 2 z.toNat)) (field 16 (leBytes 2 y.toNat))
      (field 16 (leBytes 2 p.toNat)) status = _
    rw [hword, hword, hword]
  | panel => exact reads_of_payload (by simp) rfl hpacket
  | audioIn seq samples =>
    have hcount : samples.length = 48 := by simpa [Instr.wellFormed] using hform
    have hbytes : (samples.flatMap sampleBytes).length = 576 := by
      rw [Laws.Framing.flatMap_length sampleBytes 12 (fun _ => rfl), hcount]
    refine reads_of_payload (by omega) ?_ hpacket
    change (if (samples.flatMap sampleBytes).length = 576 then
      Instr.audioIn seq (readSamples 48 (samples.flatMap sampleBytes)) else .rejectedPacket .head) = _
    rw [if_pos hbytes, ← hcount, readSamples_flatMap]
  | frameMark seq frame tc rate =>
    refine reads_of_payload (by simp [Laws.Framing.leBytes_length]) ?_ hpacket
    change (match RateCode.ofByte rate.toByte with
      | some r => Instr.frameMark seq (field 32 (leBytes 4 frame.toNat)) tc r
      | none => .rejectedPacket .body) = _
    rw [RateCode.ofByte_toByte, hlong]
  | essence seq frame stream last offset data =>
    have hdata : data.length ≤ 4086 := of_decide_eq_true hform
    refine reads_of_payload ?_ ?_ hpacket
    · simp only [List.length_append, Laws.Framing.leBytes_length, List.length_cons, List.length_nil]
      omega
    · change (match Stream.ofByte stream.toByte with
        | some st => Instr.essence seq (field 32 (leBytes 4 frame.toNat)) st
            ((if last then 1#8 else 0#8 : Byte).getLsbD 0) (field 32 (leBytes 4 offset.toNat)) data
        | none => .rejectedPacket .body) = _
      rw [Stream.ofByte_toByte, hlong, hlong]
      cases last <;> rfl
  | vfLine seq line pixels =>
    have hcount : pixels.length = 960 := by simpa [Instr.wellFormed] using hform
    have hbytes : (pixels.flatMap (fun p => leBytes 4 p.toNat)).length = 3840 := by
      rw [Laws.Framing.flatMap_length _ 4 (fun _ => rfl), hcount]
    refine reads_of_payload ?_ ?_ hpacket
    · simp only [List.length_append, Laws.Framing.leBytes_length, hbytes]; decide
    · change (if (pixels.flatMap (fun p => leBytes 4 p.toNat)).length = 3840 then
        Instr.vfLine seq (field 16 (leBytes 2 line.toNat))
          (readPixels 960 (pixels.flatMap (fun p => leBytes 4 p.toNat))) else .rejectedPacket .body) = _
      rw [if_pos hbytes, ← hcount, readPixels_flatMap, hword]
  | linkReset l' epoch =>
    cases l' with
    | head => exact reads_of_payload (by simp) rfl hpacket
    | body => exact reads_of_payload (by simp) rfl hpacket
  | set seq src tag item value =>
    refine reads_of_command (by simp [Laws.Framing.leBytes_length]) ?_ hpacket
    exact congrArg (Instr.set seq src tag item) (hlong value)
  | select seq src tag table index =>
    refine reads_of_command (by simp [Laws.Framing.leBytes_length]) ?_ hpacket
    exact congrArg (Instr.select seq src tag table) (hword index)
  | write seq src tag n data =>
    have hdata : data.length ≤ 4091 := of_decide_eq_true hform
    refine reads_of_command (by rw [List.length_append, Laws.Framing.leBytes_length]; omega) ?_ hpacket
    exact congrArg (Instr.write seq src tag · data) (hword n)
  | read seq src tag n =>
    refine reads_of_command (by simp [Laws.Framing.leBytes_length]) ?_ hpacket
    exact congrArg (Instr.read seq src tag) (hword n)
  | get | recStart | recStop | mark | zoomPreset | zoomStop | stabOn | stabOff | baselineReset | enterSetup | enterRun
  | lensTableClear | clearHold | clearFault | storeScene | recallScene | recallFactory | storeFixed =>
    exact reads_of_command (by simp) rfl hpacket
  | _ => cases hpacket

/-- Settles O5, by evaluation of the CRC over the written bytes. -/
theorem writtenPacketsRead : Obligations.WrittenPacketsRead := by
  refine ⟨?_, ?_, ?_, ?_, ?_, ?_, ?_, ?_⟩ <;> decide +kernel

end Sys2Proof
end

section
/-! PROOF. The state after reset, and the silence timers of the streams. -/

namespace Sys2Proof.Machine

/-- Settles O6, property by property at the power-on values. -/
theorem soundAtReset : Obligations.SoundAtReset := by
  have hblank : ∀ n : Four, (SceneMemory.blank.scenes.get n) = none := fun n => by cases n <;> rfl
  refine ⟨fun l => ?_, rfl, rfl, ⟨?_, ?_, Nat.zero_le 4⟩, ⟨by decide, fun t => ?_⟩, ?_, ?_, ?_, ?_⟩
  · cases l with
    | head => exact LinkCtl.held_powerOn
    | body => exact LinkCtl.held_powerOn
  · exact ⟨by decide, by decide, by decide⟩
  · exact ⟨by decide, by decide, by decide⟩
  · cases t <;> exact ⟨Nat.zero_le _, le_refl _, fun _ => rfl⟩
  · exact (State.supSound_iff _).2 (Supervision.powerOn_sound _)
  · have hnone : clipRange none := fun k h => by cases h
    exact ⟨by decide, by decide, by decide, by decide, by decide, by decide, hnone, hnone, hnone⟩
  · refine ⟨⟨by decide, by decide, by decide +kernel, by decide, by decide, by decide⟩, ⟨by decide, by decide⟩, by decide,
      by decide, by decide, ?_, ?_, trivial⟩
    · rintro f ⟨⟩
    · intro n c h
      rw [show State.reset.scene.scenes.get n = none from hblank n] at h
      cases h
  · refine ⟨List.Pairwise.nil, ?_, ?_, ?_⟩
    · rintro u ⟨⟩
    · rintro id ⟨⟩
    · rintro id ⟨⟩

/-- Settles O60: each expiry runs its block's own change. -/
theorem silenceTimers : Obligations.SilenceTimers := by
  intro s ms
  have hexpire : ∀ {c : Timer} {f : State → State}, c = .running ms → s.begin.expire c f = f s.begin := by
    rintro _ f rfl
    rfl
  exact ⟨fun h => congrArg _ (hexpire h), fun h => congrArg _ (hexpire h), fun h => congrArg _ (hexpire h),
    fun h => congrArg _ (hexpire h), fun h => congrArg _ (hexpire h)⟩

end Sys2Proof.Machine
end

section
/-! PROOF. The unit store in order (R76 to R80, R82, R88): each of its operations. -/

namespace Sys2Proof.Machine

/-- What a unit of a store holds while the next name is `next`. -/
structure RecordUnit.Held (next : Nat) (u : RecordUnit) : Prop where
  id_lt : u.id < next
  refs : 1 ≤ u.refs
  blocks : u.blocks.length ≤ 256
  head : u.dropped = false → u.blocks ≠ []
  fits : u.main.bytes.length + u.proxy.bytes.length ≤ (u.blocks.length - 1) * 65536

/-- A unit that may be given a block: it needs no head block yet, and holds fewer than 256. -/
structure RecordUnit.Open (next : Nat) (u : RecordUnit) : Prop where
  id_lt : u.id < next
  refs : 1 ≤ u.refs
  blocks : u.blocks.length < 256
  fits : u.main.bytes.length + u.proxy.bytes.length ≤ (u.blocks.length - 1) * 65536

namespace UnitStore

/-- The units in the order of their names. -/
def Named (st : UnitStore) : Prop := (st.units.map RecordUnit.id).Pairwise (· < ·)

theorem Named.unique {st : UnitStore} (h : st.Named) {u v : RecordUnit} (hu : u ∈ st.units) (hv : v ∈ st.units)
    (hid : u.id = v.id) : u = v := by
  have hinj : (st.units.map RecordUnit.id).Nodup := h.imp fun hlt heq => absurd heq (Nat.ne_of_lt hlt)
  exact List.inj_on_of_nodup_map hinj hu hv hid

/-- The unit that a name finds is the one of that name. -/
theorem Named.find_eq {st : UnitStore} (h : st.Named) {u v : RecordUnit} {id : Nat} (hv : st.find id = some v)
    (hu : u ∈ st.units) (hid : u.id = id) : u = v :=
  h.unique hu (List.mem_of_find?_eq_some hv) (hid.trans (find_id hv).symm)

theorem Named.modify {st : UnitStore} (h : st.Named) {id : Nat} {f : RecordUnit → RecordUnit}
    (hf : ∀ u ∈ st.units, u.id = id → (f u).id = u.id) : (st.modify id f).Named := by
  have hids : (st.modify id f).units.map RecordUnit.id = st.units.map RecordUnit.id := by
    rw [UnitStore.modify, List.map_map]
    refine List.map_congr_left fun u hu => ?_
    simp only [Function.comp_apply]
    split
    · next hid => exact hf u hu hid
    · rfl
  rwa [Named, hids]

theorem mem_modify {st : UnitStore} {id : Nat} {f : RecordUnit → RecordUnit} {v : RecordUnit}
    (hv : v ∈ (st.modify id f).units) :
    (∃ u ∈ st.units, u.id = id ∧ v = f u) ∨ (v ∈ st.units ∧ v.id ≠ id) := by
  simp only [UnitStore.modify, List.mem_map] at hv
  obtain ⟨u, hu, rfl⟩ := hv
  by_cases hid : u.id = id
  · exact .inl ⟨u, hu, hid, if_pos hid⟩
  · rw [if_neg hid]
    exact .inr ⟨hu, hid⟩

theorem Named.release {st : UnitStore} (h : st.Named) (id : Nat) : (st.release id).Named := by
  unfold UnitStore.release
  split
  · exact h
  · split
    · exact h.sublist (List.Sublist.map _ List.filter_sublist)
    · exact h.modify fun _ _ _ => rfl

/-- The units left by a release: those there were, one with a holder fewer. -/
theorem mem_release {st : UnitStore} (h : st.Named) {id : Nat} {v : RecordUnit} (hv : v ∈ (st.release id).units) :
    v ∈ st.units ∨ ∃ u ∈ st.units, 2 ≤ u.refs ∧ v = { u with refs := u.refs - 1 } := by
  unfold UnitStore.release at hv
  split at hv
  · exact .inl hv
  · next w hw =>
    split at hv
    · exact .inl (List.mem_of_mem_filter hv)
    · next hrefs =>
      obtain ⟨u, hu, hid, rfl⟩ | ⟨hold, -⟩ := mem_modify hv
      · rw [← h.find_eq hw hu hid] at hrefs
        exact .inr ⟨u, hu, by omega, rfl⟩
      · exact .inl hold

@[simp] theorem release_nextId (st : UnitStore) (id : Nat) : (st.release id).nextId = st.nextId := by
  unfold UnitStore.release
  split
  · rfl
  · split <;> rfl

/-- The units of a store in order, each with its head block and its essence within its blocks. -/
def Sound (st : UnitStore) : Prop := st.Named ∧ ∀ u ∈ st.units, u.Held st.nextId

/-- The same but for one unit, which may be given a block. -/
def SoundBut (id : Nat) (st : UnitStore) : Prop :=
  st.Named ∧ ∀ u ∈ st.units, (u.id ≠ id → u.Held st.nextId) ∧ (u.id = id → u.Open st.nextId)

theorem Sound.modify {st : UnitStore} (h : st.Sound) {id : Nat} {f : RecordUnit → RecordUnit}
    (hf : ∀ u ∈ st.units, u.id = id → (f u).id = u.id ∧ (u.Held st.nextId → (f u).Held st.nextId)) :
    (st.modify id f).Sound := by
  refine ⟨h.1.modify fun u hu hid => (hf u hu hid).1, fun v hv => ?_⟩
  obtain ⟨u, hu, hid, rfl⟩ | ⟨hold, -⟩ := mem_modify hv
  · exact (hf u hu hid).2 (h.2 u hu)
  · exact h.2 v hold

theorem Sound.release {st : UnitStore} (h : st.Sound) (id : Nat) : (st.release id).Sound := by
  refine ⟨h.1.release id, fun v hv => ?_⟩
  rw [release_nextId]
  obtain hold | ⟨u, hu, hrefs, rfl⟩ := mem_release h.1 hv
  · exact h.2 v hold
  · have hheld := h.2 u hu
    exact ⟨hheld.id_lt, Nat.le_sub_of_add_le hrefs, hheld.blocks, hheld.head, hheld.fits⟩

theorem SoundBut.release {st : UnitStore} {k : Nat} (h : st.SoundBut k) (id : Nat) : (st.release id).SoundBut k := by
  refine ⟨h.1.release id, fun v hv => ?_⟩
  rw [release_nextId]
  obtain hold | ⟨u, hu, hrefs, rfl⟩ := mem_release h.1 hv
  · exact h.2 v hold
  · obtain ⟨hother, hopen⟩ := h.2 u hu
    have hone : 1 ≤ u.refs - 1 := Nat.le_sub_of_add_le hrefs
    exact ⟨fun hid => ⟨(hother hid).id_lt, hone, (hother hid).blocks, (hother hid).head, (hother hid).fits⟩,
      fun hid => ⟨(hopen hid).id_lt, hone, (hopen hid).blocks, (hopen hid).fits⟩⟩

theorem Sound.releaseAll {st : UnitStore} (h : st.Sound) (ids : List Nat) : (st.releaseAll ids).Sound := by
  induction ids generalizing st with
  | nil => exact h
  | cons id rest ih => exact ih (h.release id)

@[simp] theorem releaseAll_nextId (st : UnitStore) (ids : List Nat) : (st.releaseAll ids).nextId = st.nextId := by
  induction ids generalizing st with
  | nil => rfl
  | cons id rest ih => exact (ih (st.release id)).trans (st.release_nextId id)

theorem Sound.addRef {st : UnitStore} (h : st.Sound) (id : Nat) : (st.addRef id).Sound :=
  h.modify fun _ _ _ => ⟨rfl, fun hu => ⟨hu.id_lt, Nat.le_add_left _ _, hu.blocks, hu.head, hu.fits⟩⟩

/-- A block given to the open unit makes the store sound. -/
theorem SoundBut.give {st : UnitStore} {id : Nat} (h : st.SoundBut id) (b : Nat) :
    (st.modify id (fun u => { u with blocks := u.blocks ++ [b] })).Sound := by
  refine ⟨h.1.modify fun _ _ _ => rfl, fun v hv => ?_⟩
  obtain ⟨u, hu, hid, rfl⟩ | ⟨hold, hother⟩ := mem_modify hv
  · have hopen := (h.2 u hu).2 hid
    refine ⟨hopen.id_lt, hopen.refs, ?_, fun _ => by simp, hopen.fits.trans ?_⟩
    · simpa using hopen.blocks
    · simp only [List.length_append, List.length_cons, List.length_nil]
      omega
  · exact (h.2 v hold).1 hother

/-- A store that hands out a block keeps its units. -/
theorem takeBlock_units {st st' : UnitStore} {b : Nat} (h : st.takeBlock = some (b, st')) :
    st'.units = st.units ∧ st'.nextId = st.nextId := by
  unfold UnitStore.takeBlock at h
  split at h
  · cases h; exact ⟨rfl, rfl⟩
  · split at h
    · cases h
    · cases h; exact ⟨rfl, rfl⟩

end UnitStore

namespace Recorder

/-- A step that keeps the next name and grows neither the ring nor the assembly. -/
def Shrinks (r r' : Recorder) : Prop :=
  r'.store.nextId = r.store.nextId ∧ (∀ id ∈ r'.ring, id ∈ r.ring) ∧
    (r'.assembly = r.assembly ∨ r'.assembly = none)

theorem Shrinks.refl (r : Recorder) : r.Shrinks r := ⟨rfl, fun _ => id, .inl rfl⟩

theorem Shrinks.trans {r r' r'' : Recorder} (h : r.Shrinks r') (h' : r'.Shrinks r'') : r.Shrinks r'' := by
  obtain ⟨hnext, hring, hasm⟩ := h
  obtain ⟨hnext', hring', hasm'⟩ := h'
  refine ⟨hnext'.trans hnext, fun id hid => hring id (hring' id hid), ?_⟩
  rcases hasm' with heq | hnone
  · rw [heq]; exact hasm
  · exact .inr hnone

/-- The store in order, the ring's units and the one under assembly opened. -/
def Core (r : Recorder) : Prop :=
  r.store.Sound ∧ (∀ id ∈ r.ring, id < r.store.nextId) ∧ ∀ id, r.assembly = some id → id < r.store.nextId

/-- The unit under assembly is outside the ring. -/
def Apart (r : Recorder) : Prop := ∀ id, r.assembly = some id → id ∉ r.ring

theorem Core.shrink {r r' : Recorder} (h : r.Core) (hstore : r'.store.Sound) (hs : r.Shrinks r') : r'.Core := by
  obtain ⟨hnext, hring, hasm⟩ := hs
  refine ⟨hstore, fun id hid => hnext ▸ h.2.1 id (hring id hid), fun id hid => ?_⟩
  rcases hasm with heq | hnone
  · exact hnext ▸ h.2.2 id (heq ▸ hid)
  · rw [hnone] at hid; cases hid

theorem Apart.shrink {r r' : Recorder} (h : r.Apart) (hs : r.Shrinks r') : r'.Apart := by
  obtain ⟨-, hring, hasm⟩ := hs
  intro id hid hin
  rcases hasm with heq | hnone
  · exact h id (heq ▸ hid) (hring id hin)
  · rw [hnone] at hid; cases hid

theorem releaseAssembly_assembly (r : Recorder) : r.releaseAssembly.assembly = none := by
  unfold Recorder.releaseAssembly
  split
  · assumption
  · rfl

/-- The recording's steps of the store keep it in order and shrink the rest. -/
theorem StoreStep.keeps {r r' : Recorder} (h : r.StoreStep r') (hr : r.store.Sound) : r'.store.Sound ∧ r.Shrinks r' := by
  cases h with
  | release n => exact ⟨hr.release n, UnitStore.release_nextId _ _, fun _ => id, .inl rfl⟩
  | releaseAll ids => exact ⟨hr.releaseAll ids, UnitStore.releaseAll_nextId _ _, fun _ => id, .inl rfl⟩
  | addRef n => exact ⟨hr.addRef n, rfl, fun _ => id, .inl rfl⟩
  | releaseAssembly =>
    unfold Recorder.releaseAssembly
    split
    · exact ⟨hr, .refl r⟩
    · exact ⟨hr.release _, UnitStore.release_nextId _ _, fun _ => id, .inr rfl⟩
  | trimRing n =>
    exact ⟨hr.releaseAll _, UnitStore.releaseAll_nextId _ _, fun id hid => List.mem_of_mem_drop hid, .inl rfl⟩
  | clearRing => exact ⟨hr, rfl, fun id hid => absurd hid List.not_mem_nil, .inl rfl⟩
  | describe u v hfind hsame =>
    obtain ⟨hid, hrefs, hblocks, hdropped, hmain, hproxy⟩ := hsame
    refine ⟨hr.modify fun w hw hwid => ?_, rfl, fun _ => id, .inl rfl⟩
    obtain rfl := hr.1.find_eq hfind hw hwid
    exact ⟨hid, fun hheld => ⟨hid ▸ hheld.id_lt, hrefs ▸ hheld.refs, hblocks ▸ hheld.blocks,
      by rw [hdropped, hblocks]; exact hheld.head, by rw [hmain, hproxy, hblocks]; exact hheld.fits⟩⟩

/-- A unit that becomes DROPPED holds no block and no essence. -/
theorem dropUnit_sound {r : Recorder} {id : Nat} (h : r.store.SoundBut id) : (r.dropUnit id).store.Sound := by
  refine ⟨UnitStore.Named.modify (st := { r.store with returned := _ }) h.1 fun _ _ _ => rfl, fun v hv => ?_⟩
  obtain ⟨u, hu, hid, rfl⟩ | ⟨hold, hother⟩ := UnitStore.mem_modify hv
  · have hopen := (h.2 u hu).2 hid
    exact ⟨hopen.id_lt, hopen.refs, Nat.zero_le _, fun hdropped => (by cases hdropped), Nat.zero_le _⟩
  · exact (h.2 v hold).1 hother

/-- A block for an open unit: given, or the unit dropped, after at most one eviction from the ring (R78). -/
theorem allocBlock_sound {r : Recorder} {id : Nat} (h : r.store.SoundBut id) :
    (r.allocBlock id).1.store.Sound ∧ r.Shrinks (r.allocBlock id).1 := by
  have hgive : ∀ {q : Recorder} {b st}, q.store.SoundBut id → q.store.takeBlock = some (b, st) →
      (st.modify id (fun u => { u with blocks := u.blocks ++ [b] })).Sound := by
    intro q b st hq htake
    obtain ⟨hunits, hnext⟩ := UnitStore.takeBlock_units htake
    refine UnitStore.SoundBut.give ?_ b
    rw [UnitStore.SoundBut, UnitStore.Named, hunits, hnext]
    exact hq
  unfold Recorder.allocBlock
  dsimp only
  split
  · next b st htake =>
    exact ⟨hgive h htake, (UnitStore.takeBlock_units htake).2, fun _ hid => hid, .inl rfl⟩
  · split
    · exact ⟨dropUnit_sound h, rfl, fun _ hid => hid, .inl rfl⟩
    · next old rest hring =>
      have hevicted : (r.store.release old).SoundBut id := h.release old
      have hrest : ∀ n ∈ rest, n ∈ r.ring := fun n hn => hring ▸ List.mem_cons_of_mem _ hn
      split
      · next b st htake =>
        exact ⟨hgive (q := { r with store := r.store.release old }) hevicted htake,
          (UnitStore.takeBlock_units htake).2.trans (by simp), hrest, .inl rfl⟩
      · exact ⟨dropUnit_sound hevicted, UnitStore.release_nextId _ _, hrest, .inl rfl⟩

/-- A unit opened is new: neither in the ring nor named before (R81). -/
theorem openUnit_sound {r : Recorder} (f : OpenFrame) (h : r.Core) : (r.openUnit f).Core ∧ (r.openUnit f).Apart := by
  obtain ⟨⟨hnamed, hheld⟩, hring, -⟩ := h
  have hbut : UnitStore.SoundBut r.store.nextId
      { r.store with units := r.store.units ++ [newUnit r.store.nextId f], nextId := r.store.nextId + 1 } := by
    refine ⟨?_, fun u hu => ?_⟩
    · rw [UnitStore.Named, List.map_append, List.pairwise_append]
      refine ⟨hnamed, List.pairwise_singleton _ _, fun a ha b hb => ?_⟩
      obtain ⟨u, hu, rfl⟩ := List.mem_map.mp ha
      obtain rfl : b = r.store.nextId := by simpa [newUnit] using hb
      exact (hheld u hu).id_lt
    · rcases List.mem_append.mp hu with hold | hnew
      · have hu := hheld u hold
        exact ⟨fun _ => ⟨Nat.lt_succ_of_lt hu.id_lt, hu.refs, hu.blocks, hu.head, hu.fits⟩,
          fun hid => absurd hid (Nat.ne_of_lt hu.id_lt)⟩
      · obtain rfl := List.mem_singleton.mp hnew
        exact ⟨fun hid => absurd rfl hid, fun _ =>
          ⟨Nat.lt_succ_self _, le_refl 1, Nat.zero_lt_succ 255, Nat.zero_le _⟩⟩
  obtain ⟨hstore, hnext, hsmaller, hasm⟩ := allocBlock_sound (r := { r with
    store := { r.store with units := r.store.units ++ [newUnit r.store.nextId f], nextId := r.store.nextId + 1 }
    assembly := some r.store.nextId }) hbut
  have hname : ∀ id, (r.openUnit f).assembly = some id → id = r.store.nextId := by
    intro id hid
    rcases hasm with heq | hnone
    · exact (Option.some.inj (heq.symm.trans hid)).symm
    · exact absurd (hnone.symm.trans hid) nofun
  refine ⟨⟨hstore, fun id hid => ?_, fun id hid => ?_⟩, fun id hid hin => ?_⟩
  · exact hnext.symm ▸ Nat.lt_succ_of_lt (hring id (hsmaller id hid))
  · exact hname id hid ▸ hnext.symm ▸ Nat.lt_succ_self _
  · exact absurd (hring id (hsmaller id hin)) (hname id hid ▸ Nat.lt_irrefl _)

/-! ### Essence (R82) -/

theorem setStream_fits {u : RecordUnit} {n : Nat} (st : Stream) (hu : u.Held n) {bs : List Byte}
    (hfit : bs.length ≤ u.space) :
    (u.setStream st { u.stream st with bytes := (u.stream st).bytes ++ bs }).Held n := by
  have hfits := hu.fits
  unfold RecordUnit.space blockBytes at hfit
  cases st with
  | main =>
    refine ⟨hu.id_lt, hu.refs, hu.blocks, hu.head, ?_⟩
    simp only [RecordUnit.setStream, RecordUnit.stream, List.length_append]
    omega
  | proxy =>
    refine ⟨hu.id_lt, hu.refs, hu.blocks, hu.head, ?_⟩
    simp only [RecordUnit.setStream, RecordUnit.stream, List.length_append]
    omega

/-- Two units with the same name, holders and blocks, and the same bytes of essence. -/
def SameHeld (u v : RecordUnit) : Prop :=
  v.id = u.id ∧ v.refs = u.refs ∧ v.blocks = u.blocks ∧ v.dropped = u.dropped ∧ v.main.bytes = u.main.bytes ∧
    v.proxy.bytes = u.proxy.bytes

/-- A change of a stream's count and last flag leaves what the unit holds. -/
theorem setStream_sameHeld (u : RecordUnit) (st : Stream) {v : UnitStream} (h : v.bytes = (u.stream st).bytes) :
    SameHeld u (u.setStream st v) := by
  cases st with
  | main => exact ⟨rfl, rfl, rfl, rfl, h, rfl⟩
  | proxy => exact ⟨rfl, rfl, rfl, rfl, rfl, h⟩

theorem setStream_blocks (u : RecordUnit) (st : Stream) (v : UnitStream) :
    (u.setStream st v).blocks = u.blocks ∧ (u.setStream st v).id = u.id := by
  cases st <;> exact ⟨rfl, rfl⟩

theorem modifyUnit_shrinks (r : Recorder) (id : Nat) (f : RecordUnit → RecordUnit) : r.Shrinks (r.modifyUnit id f) :=
  ⟨rfl, fun _ hid => hid, .inl rfl⟩

theorem modifyUnit_sound {r : Recorder} {id : Nat} {f : RecordUnit → RecordUnit} (h : r.store.Sound)
    (hf : ∀ u, SameHeld u (f u)) : (r.modifyUnit id f).store.Sound := by
  refine h.modify fun u _ _ => ?_
  obtain ⟨hid, hrefs, hblocks, hdropped, hmain, hproxy⟩ := hf u
  exact ⟨hid, fun hheld => ⟨hid ▸ hheld.id_lt, hrefs ▸ hheld.refs, hblocks ▸ hheld.blocks,
    by rw [hdropped, hblocks]; exact hheld.head, by rw [hmain, hproxy, hblocks]; exact hheld.fits⟩⟩

/-- Bytes appended to a stream of a unit. -/
def putBytes (r : Recorder) (id : Nat) (st : Stream) (bs : List Byte) : Recorder :=
  r.modifyUnit id (fun u => u.setStream st { u.stream st with bytes := (u.stream st).bytes ++ bs })

/-- One round of the storing of a packet's bytes into a unit that is there. -/
theorem storeBytes_of_find {r : Recorder} {id : Nat} {u : RecordUnit} (hu : r.store.find id = some u) (st : Stream)
    (fuel done : Nat) (bytes : List Byte) :
    Recorder.storeBytes id st (fuel + 1) r done bytes =
      if bytes.length ≤ u.space then (r.putBytes id st bytes, .all)
      else if unitBlocks ≤ u.blocks.length then (r.putBytes id st (bytes.take u.space), .cut (done + u.space))
      else
        let a := (r.putBytes id st (bytes.take u.space)).allocBlock id
        if a.2 then Recorder.storeBytes id st fuel a.1 (done + u.space) (bytes.drop u.space) else (a.1, .dropped) := by
  conv_lhs => unfold Recorder.storeBytes
  rw [hu]
  dsimp only [putBytes]
  by_cases hfit : bytes.length ≤ u.space
  · rw [if_pos hfit, if_pos hfit]
  · rw [if_neg hfit, if_neg hfit]
    by_cases hfull : unitBlocks ≤ u.blocks.length
    · rw [if_pos hfull, if_pos hfull]
    · rw [if_neg hfull, if_neg hfull]
      generalize Recorder.allocBlock _ _ = a
      obtain ⟨a, had⟩ := a
      cases had <;> rfl

theorem putBytes_sound {r : Recorder} {id : Nat} {u : RecordUnit} (h : r.store.Sound) (hu : r.store.find id = some u)
    (st : Stream) {bs : List Byte} (hfit : bs.length ≤ u.space) : (r.putBytes id st bs).store.Sound := by
  refine h.modify fun w hw hwid => ⟨(setStream_blocks _ _ _).2, fun hheld => ?_⟩
  obtain rfl := h.1.find_eq hu hw hwid
  exact setStream_fits st hheld hfit

/-- A unit of fewer than 256 blocks may be given one more. -/
theorem putBytes_soundBut {r : Recorder} {id : Nat} {u : RecordUnit} (h : r.store.Sound)
    (hu : r.store.find id = some u) (st : Stream) {bs : List Byte} (hfit : bs.length ≤ u.space)
    (hroom : u.blocks.length < 256) : (r.putBytes id st bs).store.SoundBut id := by
  obtain ⟨hnamed, hheld⟩ := putBytes_sound h hu st hfit
  refine ⟨hnamed, fun v hv => ⟨fun _ => hheld v hv, fun hid => ?_⟩⟩
  have hblocks : v.blocks.length < 256 := by
    obtain ⟨w, hw, hwid, rfl⟩ | ⟨-, hother⟩ := UnitStore.mem_modify hv
    · rw [(setStream_blocks _ _ _).1, h.1.find_eq hu hw hwid]
      exact hroom
    · exact absurd hid hother
  exact ⟨(hheld v hv).id_lt, (hheld v hv).refs, hblocks, (hheld v hv).fits⟩

theorem storeBytes_sound (id : Nat) (st : Stream) (fuel : Nat) {r : Recorder} (done : Nat) (bytes : List Byte)
    (h : r.store.Sound) : (Recorder.storeBytes id st fuel r done bytes).1.store.Sound ∧
      r.Shrinks (Recorder.storeBytes id st fuel r done bytes).1 := by
  induction fuel generalizing r done bytes with
  | zero => exact ⟨h, .refl r⟩
  | succ fuel ih =>
    cases hu : r.store.find id with
    | none =>
      unfold Recorder.storeBytes
      rw [hu]
      exact ⟨h, .refl r⟩
    | some u =>
      rw [storeBytes_of_find hu]
      have hcut : (bytes.take u.space).length ≤ u.space := List.length_take_le _ _
      split
      · next hfit => exact ⟨putBytes_sound h hu st hfit, r.modifyUnit_shrinks _ _⟩
      · split
        · exact ⟨putBytes_sound h hu st hcut, r.modifyUnit_shrinks _ _⟩
        · next hroom =>
          obtain ⟨hstore, hshrink⟩ := allocBlock_sound (putBytes_soundBut h hu st hcut (Nat.lt_of_not_le hroom))
          have hgiven := (r.modifyUnit_shrinks _ _).trans hshrink
          dsimp only
          split
          · obtain ⟨hrest, hmore⟩ := ih (done + u.space) (bytes.drop u.space) hstore
            exact ⟨hrest, hgiven.trans hmore⟩
          · exact ⟨hstore, hgiven⟩

theorem takeEssence_sound {r : Recorder} (id : Nat) (st : Stream) (last : Bool) (offset : Nat) (bytes : List Byte)
    (h : r.store.Sound) : (r.takeEssence id st last offset bytes).store.Sound ∧
      r.Shrinks (r.takeEssence id st last offset bytes) := by
  have hflagged : (r.modifyUnit id (fun u => if (u.stream st).count < offset then { u with incomplete := true }
      else u)).store.Sound := modifyUnit_sound h fun u => by
    split
    · exact ⟨rfl, rfl, rfl, rfl, rfl, rfl⟩
    · exact ⟨rfl, rfl, rfl, rfl, rfl, rfl⟩
  obtain ⟨hstored, hshrink⟩ := storeBytes_sound id st (bytes.length + 1) 0 bytes hflagged
  replace hshrink := (r.modifyUnit_shrinks _ _).trans hshrink
  unfold Recorder.takeEssence
  dsimp only
  generalize Recorder.storeBytes _ _ _ _ _ _ = stored at hstored hshrink
  obtain ⟨q, outcome⟩ := stored
  have hfinal : ∀ f : RecordUnit → RecordUnit, (∀ u, SameHeld u (f u)) →
      (q.modifyUnit id f).store.Sound ∧ r.Shrinks (q.modifyUnit id f) := fun f hf =>
    ⟨modifyUnit_sound hstored hf, hshrink.trans (q.modifyUnit_shrinks _ _)⟩
  cases outcome with
  | all => exact hfinal _ fun u => setStream_sameHeld u st rfl
  | cut n => exact hfinal _ fun u => setStream_sameHeld u st rfl
  | dropped => exact ⟨hstored, hshrink⟩

theorem essence_sound {r : Recorder} (frame : Nat) (st : Stream) (last : Bool) (offset : Nat) (bytes : List Byte)
    (h : r.store.Sound) : (r.essence frame st last offset bytes).store.Sound ∧
      r.Shrinks (r.essence frame st last offset bytes) := by
  have hsame : r.store.Sound ∧ r.Shrinks r.discardEssence := ⟨h, rfl, fun _ hid => hid, .inl rfl⟩
  unfold Recorder.essence
  split
  · exact ⟨h, .refl r⟩
  · split
    · exact hsame
    · split
      · exact hsame
      · split
        · exact ⟨h, .refl r⟩
        · split
          · exact hsame
          · split
            · exact hsame
            · exact takeEssence_sound _ st last offset bytes h

theorem essenceMissed_sound {r : Recorder} (n : Nat) (h : r.store.Sound) :
    (r.essenceMissed n).store.Sound ∧ r.Shrinks (r.essenceMissed n) := by
  unfold Recorder.essenceMissed
  split
  · exact ⟨h, .refl r⟩
  · split
    · exact ⟨h, .refl r⟩
    · refine ⟨modifyUnit_sound h fun u => ?_, r.modifyUnit_shrinks _ _⟩
      split
      · exact ⟨rfl, rfl, rfl, rfl, rfl, rfl⟩
      · exact ⟨rfl, rfl, rfl, rfl, rfl, rfl⟩

end Recorder

end Sys2Proof.Machine
end

section
/-! PROOF. The unit store and the clip numbers through every command (R76 to R80, R88, R97, R198). -/

namespace Sys2Proof.Machine

/-- A property of the recorder and scene memory that every operation on them keeps. -/
structure RecordKept (P : State → Prop) : Prop where
  closed : RecordClosed P
  reads : Reads [.recorder, .scene] P
  close : ∀ {u : State} count tracks short, P u → P (u.closeUnit count tracks short)
  opens : ∀ {u : State} m, P u → P { u with recorder := u.recorder.openUnit m }
  advance : ∀ {u : State}, P u → P u.advanceClip
  essence : ∀ {u : State} n frame st last offset bytes, P u → P (u.takeEssence n frame st last offset bytes)
  powerOn : ∀ s : State, P s → P s.powerOn
  areas : ∀ {u : State} {m : SceneMemory}, m.cell = u.scene.cell → m.cellWrite = u.scene.cellWrite →
    m.cellPending = u.scene.cellPending → P u → P { u with scene := m }
  cellEnd : ∀ {u : State} ok, P u → P { u with scene := u.scene.endCellWrite ok }

namespace RecordKept

variable {P : State → Prop} (hP : RecordKept P) {s : State}
include hP

theorem same {u v : State} (hu : P u) (hrecorder : v.recorder = u.recorder) (hscene : v.scene = u.scene) : P v :=
  hP.reads u v (by simp [Block.same, hrecorder, hscene]) hu

theorem linkDown (l : LinkId) (hs : P s) : P (s.linkDown l) := by
  cases l with
  | head =>
    exact hP.same (hP.closed.recorder (r := { s.recorder with recButton := .unknown, markButton := .unknown })
      rfl rfl rfl rfl hs) rfl rfl
  | body => exact hP.same hs rfl rfl

theorem modifyLink (l : LinkId) (f : LinkCtl → LinkCtl) (hs : P s) : P (s.modifyLink l f) :=
  hP.same hs (by simp) (by simp)

/-- The reset of a link, with its report and its LINK_RESET (R169, R175). -/
theorem reset (l : LinkId) (f : LinkCtl → LinkCtl) (hs : P s) :
    P (((s.modifyLink l f).linkDown l).sendLinkReset l) :=
  hP.same (hP.linkDown l (hP.modifyLink l f hs)) (by simp) (by simp)

theorem loseAlignment (l : LinkId) (hs : P s) : P (s.loseAlignment l) := by
  unfold State.loseAlignment
  split
  · exact hs
  · exact hP.modifyLink l _ (hP.reset l _ hs)

theorem failCrc (l : LinkId) (hs : P s) : P (s.failCrc l) := by
  unfold State.failCrc
  dsimp only
  split
  · exact hP.same hs (by simp) (by simp)
  · split
    · exact hP.loseAlignment l (hP.same hs (by simp) (by simp))
    · exact hP.same hs (by simp) (by simp)

theorem takeLinkReset (l : LinkId) (e : Byte) (hs : P s) : P (s.takeLinkReset l e) := by
  have hgood := hP.modifyLink l LinkCtl.goodCrc hs
  unfold State.takeLinkReset
  dsimp only
  split
  · split
    · exact hP.same hgood (by simp) (by simp)
    · exact hP.same hgood (by simp) (by simp)
  · split
    · exact hgood
    · exact hP.same (hP.reset l (fun c => { c with partnerEpoch := some e }.resetChanges) hgood) (by simp) (by simp)

theorem takePanel (rocker : Int) (buttons : Byte) (hs : P s) : P (s.takePanel rocker buttons) :=
  hP.closed.panelRecord hP.advance _ _ (hP.same hs (by simp) (by simp))

theorem loadContents (c : SceneArea) (b : Bool) (hs : P s) : P (s.loadContents c b) := by
  unfold State.loadContents
  exact hP.closed.applyPreRec (hP.same hs rfl rfl)

theorem checkCycle (hs : P s) : P s.checkCycle := by
  refine State.checkCycle_holds (fun u v _ _ hu => hP.same hu rfl rfl) (fun u t hu => hP.same hu rfl rfl)
    (fun u g a hu => ?_) (fun u n hu => hP.same hu (by simp) (by simp)) (fun u g hu => ?_) hs
  · exact State.runActions_holds (fun u hu => hP.same hu (by simp) (by simp))
      (fun u hu => hP.same hu (by simp) (by simp)) (fun _ => hP.closed.placeMark _)
      (fun u hu => hP.same hu rfl rfl) (fun _ => hP.closed.requestStop _) hu
  · cases g with
    | essenceGap => exact hP.closed.recorder rfl rfl rfl rfl hu
    | _ => exact hP.same hu rfl rfl

theorem endStore (ok : Bool) (hs : P s) : P (s.endStore ok) := by
  unfold State.endStore
  split
  · exact hP.closed.notify _ (hP.areas rfl rfl rfl hs)
  · exact hP.closed.notify _ (hP.areas rfl rfl rfl hs)
  · exact hs
  · exact hs

theorem endRecall (hs : P s) : P s.endRecall := by
  unfold State.endRecall
  split
  · exact hP.closed.notify _ (hP.loadContents _ _ (hP.areas rfl rfl rfl hs))
  all_goals exact hs

theorem storeScene (area : Nat) (hs : P s) : P (s.storeScene area).1 := by
  unfold State.storeScene
  split
  · exact hs
  · split
    · exact hs
    · exact hP.areas rfl rfl rfl hs

theorem storeFixed (hs : P s) : P s.storeFixed.1 := by
  unfold State.storeFixed
  split
  · exact hs
  · exact hP.areas rfl rfl rfl hs

theorem recallScene (area : Nat) (hs : P s) : P (s.recallScene area).1 := by
  unfold State.recallScene
  split
  · exact hs
  · split
    · exact hs
    · split
      · exact hs
      · split
        · exact hs
        · exact hP.areas rfl rfl rfl hs

theorem setItem (sp : ItemSpec) (v : Nat) (hs : P s) : P (s.setItem sp v).1 := by
  unfold State.setItem
  split
  · exact hs
  · have hput : P { s with items := sp.put (takenValue s.items sp v) s.items } := hP.same hs rfl rfl
    dsimp only [State.ownerActs]
    split
    · exact hP.same hput rfl rfl
    · split
      · exact hP.closed.applyPreRec hput
      · split
        · exact hP.same hput rfl rfl
        · exact hput

theorem complete {x : SlotId} {kind : RequestKind} {number : Byte} {act : State → State}
    (hact : ∀ u : State, P u → P (act u)) (hs : P s) : P (s.begin.complete x kind number act) := by
  refine State.unlessReset_holds (fun _ hs => ?_) (hP.same hs rfl rfl)
  split
  · exact hact _ hs
  · exact hP.closed.modifySlot x _ hs

/-- Every command that touches the recorder or scene memory keeps the property. -/
theorem exec_holds (i : Instr) (s t : State) (h : exec i s = .next t)
    (htouch : ∃ b ∈ [Block.recorder, .scene], b ∈ touches i) (hs : P s) : P t := by
  have hR := hP.reads
  have hbegin : P s.begin := hP.same hs rfl rfl
  have hout : Block.out ∉ [Block.recorder, .scene] := by decide
  have hcommand : ∀ b ∈ [Block.recorder, .scene], b ∉ commandBlocks := by decide
  have hpacket : ∀ k : InKind, ∀ b ∈ [Block.recorder, .scene], b ∉ packetBlocks k.link := by
    intro k; cases k <;> decide
  have hcrc : ∀ l, P (s.begin.unlessReset (State.failCrc · l)) := fun l =>
    hR.unlessReset hout (fun u => hP.failCrc l) hs
  cases i with
  | powerOnReset => cases h; exact hP.powerOn s hs
  | panel => cases h; exact hR.intake (hpacket .panel) (fun u n => hP.takePanel _ _) hs
  | frameMark =>
    cases h; exact hR.intake (hpacket .frameMark) (fun u n => hP.closed.takeFrameMark hP.close hP.opens _) hs
  | essence =>
    cases h
    split
    · exact hR.intake (hpacket .essence) (fun u n => hP.essence _ _ _ _ _ _) hs
    · exact hcrc _
  | linkReset l e => cases h; exact hR.unlessReset hout (fun u => hP.takeLinkReset l e) hs
  | inboundCrcFailure l => cases h; exact hcrc l
  | lossOfFraming l => cases h; exact hR.unlessReset hout (fun u => hP.loseAlignment l) hs
  | set => cases h; exact hR.command hcommand (fun u => hR.set hcommand fun sp _ => hP.setItem sp _) hs
  | recStart => cases h; exact hR.action hcommand (fun u => hP.closed.recStart hP.advance) hs
  | recStop => cases h; exact hR.action hcommand (fun u => hP.closed.recStop) hs
  | mark => cases h; exact hR.action hcommand (fun u => hP.closed.actionMark) hs
  | storeScene => cases h; exact hR.action hcommand (fun u => hP.storeScene _) hs
  | recallScene => cases h; exact hR.action hcommand (fun u => hP.recallScene _) hs
  | storeFixed => cases h; exact hR.action hcommand (fun u => hP.storeFixed) hs
  | recallFactory =>
    cases h; exact hR.action hcommand (fun u => State.recallFactory_holds hP.loadContents) hs
  | cardRemoval x =>
    cases h
    split
    · exact State.unlessReset_holds (fun _ => hP.closed.takeRemoval x) (hP.closed.modifySlot x _ hbegin)
    · exact hbegin
  | partOpenCompletion x number ok =>
    cases h
    refine hP.complete (fun u hu => ?_) hs
    split
    · exact hP.closed.partOpenOk x hu
    · exact hP.closed.partOpenError x hu
  | unitWriteCompletion x number ok =>
    cases h
    refine hP.complete (fun u hu => ?_) hs
    split
    · exact hP.closed.unitWriteOk x hu
    · exact hP.closed.unitWriteError x hu
  | partCloseCompletion x number ok => cases h; exact hP.complete (fun _ => hP.closed.partCloseEnd x ok) hs
  | requestTimeout x =>
    cases h
    split
    · exact hP.closed.requestError x hbegin
    · exact hbegin
  | markSilenceTimerExpiry => cases h; exact hR.expire hout (fun u => hP.closed.markSilenceExpires hP.close) hs
  | checkCycle => cases h; exact hR.expire hout (fun u => hP.checkCycle) hs
  | storeCompletion | storeTimeout => cases h; exact hP.endStore _ hbegin
  | recallCompletion => cases h; exact hP.endRecall hbegin
  | cellWriteCompletion ok => cases h; exact hP.cellEnd ok hbegin
  | _ =>
    simp [touches, commandBlocks, zoomBlocks, mem_packetBlocks, eq_linkBlock, eq_slotBlock] at htouch

end RecordKept

/-! ### The store in order -/

theorem State.storeSound_iff {s : State} : s.storeSound ↔ s.recorder.Core ∧ s.recorder.Apart := by
  constructor
  · rintro ⟨hnamed, hheld, hring, hasm⟩
    refine ⟨⟨⟨hnamed, fun u hu => ?_⟩, hring, fun id hid => (hasm id hid).1⟩, fun id hid => (hasm id hid).2⟩
    obtain ⟨hid, hrefs, hblocks, hhead, hfits⟩ := hheld u hu
    exact ⟨hid, hrefs, hblocks, hhead, hfits⟩
  · rintro ⟨⟨⟨hnamed, hheld⟩, hring, hasm⟩, hapart⟩
    refine ⟨hnamed, fun u hu => ?_, hring, fun id hid => ⟨hasm id hid, hapart id hid⟩⟩
    exact ⟨(hheld u hu).id_lt, (hheld u hu).refs, (hheld u hu).blocks, (hheld u hu).head, (hheld u hu).fits⟩

theorem core_closed : RecordClosed (fun s => s.recorder.Core) where
  hand := by
    intro u m hu
    simpa using hu
  frame := by
    rintro u v ⟨-, -, -, hstore, hring, hasm, -⟩ hu
    exact hu.shrink (hstore ▸ hu.1) ⟨by rw [hstore], fun id hid => hring ▸ hid, .inl hasm⟩
  store := by
    intro u r hstep hu
    obtain ⟨hstore, hshrink⟩ := hstep.keeps hu.1
    exact hu.shrink hstore hshrink

theorem storeSound_closed : RecordClosed State.storeSound where
  hand := by
    intro u m hu
    simpa [State.storeSound_iff] using hu
  frame := by
    intro u v h hu
    rw [State.storeSound_iff] at hu ⊢
    obtain ⟨-, -, -, hstore, hring, hasm, -⟩ := id h
    exact ⟨core_closed.frame h hu.1, hu.2.shrink ⟨by rw [hstore], fun id hid => hring ▸ hid, .inl hasm⟩⟩
  store := by
    intro u r hstep hu
    rw [State.storeSound_iff] at hu ⊢
    obtain ⟨hstore, hshrink⟩ := hstep.keeps hu.1.1
    exact ⟨hu.1.shrink hstore hshrink, hu.2.shrink hshrink⟩

/-- A unit joins the ring while it is still under assembly. -/
theorem Recorder.Core.ringAppend {r : Recorder} (h : r.Core) (n : Nat) {id : Nat} (hid : (r.store.find id).isSome) :
    (r.ringAppend n id).Core := by
  obtain ⟨hstore, hshrink⟩ := (Recorder.StoreStep.trimRing (r := r) (r.ringCapacity n - 1)).keeps h.1
  obtain ⟨hsound, hring, hasm⟩ := h.shrink hstore hshrink
  obtain ⟨u, hu⟩ := Option.isSome_iff_exists.mp hid
  have hlt : id < r.store.nextId := by
    have hnamed := UnitStore.find_id hu
    exact hnamed ▸ (h.1.2 u (List.mem_of_find?_eq_some hu)).id_lt
  refine ⟨hsound.addRef id, fun k hk => ?_, hasm⟩
  rcases List.mem_append.mp hk with hold | hnew
  · exact hring k hold
  · obtain rfl := List.mem_singleton.mp hnew
    exact hshrink.1.symm ▸ hlt

/-- The close of a unit leaves none under assembly (R85). -/
theorem State.storeSound_closeUnit {s : State} (count : Nat) (tracks : Quad (List Int)) (short : Quad Nat)
    (hs : s.storeSound) : (s.closeUnit count tracks short).storeSound := by
  have hcore := core_closed.closeUnit (fun {u} n id hid hu => hu.ringAppend n hid) count tracks short
    (State.storeSound_iff.mp hs).1
  have hasm : (s.closeUnit count tracks short) = s ∨ (s.closeUnit count tracks short).recorder.assembly = none := by
    unfold State.closeUnit
    split
    · exact .inl rfl
    · exact .inr (Recorder.releaseAssembly_assembly _)
  rcases hasm with hsame | hnone
  · rwa [hsame]
  · exact State.storeSound_iff.mpr ⟨hcore, fun id hid => absurd (hnone.symm.trans hid) nofun⟩

theorem State.storeSound_powerOn (s : State) : s.powerOn.storeSound := by
  obtain ⟨-, -, -, erecorder, -⟩ := s.powerOn_loaded
  obtain ⟨hrecorder, -⟩ := s.loaded_loading
  rw [State.storeSound_iff, erecorder, hrecorder]
  exact ⟨⟨⟨List.Pairwise.nil, fun u hu => absurd hu List.not_mem_nil⟩, fun id hid => absurd hid List.not_mem_nil,
    nofun⟩, nofun⟩

theorem storeSound_kept : RecordKept State.storeSound where
  closed := storeSound_closed
  reads := by
    intro s t h hs
    have hrecorder : t.recorder = s.recorder := h .recorder (by simp)
    rw [State.storeSound_iff] at hs ⊢
    rwa [hrecorder]
  close := fun count tracks short => State.storeSound_closeUnit count tracks short
  opens := fun m hu => State.storeSound_iff.mpr (Recorder.openUnit_sound m (State.storeSound_iff.mp hu).1)
  advance := by
    intro u hu
    exact hu
  essence := by
    intro u n frame st last offset bytes hu
    rw [State.storeSound_iff] at hu ⊢
    obtain ⟨hmissed, hshrink⟩ := Recorder.essenceMissed_sound n hu.1.1
    obtain ⟨hstore, hmore⟩ := Recorder.essence_sound frame st last offset bytes hmissed
    exact ⟨hu.1.shrink hstore (hshrink.trans hmore), hu.2.shrink (hshrink.trans hmore)⟩
  powerOn := fun s _ => s.storeSound_powerOn
  areas := fun _ _ _ hu => hu
  cellEnd := fun _ hu => hu

/-! ### What the taking of essence changes of the recorder (R78, R82) -/

/-- Away from the store, the ring and their counts the two recorders are the same. -/
def Recorder.EssenceOnly (r r' : Recorder) : Prop :=
  r' = { r with
    store := r'.store, ring := r'.ring, ringEvicted := r'.ringEvicted, droppedUnits := r'.droppedUnits
    essenceDiscarded := r'.essenceDiscarded }

namespace Recorder.EssenceOnly

theorem trans {r r' r'' : Recorder} (h : r.EssenceOnly r') (h' : r'.EssenceOnly r'') : r.EssenceOnly r'' := by
  unfold Recorder.EssenceOnly at h h' ⊢
  conv_lhs => rw [h']
  conv_lhs => rw [h]

theorem clipCounter {r r' : Recorder} (h : r.EssenceOnly r') : r'.clipCounter = r.clipCounter := by
  unfold Recorder.EssenceOnly at h
  rw [h]

theorem modifyUnit (r : Recorder) (id : Nat) (f : RecordUnit → RecordUnit) : r.EssenceOnly (r.modifyUnit id f) := rfl

theorem allocBlock (r : Recorder) (id : Nat) : r.EssenceOnly (r.allocBlock id).1 := by
  unfold Recorder.allocBlock
  dsimp only
  split
  · rfl
  · split
    · rfl
    · split <;> rfl

theorem storeBytes (id : Nat) (st : Stream) (fuel : Nat) (r : Recorder) (done : Nat) (bytes : List Byte) :
    r.EssenceOnly (Recorder.storeBytes id st fuel r done bytes).1 := by
  induction fuel generalizing r done bytes with
  | zero => rfl
  | succ fuel ih =>
    cases hu : r.store.find id with
    | none =>
      unfold Recorder.storeBytes
      rw [hu]
      rfl
    | some u =>
      rw [storeBytes_of_find hu]
      have hput : r.EssenceOnly ((r.putBytes id st (bytes.take u.space)).allocBlock id).1 :=
        (EssenceOnly.modifyUnit r _ _).trans (allocBlock _ id)
      split
      · rfl
      · split
        · rfl
        · dsimp only
          split
          · exact hput.trans (ih _ _ _)
          · exact hput

theorem essence (r : Recorder) (frame : Nat) (st : Stream) (last : Bool) (offset : Nat) (bytes : List Byte) :
    r.EssenceOnly (r.essence frame st last offset bytes) := by
  have htake : ∀ id, r.EssenceOnly (r.takeEssence id st last offset bytes) := by
    intro id
    have hstored := (EssenceOnly.modifyUnit r id (fun u =>
      if (u.stream st).count < offset then { u with incomplete := true } else u)).trans
        (storeBytes id st (bytes.length + 1) _ 0 bytes)
    unfold Recorder.takeEssence
    dsimp only
    generalize Recorder.storeBytes _ _ _ _ _ _ = stored at hstored
    obtain ⟨q, outcome⟩ := stored
    cases outcome with
    | all => exact hstored.trans (EssenceOnly.modifyUnit q _ _)
    | cut n => exact hstored.trans (EssenceOnly.modifyUnit q _ _)
    | dropped => exact hstored
  unfold Recorder.essence
  split
  · rfl
  · split
    · rfl
    · split
      · rfl
      · split
        · rfl
        · split
          · rfl
          · split
            · rfl
            · exact htake _

theorem essenceMissed (r : Recorder) (n : Nat) : r.EssenceOnly (r.essenceMissed n) := by
  unfold Recorder.essenceMissed
  split
  · rfl
  · split <;> rfl

end Recorder.EssenceOnly

/-! ### The clip numbers -/

/-- The clip numbers in their range: the counter, the cell's and those on their way to it. -/
def State.clipSound (s : State) : Prop :=
  s.recorder.clipCounter ≤ 9999 ∧ clipRange s.scene.cell ∧ clipRange s.scene.cellWrite ∧ clipRange s.scene.cellPending

theorem nextClip_le {n : Nat} (h : n ≤ 9999) : nextClip n ≤ 9999 := by
  unfold nextClip
  split <;> omega

theorem clipRange_none : clipRange none := nofun

theorem clipRange_some {n : Nat} (h : n ≤ 9999) : clipRange (some n) := by
  rintro k ⟨⟩
  exact h

/-- Clip numbers are those they were while the counter and scene memory stand. -/
theorem State.clipSound_of_counter {s t : State} (hs : s.clipSound)
    (hcounter : t.recorder.clipCounter = s.recorder.clipCounter) (hscene : t.scene = s.scene) : t.clipSound := by
  rwa [State.clipSound, hcounter, hscene]

theorem clipSound_closed : RecordClosed State.clipSound where
  hand := fun m hu => State.clipSound_of_counter hu (by simp) (by simp)
  frame := fun ⟨_, _, _, _, _, _, hclip, hscene⟩ hu => State.clipSound_of_counter hu hclip hscene
  store := by
    intro u r hstep hu
    refine State.clipSound_of_counter hu ?_ rfl
    cases hstep with
    | releaseAssembly =>
      unfold Recorder.releaseAssembly
      split <;> rfl
    | _ => rfl

theorem State.clipSound_powerOn {s : State} (hs : s.clipSound) : s.powerOn.clipSound := by
  obtain ⟨-, -, -, erecorder, -⟩ := s.powerOn_loaded
  obtain ⟨hrecorder, -⟩ := s.loaded_loading
  obtain ⟨-, hscene, -, -⟩ := s.powerOn_keeps
  rw [State.clipSound, hscene, erecorder, hrecorder]
  refine ⟨?_, hs.2.1, clipRange_none, clipRange_none⟩
  dsimp only
  cases hcell : s.scene.cell with
  | none => exact Nat.zero_le _
  | some n => exact hs.2.1 n hcell

theorem State.clipSound_advanceClip {s : State} (hs : s.clipSound) : s.advanceClip.clipSound := by
  obtain ⟨hcounter, hcell, hwrite, hpending⟩ := hs
  have hnext := nextClip_le hcounter
  unfold State.advanceClip SceneMemory.handClip
  cases hw : s.scene.cellWrite with
  | none => exact ⟨hnext, clipRange_none, clipRange_some hnext, hpending⟩
  | some n => exact ⟨hnext, hcell, clipRange_some (hwrite n hw), clipRange_some hnext⟩

theorem State.clipSound_cellEnd {s : State} (ok : Bool) (hs : s.clipSound) :
    { s with scene := s.scene.endCellWrite ok }.clipSound := by
  obtain ⟨hcounter, hcell, hwrite, hpending⟩ := hs
  unfold State.clipSound SceneMemory.endCellWrite
  cases hw : s.scene.cellWrite with
  | none => exact ⟨hcounter, hcell, hwrite, hpending⟩
  | some n =>
    cases hp : s.scene.cellPending with
    | some p => exact ⟨hcounter, clipRange_none, clipRange_some (hpending p hp), clipRange_none⟩
    | none =>
      refine ⟨hcounter, ?_, clipRange_none, clipRange_none⟩
      cases ok with
      | true => exact clipRange_some (hwrite n hw)
      | false => exact clipRange_none

theorem clipSound_kept : RecordKept State.clipSound where
  closed := clipSound_closed
  reads := by
    intro s t h hs
    have hrecorder : t.recorder = s.recorder := h .recorder (by simp)
    exact State.clipSound_of_counter hs (by rw [hrecorder]) (h .scene (by simp))
  close := fun count tracks short => clipSound_closed.closeUnit
    (fun _ _ _ hu => State.clipSound_of_counter hu rfl rfl) count tracks short
  opens := fun m hu => State.clipSound_of_counter hu
    (Recorder.EssenceOnly.allocBlock _ _).clipCounter rfl
  advance := State.clipSound_advanceClip
  essence := by
    intro u n frame st last offset bytes hu
    have hkept := (Recorder.EssenceOnly.essenceMissed u.recorder n).trans
      (Recorder.EssenceOnly.essence _ frame st last offset bytes)
    exact State.clipSound_of_counter hu hkept.clipCounter rfl
  powerOn := fun _ => State.clipSound_powerOn
  areas := by
    intro u m hcell hwrite hpending hu
    simpa [State.clipSound, hcell, hwrite, hpending] using hu
  cellEnd := State.clipSound_cellEnd

end Sys2Proof.Machine
end

section
/-! PROOF. The counts that wrap (R65, R129, R133, R155). -/

namespace Sys2Proof.Machine

/-! ### The count of check cycles -/

def State.cycleSound (s : State) : Prop := s.sup.cycle < 840

theorem State.cycleSound_of_sup {s t : State} (h : t.sup.cycle = s.sup.cycle) (hs : s.cycleSound) : t.cycleSound := by
  rwa [State.cycleSound, h]

theorem cycleSound_reads : Reads [.sup] State.cycleSound := by
  intro s t h
  exact State.cycleSound_of_sup (congrArg Supervision.cycle (h .sup (by simp)))

theorem cycleSound_exec (i : Instr) (s t : State) (h : exec i s = .next t)
    (htouch : ∃ b ∈ [Block.sup], b ∈ touches i) (hs : s.cycleSound) : t.cycleSound := by
  have hP := cycleSound_reads
  have hout : Block.out ∉ [Block.sup] := by decide
  have hcommand : ∀ b ∈ [Block.sup], b ∉ commandBlocks := by decide
  cases i with
  | powerOnReset =>
    cases h
    obtain ⟨-, -, -, -, -, esup, -⟩ := s.powerOn_loaded
    obtain ⟨-, -, -, -, hsup⟩ := s.loaded_loading
    rw [State.cycleSound, esup, hsup]
    exact Nat.zero_lt_succ 839
  | powerOnResetEnd =>
    cases h
    have hstart : ({ s.begin with inReset := false }.startTimers).cycleSound := hs
    unfold State.powerOnEnd
    split
    · exact State.cycleSound_of_sup (by simp) hstart
    · exact hs
  | write =>
    cases h
    split
    · refine hP.command hcommand (fun u => hP.write hcommand fun t _ _ _ hu => ?_) hs
      cases t <;> exact hu
    · exact hP.unlessReset hout (fun u => State.cycleSound_of_sup (by simp)) hs
  | clearFault =>
    cases h
    exact hP.action hcommand (fun u hu => State.clearFault_holds (P := State.cycleSound)
      (fun u v _ hcycle => State.cycleSound_of_sup hcycle) (fun u g => State.cycleSound_of_sup (by simp))
      (fun u gs hu => hu) _ _ _ hu) hs
  | checkCycle =>
    cases h
    refine hP.expire hout (fun u => State.checkCycle_holds (fun u v _ hcycle => State.cycleSound_of_sup hcycle)
      (fun u t _ => Nat.mod_lt _ (by decide)) (fun u g a => State.cycleSound_of_sup (by simp))
      (fun u n => State.cycleSound_of_sup (by simp)) (fun u g => State.cycleSound_of_sup (by simp))) hs
  | _ =>
    simp [touches, recordingBlocks, commandBlocks, zoomBlocks, loadBlocks, mem_packetBlocks, mem_linkResetBlocks,
      eq_linkBlock, eq_slotBlock] at htouch

/-! ### The viewfinder's lines, stripes and blinks -/

def State.linesSound (s : State) : Prop := s.vf.expected < 540 ∧ s.vf.stripe < 8 ∧ s.vf.blink < 32

theorem State.linesSound_of_vf {s t : State} (hexpected : t.vf.expected = s.vf.expected)
    (hstripe : t.vf.stripe = s.vf.stripe) (hblink : t.vf.blink = s.vf.blink) (hs : s.linesSound) : t.linesSound := by
  rwa [State.linesSound, hexpected, hstripe, hblink]

theorem State.linesSound_same {s t : State} (h : t.vf = s.vf) : s.linesSound → t.linesSound :=
  State.linesSound_of_vf (by rw [h]) (by rw [h]) (by rw [h])

theorem linesSound_reads : Reads [.vf] State.linesSound := fun _ _ h => State.linesSound_same (h .vf (by simp))

theorem nextLine_lt (n : Nat) : nextLine n < 540 := by
  unfold nextLine
  split
  · assumption
  · decide

/-- A line sent, its frame begun at line 0, leaves the counts in range. -/
theorem State.linesSound_sendLine {s : State} (n : Nat) (pixels : List Pixel) (hs : s.linesSound) :
    (s.sendLine n pixels).linesSound := by
  obtain ⟨hexpected, hstripe, hblink⟩ := hs
  unfold State.sendLine
  dsimp only
  split
  · exact ⟨hexpected, Nat.mod_lt _ (by decide), Nat.mod_lt _ (by decide)⟩
  · exact ⟨hexpected, hstripe, hblink⟩

theorem State.linesSound_ownLine {s : State} (n : Nat) (pixels : List Pixel) (hs : s.linesSound) :
    (s.ownLine n pixels).linesSound :=
  ⟨nextLine_lt n, (State.linesSound_sendLine n pixels hs).2⟩

theorem State.linesSound_replaceLines {s : State} (n count : Nat) (hs : s.linesSound) :
    (s.replaceLines n count).linesSound := by
  induction count generalizing s n with
  | zero => exact hs
  | succ count ih => exact ih (n + 1) ⟨nextLine_lt n, (State.linesSound_sendLine n _ hs).2⟩

theorem State.linesSound_takeLine {s : State} (n : Nat) (pixels : List Pixel) (hs : s.linesSound) :
    (s.takeLine n pixels).linesSound := by
  unfold State.takeLine
  dsimp only
  split
  · exact hs
  split
  · exact State.linesSound_ownLine n pixels hs
  split
  · exact State.linesSound_ownLine n pixels (State.linesSound_replaceLines _ _ hs)
  split
  · exact State.linesSound_ownLine 0 pixels (State.linesSound_replaceLines _ _ hs)
  · exact hs

theorem State.linesSound_lineSilenceExpires {s : State} (hs : s.linesSound) : s.lineSilenceExpires.linesSound := by
  unfold State.lineSilenceExpires
  dsimp only
  split
  · exact hs
  · exact State.linesSound_replaceLines _ _ hs

theorem State.linesSound_loadContents {s : State} (c : SceneArea) (b : Bool) (hs : s.linesSound) :
    (s.loadContents c b).linesSound := by
  obtain ⟨-, -, hvf, -⟩ := s.loadContents_blocks c b
  exact State.linesSound_of_vf (by rw [hvf]) (by rw [hvf]) (by rw [hvf]) hs

theorem linesSound_exec (i : Instr) (s t : State) (h : exec i s = .next t)
    (htouch : ∃ b ∈ [Block.vf], b ∈ touches i) (hs : s.linesSound) : t.linesSound := by
  have hP := linesSound_reads
  have hout : Block.out ∉ [Block.vf] := by decide
  have hcommand : ∀ b ∈ [Block.vf], b ∉ commandBlocks := by decide
  cases i with
  | powerOnReset =>
    cases h
    obtain ⟨-, -, -, -, evf, -⟩ := s.powerOn_loaded
    obtain ⟨-, -, hvf, -, -⟩ := s.loaded_loading
    rw [State.linesSound, evf, hvf]
    exact ⟨Nat.zero_lt_succ 539, Nat.zero_lt_succ 7, Nat.lt_succ_self 31⟩
  | powerOnResetEnd =>
    cases h
    have hstart : ({ s.begin with inReset := false }.startTimers).linesSound := hs
    unfold State.powerOnEnd
    split
    · exact State.linesSound_same (by simp) hstart
    · exact hs
  | vfLine =>
    cases h
    split
    · exact hP.intake (by decide) (fun u n => State.linesSound_takeLine _ _) hs
    · exact hP.unlessReset hout (fun u => State.linesSound_same (by simp)) hs
  | write =>
    cases h
    split
    · refine hP.command hcommand (fun u => hP.write hcommand fun t _ _ _ hu => ?_) hs
      cases t <;> exact hu
    · exact hP.unlessReset hout (fun u => State.linesSound_same (by simp)) hs
  | clearFault =>
    cases h
    exact hP.action hcommand (fun u hu => State.clearFault_holds (P := State.linesSound) (fun u v _ _ hu => hu)
      (fun u g => State.linesSound_same (by simp)) (fun u gs hu => hu) _ _ _ hu) hs
  | recallFactory =>
    cases h
    exact hP.action hcommand (fun u => State.recallFactory_holds fun c b => State.linesSound_loadContents c b) hs
  | recallCompletion =>
    cases h
    exact State.endRecall_holds (fun u m hu => hu) (fun u c b => State.linesSound_loadContents c b)
      (fun u n => State.linesSound_same (by simp)) (hP.begin hout hs)
  | lineSilenceTimerExpiry => cases h; exact hP.expire hout (fun u => State.linesSound_lineSilenceExpires) hs
  | checkCycle =>
    cases h
    refine hP.expire hout (fun u => State.checkCycle_holds (fun u v _ _ hu => hu) (fun u t hu => hu)
      (fun u g a => State.runActions_holds (fun u => State.linesSound_same (by simp))
        (fun u => State.linesSound_same (by simp)) (fun u => State.linesSound_same (by simp)) (fun u hu => hu)
        (fun u => State.linesSound_same (by simp)))
      (fun u n => State.linesSound_same (by simp)) (fun u g => State.linesSound_same (by simp))) hs
  | _ =>
    simp [touches, recordingBlocks, commandBlocks, zoomBlocks, mem_packetBlocks, mem_linkResetBlocks,
      eq_linkBlock, eq_slotBlock] at htouch

/-! ### The meter period -/

def State.periodSound (s : State) : Prop := s.audio.period < 10

theorem State.periodSound_of_audio {s t : State} (h : t.audio.period = s.audio.period) (hs : s.periodSound) :
    t.periodSound := by
  rwa [State.periodSound, h]

theorem State.periodSound_same {s t : State} (h : t.audio = s.audio) : s.periodSound → t.periodSound :=
  State.periodSound_of_audio (by rw [h])

theorem periodSound_reads : Reads [.audio] State.periodSound := fun _ _ h => State.periodSound_same (h .audio (by simp))

theorem Audio.Trimmed.period {a b : Audio} (h : a.Trimmed b) : b.period = a.period := by
  rcases h with rfl | ⟨n, rfl⟩
  · rfl
  · rfl

theorem Audio.advancePeriod_lt (a : Audio) : a.advancePeriod.period < 10 := by
  unfold Audio.advancePeriod
  split
  · assumption
  · exact Nat.zero_lt_succ 9

theorem State.periodSound_takeAudio (s : State) (n : Nat) (xs : List (Quad Int)) : (s.takeAudio n xs).periodSound := by
  have hprocess : ∀ it a, (Audio.process it a xs).1.period < 10 := fun _ _ => Audio.advancePeriod_lt _
  exact hprocess _ _

theorem periodSound_exec (i : Instr) (s t : State) (h : exec i s = .next t)
    (htouch : ∃ b ∈ [Block.audio], b ∈ touches i) (hs : s.periodSound) : t.periodSound := by
  have hP := periodSound_reads
  have hout : Block.out ∉ [Block.audio] := by decide
  have hcommand : ∀ b ∈ [Block.audio], b ∉ commandBlocks := by decide
  have hload : ∀ (u : State) c b, u.periodSound → (u.loadContents c b).periodSound := by
    intro u c b
    obtain ⟨-, -, -, -, haudio⟩ := u.loadContents_blocks c b
    exact State.periodSound_of_audio (by rw [haudio]; rfl)
  cases i with
  | powerOnReset =>
    cases h
    obtain ⟨-, -, eaudio, -⟩ := s.powerOn_loaded
    obtain ⟨-, -, -, haudio, -⟩ := s.loaded_loading
    rw [State.periodSound, eaudio, haudio]
    exact Nat.zero_lt_succ 9
  | powerOnResetEnd =>
    cases h
    have hstart : ({ s.begin with inReset := false }.startTimers).periodSound := hs
    unfold State.powerOnEnd
    split
    · exact State.periodSound_same (by simp) hstart
    · exact hs
  | audioIn =>
    cases h
    split
    · exact hP.intake (by decide) (fun u n _ => u.periodSound_takeAudio n _) hs
    · exact hP.unlessReset hout (fun u => State.periodSound_same (by simp)) hs
  | frameMark =>
    cases h
    exact hP.intake (by decide) (fun u n => State.periodSound_of_audio (u.takeFrameMark_trims _).period) hs
  | set =>
    cases h
    refine hP.command hcommand (fun u => hP.set hcommand fun sp _ hu => ?_) hs
    unfold State.setItem
    split
    · exact hu
    · dsimp only [State.ownerActs]
      split
      · exact hu
      · split
        · exact State.periodSound_same (by simp) hu
        · split
          · exact hu
          · exact hu
  | write =>
    cases h
    split
    · refine hP.command hcommand (fun u => hP.write hcommand fun t _ _ _ hu => ?_) hs
      cases t <;> exact hu
    · exact hP.unlessReset hout (fun u => State.periodSound_same (by simp)) hs
  | recallFactory => cases h; exact hP.action hcommand (fun u => State.recallFactory_holds (hload u)) hs
  | recallCompletion =>
    cases h
    exact State.endRecall_holds (fun u m hu => hu) hload (fun u n => State.periodSound_same (by simp))
      (hP.begin hout hs)
  | audioSilenceTimerExpiry => cases h; exact hP.expire hout (fun u hu => hu) hs
  | meterLapseTimerExpiry => cases h; exact hP.expire hout (fun u _ => Nat.zero_lt_succ 9) hs
  | markSilenceTimerExpiry =>
    cases h
    exact hP.expire hout (fun u => State.periodSound_of_audio u.markSilenceExpires_trims.period) hs
  | _ =>
    simp [touches, recordingBlocks, commandBlocks, zoomBlocks, mem_packetBlocks, mem_linkResetBlocks,
      eq_linkBlock, eq_slotBlock] at htouch

/-- Settles O12: the counts block by block, the clip numbers and the store through the recording's operations. -/
theorem countsStayInRange : Obligations.CountsStayInRange := by
  intro s t hstep
  constructor
  · rintro ⟨hcycle, hexpected, hstripe, hblink, hperiod, hclip, hcell, hwrite, hpending⟩
    have hsup := step_keeps cycleSound_reads (by simp) cycleSound_exec hstep hcycle
    obtain ⟨hexpected', hstripe', hblink'⟩ :=
      step_keeps linesSound_reads (by simp) linesSound_exec hstep ⟨hexpected, hstripe, hblink⟩
    have haudio := step_keeps periodSound_reads (by simp) periodSound_exec hstep hperiod
    have hclips := step_keeps clipSound_kept.reads (by simp) clipSound_kept.exec_holds hstep
      ⟨hclip, hcell, hwrite, hpending⟩
    exact ⟨hsup, hexpected', hstripe', hblink', haudio, hclips⟩
  · exact step_keeps storeSound_kept.reads (by simp) storeSound_kept.exec_holds hstep

end Sys2Proof.Machine
end

section
/-! PROOF. The sizes of the tables (9.4, R188), block by block. -/

namespace Sys2Proof.Machine

/-! ### Entries replaced -/

theorem takeAll_length {α : Type} (f : List Byte → α × Bool) (bs : List (List Byte)) :
    (takeAll f bs).1.length = bs.length := by
  simp [takeAll]

/-- Entries that fit a table of fixed size leave its size. -/
theorem replaceAt_takeAll_length {α : Type} {xs : List α} {size c n : Nat} (hxs : xs.length = size)
    (hfits : c + n ≤ size) (f : List Byte → α × Bool) (width : Nat) (data : List Byte) :
    (replaceAt xs c (takeAll f (pieces width n data)).1).length = size := by
  have hlen : (takeAll f (pieces width n data)).1.length = n := by rw [takeAll_length, pieces_length]
  rw [replaceAt_length _ _ _ (by rw [hlen, hxs]; exact hfits), hxs]

/-- Entries that fit a growing table leave no hole and pass no capacity. -/
theorem replaceAt_takeAll_le {α : Type} {xs : List α} {size c n : Nat} (hxs : xs.length ≤ size)
    (hfits : c + n ≤ size) (hhole : c ≤ xs.length) (f : List Byte → α × Bool) (width : Nat) (data : List Byte) :
    (replaceAt xs c (takeAll f (pieces width n data)).1).length ≤ size := by
  have hlen : (takeAll f (pieces width n data)).1.length = n := by rw [takeAll_length, pieces_length]
  simp only [replaceAt, List.length_append, List.length_take, List.length_drop, hlen]
  omega

theorem State.writeFits_capacity {s : State} {t : TableId} {c n : Nat} (h : s.writeFits t c n = true) :
    c + n ≤ t.capacity := by
  unfold State.writeFits at h
  exact of_decide_eq_true (Bool.and_eq_true_iff.mp h).1

/-! ### The zoom drive's tables -/

def Zoom.sized (z : Zoom) : Prop := z.lens.length ≤ 32 ∧ z.curve.length = 9 ∧ z.presets.length = 4

def State.zoomSized (s : State) : Prop := s.zoom.sized

theorem State.zoomSized_of_optics {s t : State} (h : t.zoom.optics = s.zoom.optics) (hs : s.zoomSized) : t.zoomSized := by
  simp only [Zoom.optics, Prod.mk.injEq] at h
  obtain ⟨-, hlens, hcurve, hpresets⟩ := h
  rwa [State.zoomSized, Zoom.sized, hlens, hcurve, hpresets]

theorem zoomSized_linkFree : LinkFree State.zoomSized := by
  rintro u v ⟨⟨a, b, r, hzoom⟩, -⟩ hu
  exact State.zoomSized_of_optics (by rw [hzoom]; rfl) hu

theorem zoomSized_reads : Reads [.zoom] State.zoomSized := by
  intro s t h
  have hzoom : t.zoom = s.zoom := h .zoom (by simp)
  exact State.zoomSized_of_optics (by rw [hzoom])

theorem State.zoomSized_arbitrate {s t : State} (h : t.zoom.optics = s.zoom.optics) (hs : s.zoomSized) :
    t.arbitrate.zoomSized :=
  State.zoomSized_of_optics (t.arbitrate_optics.1.trans h) hs

theorem State.panelZoom_optics (s : State) (d : Int) (a b : Bool) : (s.panelZoom d a b).zoom.optics = s.zoom.optics := by
  refine (State.arbitrate_optics _).1.trans ?_
  rw [State.presetEdge_optics, State.presetEdge_optics, State.panelRocker_optics]
  rfl

theorem State.takeReport_optics (s : State) (r : LensReport) : (s.takeReport r).zoom.optics = s.zoom.optics := by
  refine (State.arbitrate_optics _).1.trans ?_
  rw [State.stopArises_optics, State.stepMove_optics]
  rfl

theorem State.faultZoomStop_optics (s : State) (g : Group) : (s.faultZoomStop g).zoom.optics = s.zoom.optics := by
  refine (State.arbitrate_optics _).1.trans ?_
  rw [State.stopArises_optics]
  rfl

theorem State.releaseStop_optics (s : State) (g : Group) : (s.releaseStop g).zoom.optics = s.zoom.optics :=
  (State.arbitrate_optics _).1

theorem State.zoomSized_writeTable {s : State} {t : TableId} {c n : Nat} (hs : s.zoomSized)
    (hfits : s.writeFits t c n = true) (data : List Byte) :
    (s.writeTable t c (pieces t.entryBytes n data)).1.zoomSized := by
  obtain ⟨hlens, hcurve, hpresets⟩ := hs
  have hcapacity := State.writeFits_capacity hfits
  cases t with
  | lens =>
    have hhole : c ≤ s.zoom.lens.length := of_decide_eq_true (Bool.and_eq_true_iff.mp hfits).2
    exact ⟨replaceAt_takeAll_le hlens hcapacity hhole _ _ _, hcurve, hpresets⟩
  | speedCurve => exact ⟨hlens, replaceAt_takeAll_length hcurve hcapacity _ _ _, hpresets⟩
  | presets => exact ⟨hlens, hcurve, replaceAt_takeAll_length hpresets hcapacity _ _ _⟩
  | _ => exact ⟨hlens, hcurve, hpresets⟩

theorem State.zoomSized_loadContents {s : State} {c : SceneArea} (hc : c.sized) (b : Bool) (hs : s.zoomSized) :
    (s.loadContents c b).zoomSized := by
  obtain ⟨-, hzoom, -⟩ := s.loadContents_blocks c b
  rw [State.zoomSized, hzoom]
  exact ⟨hs.1, hs.2.1, hc.1⟩

theorem State.zoomSized_enterRun {s : State} (hs : s.zoomSized) : s.enterRun.1.zoomSized := by
  unfold State.enterRun
  split
  · exact hs
  · split
    · exact hs
    · exact hs

theorem State.zoomSized_enterSetup {s : State} (hs : s.zoomSized) : s.enterSetup.1.zoomSized := by
  have hended : (s.endPending .cancelled).setupStabOff.zoomSized := by
    refine State.zoomSized_of_optics ?_ (State.zoomSized_of_optics (s.endPending_optics .cancelled) hs)
    simp
  unfold State.enterSetup
  split
  · exact hs
  · split
    · exact hs
    · exact hended

theorem State.zoomSized_lensTableClear {s : State} (hs : s.zoomSized) : s.lensTableClear.1.zoomSized := by
  unfold State.lensTableClear
  split
  · exact hs
  · exact ⟨Nat.zero_le 32, hs.2⟩

/-- What a fixed area and a scene area of the tables' sizes load at power-on. -/
theorem State.zoomSized_powerOn {s : State} (hs : s.tablesSound) : s.powerOn.zoomSized := by
  obtain ⟨-, -, -, -, -, hfixed, hscenes, -⟩ := hs
  obtain ⟨-, ezoom, -⟩ := s.powerOn_loaded
  have hf := s.loaded_fixed
  have hsc := s.loaded_scene0
  have htables : s.loaded.zoom.lens.length ≤ 32 ∧ s.loaded.zoom.curve.length = 9 := by
    split at hf
    · rw [hf.1, hf.2.1]
      decide
    · next f hvalid =>
      have hsize := hfixed f hvalid
      rw [← hf] at hsize
      exact ⟨hsize.1, hsize.2.1⟩
  have hpresets : s.loaded.zoom.presets.length = 4 := by
    split at hsc
    · rw [hsc.2.1]
      rfl
    · next c hvalid =>
      rw [hsc.2.1]
      exact (hscenes .i1 c hvalid).1
  rw [State.zoomSized, ezoom]
  exact ⟨htables.1, htables.2, hpresets⟩

theorem factoryScene_sized : factoryScene.sized := ⟨rfl, rfl⟩

theorem zoomSized_exec (i : Instr) (s t : State) (h : exec i s = .next t)
    (htouch : ∃ b ∈ [Block.zoom], b ∈ touches i) (hs : s.tablesSound) : t.zoomSized := by
  have hP := zoomSized_linkFree
  have hzoom : s.zoomSized := ⟨hs.1.1, hs.1.2.1, hs.2.1.1⟩
  have harea := hs.2.2.2.2.2.2.2
  cases i with
  | powerOnReset => cases h; exact State.zoomSized_powerOn hs
  | powerOnResetEnd =>
    cases h
    have hstart : ({ s.begin with inReset := false }.startTimers).zoomSized := hzoom
    unfold State.powerOnEnd
    split
    · exact hP.same (by simp) (by simp) hstart
    · exact hzoom
  | motion => cases h; exact hP.intake (fun u n => State.zoomSized_of_optics (by simp [Zoom.optics])) hzoom
  | lensReport => cases h; exact hP.intake (fun u n => State.zoomSized_of_optics (u.takeReport_optics _)) hzoom
  | panel seq rocker buttons =>
    cases h
    refine hP.intake (fun u n hu => ?_) hzoom
    have hpanel := State.zoomSized_of_optics
      (u.panelZoom_optics rocker.toInt (buttons.getLsbD 3) (buttons.getLsbD 4)) hu
    exact zoomSized_reads _ _ (by simp [Block.same, State.takePanel]) hpanel
  | audioIn =>
    cases h
    split
    · exact hP.intake (fun u n => hP.same (by simp) (by simp)) hzoom
    · exact hP.unlessReset (fun u => hP _ _ (u.linkOnly_refusePacket _ _)) hzoom
  | linkReset l e => cases h; exact hP.unlessReset (fun u => hP _ _ (u.linkOnly_takeLinkReset l e)) hzoom
  | inboundCrcFailure l => cases h; exact hP.unlessReset (fun u => hP _ _ (u.linkOnly_failCrc l)) hzoom
  | lossOfFraming l => cases h; exact hP.unlessReset (fun u => hP _ _ (u.linkOnly_loseAlignment l)) hzoom
  | foreignPacket l | rejectedPacket l =>
    cases h; exact hP.unlessReset (fun u => hP _ _ (u.linkOnly_refusePacket l _)) hzoom
  | write =>
    cases h
    split
    · exact hP.command (fun u => hP.write fun _ _ _ hfits hu => State.zoomSized_writeTable hu hfits _) hzoom
    · exact hP.unlessReset (fun u => hP _ _ (u.linkOnly_failCrc _)) hzoom
  | zoomPreset =>
    cases h
    refine hP.action (fun u hu => ?_) hzoom
    unfold State.zoomPreset
    split
    · exact hu
    · exact State.zoomSized_arbitrate (u.requestPreset_optics _ _) hu
  | zoomStop =>
    cases h
    exact hP.action (fun u => State.zoomSized_arbitrate ((State.endPending_optics _ _).trans (u.endMove_optics _))) hzoom
  | enterSetup => cases h; exact hP.action (fun u => State.zoomSized_enterSetup) hzoom
  | enterRun => cases h; exact hP.action (fun u => State.zoomSized_enterRun) hzoom
  | lensTableClear => cases h; exact hP.action (fun u => State.zoomSized_lensTableClear) hzoom
  | clearFault =>
    cases h
    exact hP.action (fun u hu => State.clearFault_holds (P := State.zoomSized) (fun _ _ _ _ hv => hv)
      (fun v g => State.zoomSized_of_optics (v.releaseStop_optics g)) (fun _ _ hv => hv) _ _ _ hu) hzoom
  | recallFactory =>
    cases h
    refine hP.action (fun u hu => ?_) hzoom
    unfold State.recallFactory
    split
    · exact hu
    · split
      · exact hu
      · exact State.zoomSized_loadContents factoryScene_sized _ hu
  | recallCompletion =>
    cases h
    unfold State.endRecall
    split
    · next n c started hop =>
      have hc : c.sized := by
        have hbegin : s.scene.op = .recallScene n c started := hop
        rwa [hbegin] at harea
      have hidle : { s.begin with scene := { s.begin.scene with op := .idle } }.zoomSized := hzoom
      exact hP.same (by simp) (by simp) (State.zoomSized_loadContents hc started hidle)
    all_goals exact hzoom
  | lensSilenceTimerExpiry => cases h; exact hP.expire (fun u hu => hu) hzoom
  | rockerLapseTimerExpiry =>
    cases h; exact hP.expire (fun u => State.zoomSized_arbitrate (State.endPending_optics _ _)) hzoom
  | presetTimeoutExpiry => cases h; exact hP.expire (fun u => State.zoomSized_arbitrate (u.endMove_optics _)) hzoom
  | refreshTimerExpiry => cases h; exact hP.expire (fun u => hP _ _ u.linkOnly_sendZoom) hzoom
  | checkCycle =>
    cases h
    refine hP.expire (fun u => State.checkCycle_holds (fun _ _ _ _ hv => hv) (fun _ _ hv => hv)
      (fun v g a => State.runActions_holds (fun v => State.zoomSized_of_optics (by simp))
        (fun v => State.zoomSized_of_optics (v.faultZoomStop_optics g)) (fun v => State.zoomSized_of_optics (by simp))
        (fun _ hv => hv) (fun v => State.zoomSized_of_optics (by simp)))
      (fun v n => State.zoomSized_of_optics (by simp)) (fun v g => State.zoomSized_of_optics (by simp))) hzoom
  | _ =>
    simp [touches, recordingBlocks, commandBlocks, mem_packetBlocks, mem_linkResetBlocks, eq_linkBlock, eq_slotBlock]
      at htouch

end Sys2Proof.Machine
end

section
/-! PROOF. The sizes of the tables of the audio unit, the viewfinder, supervision, management and scene memory. -/

namespace Sys2Proof.Machine

/-! ### The gain table -/

def State.gainSized (s : State) : Prop := s.audio.gainTable.length = 161

theorem State.gainSized_of_table {s t : State} (h : t.audio.gainTable = s.audio.gainTable) (hs : s.gainSized) :
    t.gainSized := by
  rwa [State.gainSized, h]

theorem State.gainSized_same {s t : State} (h : t.audio = s.audio) : s.gainSized → t.gainSized :=
  State.gainSized_of_table (by rw [h])

theorem gainSized_reads : Reads [.audio] State.gainSized := fun _ _ h => State.gainSized_same (h .audio (by simp))

theorem Audio.Trimmed.gainTable {a b : Audio} (h : a.Trimmed b) : b.gainTable = a.gainTable := by
  rcases h with rfl | ⟨n, rfl⟩
  · rfl
  · rfl

theorem Audio.sampleSteps_gainTable (it : AudioItems) (a : Audio) (xs : List (Quad Int)) :
    (a.sampleSteps it xs).1.gainTable = a.gainTable := by
  induction xs generalizing a with
  | nil => rfl
  | cons x rest ih => exact ih (a.sampleStep it x).1

theorem Audio.advancePeriod_gainTable (a : Audio) : a.advancePeriod.gainTable = a.gainTable := by
  unfold Audio.advancePeriod
  split <;> rfl

theorem Audio.process_gainTable (it : AudioItems) (a : Audio) (xs : List (Quad Int)) :
    (a.process it xs).1.gainTable = a.gainTable :=
  (Audio.advancePeriod_gainTable _).trans (Audio.sampleSteps_gainTable it { a with clip := .fill false } xs)

theorem State.gainSized_takeAudio {s : State} (n : Nat) (xs : List (Quad Int)) (hs : s.gainSized) :
    (s.takeAudio n xs).gainSized := by
  have hprocess : ∀ (u : State) ys, (u.processAudio ys).audio.gainTable = u.audio.gainTable := fun u ys =>
    u.audio.process_gainTable u.items.audio ys
  have hfill : ∀ (m : Nat) (u : State), (u.fillAudio m).audio.gainTable = u.audio.gainTable := by
    intro m
    induction m with
    | zero => exact fun _ => rfl
    | succ m ih => exact fun u => (ih _).trans (hprocess u _)
  exact State.gainSized_of_table ((hprocess _ xs).trans (hfill _ s)) hs

theorem State.gainSized_powerOn {s : State} (hs : s.tablesSound) : s.powerOn.gainSized := by
  obtain ⟨-, -, -, -, -, hfixed, -⟩ := hs
  obtain ⟨-, -, eaudio, -⟩ := s.powerOn_loaded
  have hf := s.loaded_fixed
  rw [State.gainSized, eaudio]
  split at hf
  · rw [hf.2.2.1]
    decide +kernel
  · next f hvalid =>
    have hsize := hfixed f hvalid
    rw [← hf] at hsize
    exact hsize.2.2.1

theorem gainSized_exec (i : Instr) (s t : State) (h : exec i s = .next t)
    (htouch : ∃ b ∈ [Block.audio], b ∈ touches i) (hs : s.tablesSound) : t.gainSized := by
  have hP := gainSized_reads
  have hgain : s.gainSized := hs.1.2.2.1
  have hout : Block.out ∉ [Block.audio] := by decide
  have hcommand : ∀ b ∈ [Block.audio], b ∉ commandBlocks := by decide
  have hload : ∀ (u : State) c b, u.gainSized → (u.loadContents c b).gainSized := by
    intro u c b
    obtain ⟨-, -, -, -, haudio⟩ := u.loadContents_blocks c b
    exact State.gainSized_of_table (by rw [haudio]; rfl)
  cases i with
  | powerOnReset => cases h; exact State.gainSized_powerOn hs
  | powerOnResetEnd =>
    cases h
    have hstart : ({ s.begin with inReset := false }.startTimers).gainSized := hgain
    unfold State.powerOnEnd
    split
    · exact State.gainSized_same (by simp) hstart
    · exact hgain
  | audioIn =>
    cases h
    split
    · exact hP.intake (by decide) (fun u n => State.gainSized_takeAudio n _) hgain
    · exact hP.unlessReset hout (fun u => State.gainSized_same (by simp)) hgain
  | frameMark =>
    cases h
    exact hP.intake (by decide) (fun u n => State.gainSized_of_table (u.takeFrameMark_trims _).gainTable) hgain
  | set =>
    cases h
    refine hP.command hcommand (fun u => hP.set hcommand fun sp _ hu => ?_) hgain
    unfold State.setItem
    split
    · exact hu
    · dsimp only [State.ownerActs]
      split
      · exact hu
      · split
        · exact State.gainSized_same (by simp) hu
        · split
          · exact hu
          · exact hu
  | write =>
    cases h
    split
    · refine hP.command hcommand (fun u => hP.write hcommand fun t c _ hfits hu => ?_) hgain
      have hcapacity := State.writeFits_capacity hfits
      cases t with
      | gain => exact replaceAt_takeAll_length hu hcapacity _ _ _
      | _ => exact hu
    · exact hP.unlessReset hout (fun u => State.gainSized_same (by simp)) hgain
  | recallFactory => cases h; exact hP.action hcommand (fun u => State.recallFactory_holds (hload u)) hgain
  | recallCompletion =>
    cases h
    exact State.endRecall_holds (fun u m hu => hu) hload (fun u n => State.gainSized_same (by simp))
      (hP.begin hout hgain)
  | audioSilenceTimerExpiry | meterLapseTimerExpiry => cases h; exact hP.expire hout (fun u hu => hu) hgain
  | markSilenceTimerExpiry =>
    cases h
    exact hP.expire hout (fun u => State.gainSized_of_table u.markSilenceExpires_trims.gainTable) hgain
  | _ =>
    simp [touches, recordingBlocks, commandBlocks, zoomBlocks, mem_packetBlocks, mem_linkResetBlocks, eq_linkBlock,
      eq_slotBlock] at htouch

/-! ### The viewfinder's lists and tables -/

def Viewfinder.sized (v : Viewfinder) : Prop :=
  v.glyphs.length = 96 ∧ v.palette.length = 16 ∧ v.editList.length = 48 ∧ v.liveList.length = 48

def State.vfSized (s : State) : Prop := s.vf.sized

theorem State.vfSized_same {s t : State} (h : t.vf = s.vf) (hs : s.vfSized) : t.vfSized := by
  rwa [State.vfSized, h]

theorem vfSized_reads : Reads [.vf] State.vfSized := fun _ _ h => State.vfSized_same (h .vf (by simp))

/-- A line sent, its frame begun at line 0, leaves the sizes: the live list is taken from the edit list. -/
theorem State.vfSized_sendLine {s : State} (n : Nat) (pixels : List Pixel) (hs : s.vfSized) :
    (s.sendLine n pixels).vfSized := by
  obtain ⟨hglyphs, hpalette, hedit, hlive⟩ := hs
  unfold State.sendLine
  dsimp only
  split
  · refine ⟨hglyphs, hpalette, hedit, ?_⟩
    change (if s.vf.editChanged then s.vf.editList else s.vf.liveList).length = 48
    split
    · exact hedit
    · exact hlive
  · exact ⟨hglyphs, hpalette, hedit, hlive⟩

theorem State.vfSized_ownLine {s : State} (n : Nat) (pixels : List Pixel) (hs : s.vfSized) :
    (s.ownLine n pixels).vfSized := State.vfSized_sendLine n pixels hs

theorem State.vfSized_replaceLines {s : State} (n count : Nat) (hs : s.vfSized) : (s.replaceLines n count).vfSized := by
  induction count generalizing s n with
  | zero => exact hs
  | succ count ih => exact ih (n + 1) (State.vfSized_sendLine n (s.vf.lastGood.getD blackLine) hs)

theorem State.vfSized_takeLine {s : State} (n : Nat) (pixels : List Pixel) (hs : s.vfSized) :
    (s.takeLine n pixels).vfSized := by
  unfold State.takeLine
  dsimp only
  split
  · exact hs
  split
  · exact State.vfSized_ownLine n pixels hs
  split
  · exact State.vfSized_ownLine n pixels (State.vfSized_replaceLines _ _ hs)
  split
  · exact State.vfSized_ownLine 0 pixels (State.vfSized_replaceLines _ _ hs)
  · exact hs

theorem State.vfSized_lineSilenceExpires {s : State} (hs : s.vfSized) : s.lineSilenceExpires.vfSized := by
  unfold State.lineSilenceExpires
  dsimp only
  split
  · exact hs
  · exact State.vfSized_replaceLines _ _ hs

theorem State.vfSized_loadContents {s : State} {c : SceneArea} (hc : c.sized) (b : Bool) (hs : s.vfSized) :
    (s.loadContents c b).vfSized := by
  obtain ⟨-, -, hvf, -⟩ := s.loadContents_blocks c b
  rw [State.vfSized, hvf]
  exact ⟨hs.1, hs.2.1, (List.length_map _).trans hc.2, hs.2.2.2⟩

theorem State.vfSized_powerOn {s : State} (hs : s.tablesSound) : s.powerOn.vfSized := by
  obtain ⟨-, -, -, -, -, hfixed, hscenes, -⟩ := hs
  obtain ⟨-, -, -, -, evf, -⟩ := s.powerOn_loaded
  obtain ⟨-, -, hvf, -⟩ := s.loaded_loading
  have hf := s.loaded_fixed
  have hsc := s.loaded_scene0
  have htables : s.loaded.vf.glyphs.length = 96 ∧ s.loaded.vf.palette.length = 16 := by
    split at hf
    · rw [hf.2.2.2.1, hf.2.2.2.2.1]
      exact ⟨by decide, by decide⟩
    · next f hvalid =>
      have hsize := hfixed f hvalid
      rw [← hf] at hsize
      exact ⟨hsize.2.2.2.1, hsize.2.2.2.2.2⟩
  have hedit : s.loaded.vf.editList.length = 48 := by
    split at hsc
    · rw [hsc.2.2]
      rfl
    · next c hvalid =>
      rw [hsc.2.2, List.length_map]
      exact (hscenes .i1 c hvalid).2
  rw [State.vfSized, evf]
  exact ⟨htables.1, htables.2, hedit, by rw [hvf]; rfl⟩

theorem vfSized_exec (i : Instr) (s t : State) (h : exec i s = .next t)
    (htouch : ∃ b ∈ [Block.vf], b ∈ touches i) (hs : s.tablesSound) : t.vfSized := by
  have hP := vfSized_reads
  have hvf : s.vfSized := ⟨hs.1.2.2.2.1, hs.1.2.2.2.2.2, hs.2.1.2, hs.2.2.1⟩
  have harea := hs.2.2.2.2.2.2.2
  have hout : Block.out ∉ [Block.vf] := by decide
  have hcommand : ∀ b ∈ [Block.vf], b ∉ commandBlocks := by decide
  cases i with
  | powerOnReset => cases h; exact State.vfSized_powerOn hs
  | powerOnResetEnd =>
    cases h
    have hstart : ({ s.begin with inReset := false }.startTimers).vfSized := hvf
    unfold State.powerOnEnd
    split
    · exact State.vfSized_same (by simp) hstart
    · exact hvf
  | vfLine =>
    cases h
    split
    · exact hP.intake (by decide) (fun u n => State.vfSized_takeLine _ _) hvf
    · exact hP.unlessReset hout (fun u => State.vfSized_same (by simp)) hvf
  | write =>
    cases h
    split
    · refine hP.command hcommand (fun u => hP.write hcommand fun t c _ hfits hu => ?_) hvf
      have hcapacity := State.writeFits_capacity hfits
      obtain ⟨hglyphs, hpalette, hedit, hlive⟩ := hu
      cases t with
      | display => exact ⟨hglyphs, hpalette, replaceAt_takeAll_length hedit hcapacity _ _ _, hlive⟩
      | palette => exact ⟨hglyphs, replaceAt_takeAll_length hpalette hcapacity _ _ _, hedit, hlive⟩
      | glyph => exact ⟨replaceAt_takeAll_length hglyphs hcapacity _ _ _, hpalette, hedit, hlive⟩
      | _ => exact ⟨hglyphs, hpalette, hedit, hlive⟩
    · exact hP.unlessReset hout (fun u => State.vfSized_same (by simp)) hvf
  | clearFault =>
    cases h
    exact hP.action hcommand (fun u hu => State.clearFault_holds (P := State.vfSized) (fun _ _ _ _ hv => hv)
      (fun v g => State.vfSized_same (by simp)) (fun _ _ hv => hv) _ _ _ hu) hvf
  | recallFactory =>
    cases h
    refine hP.action hcommand (fun u hu => ?_) hvf
    unfold State.recallFactory
    split
    · exact hu
    · split
      · exact hu
      · exact State.vfSized_loadContents factoryScene_sized _ hu
  | recallCompletion =>
    cases h
    unfold State.endRecall
    split
    · next n c started hop =>
      have hc : c.sized := by
        have hbegin : s.scene.op = .recallScene n c started := hop
        rwa [hbegin] at harea
      have hidle : { s.begin with scene := { s.begin.scene with op := .idle } }.vfSized := hvf
      exact State.vfSized_same (by simp) (State.vfSized_loadContents hc started hidle)
    all_goals exact hvf
  | lineSilenceTimerExpiry => cases h; exact hP.expire hout (fun u => State.vfSized_lineSilenceExpires) hvf
  | checkCycle =>
    cases h
    refine hP.expire hout (fun u => State.checkCycle_holds (fun _ _ _ _ hv => hv) (fun _ _ hv => hv)
      (fun v g a => State.runActions_holds (fun v => State.vfSized_same (by simp))
        (fun v => State.vfSized_same (by simp)) (fun v => State.vfSized_same (by simp)) (fun _ hv => hv)
        (fun v => State.vfSized_same (by simp)))
      (fun v n => State.vfSized_same (by simp)) (fun v g => State.vfSized_same (by simp))) hvf
  | _ =>
    simp [touches, recordingBlocks, commandBlocks, zoomBlocks, mem_packetBlocks, mem_linkResetBlocks, eq_linkBlock,
      eq_slotBlock] at htouch

/-! ### The fault table -/

def State.faultSized (s : State) : Prop := s.sup.table.length = 12

theorem State.faultSized_of_table {s t : State} (h : t.sup.table = s.sup.table) (hs : s.faultSized) : t.faultSized := by
  rwa [State.faultSized, h]

theorem faultSized_reads : Reads [.sup] State.faultSized := fun _ _ h =>
  State.faultSized_of_table (congrArg Supervision.table (h .sup (by simp)))

theorem State.faultSized_powerOn {s : State} (hs : s.tablesSound) : s.powerOn.faultSized := by
  obtain ⟨-, -, -, -, -, hfixed, -⟩ := hs
  obtain ⟨-, -, -, -, -, esup, -⟩ := s.powerOn_loaded
  have hf := s.loaded_fixed
  rw [State.faultSized, esup]
  split at hf
  · rw [hf.2.2.2.2.2]
    decide
  · next f hvalid =>
    have hsize := hfixed f hvalid
    rw [← hf] at hsize
    exact hsize.2.2.2.2.1

theorem faultSized_exec (i : Instr) (s t : State) (h : exec i s = .next t)
    (htouch : ∃ b ∈ [Block.sup], b ∈ touches i) (hs : s.tablesSound) : t.faultSized := by
  have hP := faultSized_reads
  have hsup : s.faultSized := hs.1.2.2.2.2.1
  have hout : Block.out ∉ [Block.sup] := by decide
  have hcommand : ∀ b ∈ [Block.sup], b ∉ commandBlocks := by decide
  cases i with
  | powerOnReset => cases h; exact State.faultSized_powerOn hs
  | powerOnResetEnd =>
    cases h
    have hstart : ({ s.begin with inReset := false }.startTimers).faultSized := hsup
    unfold State.powerOnEnd
    split
    · exact State.faultSized_of_table (by simp) hstart
    · exact hsup
  | write =>
    cases h
    split
    · refine hP.command hcommand (fun u => hP.write hcommand fun t c _ hfits hu => ?_) hsup
      have hcapacity := State.writeFits_capacity hfits
      cases t with
      | fault => exact replaceAt_takeAll_length hu hcapacity _ _ _
      | _ => exact hu
    · exact hP.unlessReset hout (fun u => State.faultSized_of_table (by simp)) hsup
  | clearFault =>
    cases h
    exact hP.action hcommand (fun u hu => State.clearFault_holds (P := State.faultSized)
      (fun u v htable _ => State.faultSized_of_table htable) (fun u g => State.faultSized_of_table (by simp))
      (fun u gs hu => hu) _ _ _ hu) hsup
  | checkCycle =>
    cases h
    refine hP.expire hout (fun u => State.checkCycle_holds (fun u v htable _ => State.faultSized_of_table htable)
      (fun u t hu => hu) (fun u g a => State.faultSized_of_table (by simp))
      (fun u n => State.faultSized_of_table (by simp)) (fun u g => State.faultSized_of_table (by simp))) hsup
  | _ =>
    simp [touches, recordingBlocks, commandBlocks, zoomBlocks, loadBlocks, mem_packetBlocks, mem_linkResetBlocks,
      eq_linkBlock, eq_slotBlock] at htouch

/-! ### The permission map -/

def Management.sized (m : Management) : Prop := m.map.length = 17 ∧ m.mapCount ≤ 17

def State.mapSized (s : State) : Prop := s.mgmt.sized

theorem State.mapSized_same {s t : State} (h : t.mgmt = s.mgmt) (hs : s.mapSized) : t.mapSized := by
  rwa [State.mapSized, h]

theorem mapSized_reads : Reads [.mgmt] State.mapSized := fun _ _ h => State.mapSized_same (h .mgmt (by simp))

section
variable {s : State}

theorem State.mapSized_countDenied (hs : s.mapSized) : s.countDenied.mapSized := hs

theorem State.mapSized_setCursor (src : Source) (c : Cursor) (hs : s.mapSized) : (s.setCursor src c).mapSized := by
  cases src <;> exact hs

theorem State.mapSized_judge {src : Source} {tag : Byte} {bits : List Nat}
    {run : State → State × Status × List Byte} (hrun : s.mapSized → (run s).1.mapSized) (hs : s.mapSized) :
    (s.judge src tag bits run).mapSized :=
  State.judge_holds (fun u st d => State.mapSized_same (by simp)) (fun u => State.mapSized_countDenied) hrun hs

theorem State.mapSized_intake {k : InKind} {seq : Byte} {owner : State → Nat → State}
    (howner : ∀ u n, u.mapSized → (owner u n).mapSized) (hs : s.mapSized) :
    (s.begin.intake k seq owner).mapSized :=
  State.intake_holds (fun u c => State.mapSized_same (by simp)) (fun u => State.mapSized_same (by simp)) howner hs

/-- A COMMAND and an ACTION whose work leaves the map leave it. -/
theorem State.mapSized_action {seq : Byte} {src : Source} {tag : Byte} {bits : List Nat}
    {run : State → State × Status} (hrun : ∀ u, (run u).1.mgmt = u.mgmt) (hs : s.mapSized) :
    (s.begin.action seq src tag bits run).mapSized :=
  State.mapSized_intake (fun u _ => State.mapSized_judge (State.mapSized_same (hrun u))) hs

theorem State.mapSized_writeTable {t : TableId} {c n : Nat} (hs : s.mapSized) (hfits : s.writeFits t c n = true)
    (data : List Byte) : (s.writeTable t c (pieces t.entryBytes n data)).1.mapSized := by
  have hcapacity := State.writeFits_capacity hfits
  cases t with
  | map =>
    have hlen : (takeAll takeMapEntry (pieces TableId.map.entryBytes n data)).1.length = n := by
      rw [takeAll_length, pieces_length]
    exact ⟨replaceAt_takeAll_length hs.1 hcapacity _ _ _, Nat.max_le.mpr ⟨hs.2, hlen.symm ▸ hcapacity⟩⟩
  | _ => exact hs

theorem State.mapSized_readEntries (src : Source) (cur : Cursor) (n : Nat) (hs : s.mapSized) :
    (s.readEntries src cur n).1.mapSized := by
  unfold State.readEntries
  split
  · exact hs
  · exact State.mapSized_setCursor src _ hs

theorem State.mapSized_doSelect (src : Source) (tag : Byte) (table index : Nat) (hs : s.mapSized) :
    (s.doSelect src tag table index).mapSized := by
  unfold State.doSelect
  split
  · exact State.mapSized_same (by simp) hs
  · refine State.mapSized_judge (fun hs => ?_) hs
    split
    · exact State.mapSized_setCursor src _ hs
    · exact hs

theorem State.mapSized_doGet (src : Source) (tag : Byte) (item : Nat) (hs : s.mapSized) :
    (s.doGet src tag item).mapSized := by
  unfold State.doGet
  split
  · exact State.mapSized_same (by simp) hs
  · exact State.mapSized_judge id hs

theorem State.mapSized_doRead (src : Source) (tag : Byte) (n : Nat) (hs : s.mapSized) :
    (s.doRead src tag n).mapSized := by
  unfold State.doRead
  split
  · exact State.mapSized_same (by simp) hs
  · split
    · exact State.mapSized_same (by simp) hs
    · exact State.mapSized_judge (State.mapSized_readEntries src _ n) hs

theorem State.mapSized_linkDown (l : LinkId) (hs : s.mapSized) : (s.linkDown l).mapSized := by
  cases l <;> exact hs

theorem State.mapSized_reset (l : LinkId) (f : LinkCtl → LinkCtl) (hs : s.mapSized) :
    (((s.modifyLink l f).linkDown l).sendLinkReset l).mapSized :=
  State.mapSized_same (by simp) (State.mapSized_linkDown l (State.mapSized_same (t := s.modifyLink l f) (by simp) hs))

theorem State.mapSized_loseAlignment (l : LinkId) (hs : s.mapSized) : (s.loseAlignment l).mapSized := by
  unfold State.loseAlignment
  split
  · exact hs
  · exact State.mapSized_same (by simp)
      (State.mapSized_reset l (fun c => { c.resetChanges with state := .resync }) hs)

theorem State.mapSized_failCrc (l : LinkId) (hs : s.mapSized) : (s.failCrc l).mapSized := by
  unfold State.failCrc
  dsimp only
  split
  · exact State.mapSized_same (by simp) hs
  · split
    · exact State.mapSized_loseAlignment l (State.mapSized_same (by simp) hs)
    · exact State.mapSized_same (by simp) hs

theorem State.mapSized_takeLinkReset (l : LinkId) (e : Byte) (hs : s.mapSized) : (s.takeLinkReset l e).mapSized := by
  have hgood : (s.modifyLink l LinkCtl.goodCrc).mapSized := State.mapSized_same (by simp) hs
  unfold State.takeLinkReset
  dsimp only
  split
  · split
    · exact State.mapSized_same (by simp) hgood
    · exact State.mapSized_same (by simp) hgood
  · split
    · exact hgood
    · exact State.mapSized_same (by simp)
        (State.mapSized_reset l (fun c => { c with partnerEpoch := some e }.resetChanges) hgood)

end

theorem mapSized_exec (i : Instr) (s t : State) (h : exec i s = .next t)
    (htouch : ∃ b ∈ [Block.mgmt], b ∈ touches i) (hs : s.tablesSound) : t.mapSized := by
  have hP := mapSized_reads
  have hmap : s.mapSized := ⟨hs.2.2.2.1, hs.2.2.2.2.1⟩
  have hout : Block.out ∉ [Block.mgmt] := by decide
  have hcrc : ∀ l, (s.begin.unlessReset (State.failCrc · l)).mapSized := fun l =>
    hP.unlessReset hout (fun u => State.mapSized_failCrc l) hmap
  cases i with
  | powerOnReset =>
    cases h
    obtain ⟨-, -, -, -, -, -, emgmt, -⟩ := s.powerOn_loaded
    obtain ⟨-, -, -, -, -, hmgmt, -⟩ := s.loaded_blocks
    rw [State.mapSized, emgmt, hmgmt]
    exact ⟨rfl, by decide⟩
  | essence =>
    cases h
    split
    · exact State.mapSized_intake (fun u n hu => hu) hmap
    · exact hcrc _
  | linkReset l e => cases h; exact hP.unlessReset hout (fun u => State.mapSized_takeLinkReset l e) hmap
  | inboundCrcFailure l => cases h; exact hcrc l
  | lossOfFraming l => cases h; exact hP.unlessReset hout (fun u => State.mapSized_loseAlignment l) hmap
  | get => cases h; exact State.mapSized_intake (fun u _ => State.mapSized_doGet _ _ _) hmap
  | set =>
    cases h
    exact State.mapSized_intake (fun u _ => State.doSet_holds (fun u st d => State.mapSized_same (by simp))
      (fun u => State.mapSized_countDenied) fun sp _ => State.mapSized_same (by simp)) hmap
  | select => cases h; exact State.mapSized_intake (fun u _ => State.mapSized_doSelect _ _ _ _) hmap
  | write =>
    cases h
    split
    · exact State.mapSized_intake (fun u _ => State.doWrite_holds (fun u st d => State.mapSized_same (by simp))
        (fun u => State.mapSized_countDenied) (fun u => State.mapSized_setCursor _)
        fun t c _ hfits hu => State.mapSized_writeTable hu hfits _) hmap
    · exact hcrc _
  | read => cases h; exact State.mapSized_intake (fun u _ => State.mapSized_doRead _ _ _) hmap
  | undefinedCommand => cases h; exact State.mapSized_intake (fun u _ => State.mapSized_same (by simp)) hmap
  | recStart | recStop | mark | zoomPreset | zoomStop | stabOn | stabOff | baselineReset | enterSetup | enterRun
  | lensTableClear | clearHold | clearFault | storeScene | recallScene | recallFactory | storeFixed =>
    cases h; exact State.mapSized_action (fun u => by simp) hmap
  | _ =>
    simp [touches, recordingBlocks, zoomBlocks, loadBlocks, mem_packetBlocks, eq_linkBlock, eq_slotBlock] at htouch

/-! ### The areas of scene memory and the operation in flight -/

def SceneOp.sized : SceneOp → Prop
  | .idle => True
  | .storeScene _ c | .recallScene _ c _ => c.sized
  | .storeFixed f => f.sized

def SceneMemory.sized (m : SceneMemory) : Prop :=
  (∀ f, m.fixed = some f → f.sized) ∧ (∀ n c, m.scenes.get n = some c → c.sized) ∧ m.op.sized

def State.areasSized (s : State) : Prop := s.scene.sized

theorem State.areasSized_same {s t : State} (h : t.scene = s.scene) (hs : s.areasSized) : t.areasSized := by
  rwa [State.areasSized, h]

theorem areasSized_reads : Reads [.scene] State.areasSized := fun _ _ h => State.areasSized_same (h .scene (by simp))

/-- A scene area set to nothing or to contents of the tables' sizes. -/
theorem SceneMemory.scenes_set {m : SceneMemory} (hm : m.sized) {n : Four} {v : Option SceneArea}
    (hv : ∀ c, v = some c → c.sized) : ∀ k c, (m.scenes.set n v).get k = some c → c.sized := by
  intro k c hc
  by_cases hk : k = n
  · subst hk
    rw [Quad.get_set_same] at hc
    exact hv c hc
  · rw [Quad.get_set_other _ _ _ _ hk] at hc
    exact hm.2.1 k c hc

theorem areasSized_closed : RecordClosed State.areasSized where
  hand := fun m => State.areasSized_same (by simp)
  frame := fun ⟨_, _, _, _, _, _, _, hscene⟩ => State.areasSized_same hscene
  store := fun _ => State.areasSized_same rfl

theorem State.areasSized_advanceClip {s : State} (hs : s.areasSized) : s.advanceClip.areasSized := by
  obtain ⟨hfixed, hscenes, hop⟩ := hs
  have hnote : s.scene.op.noteStart.sized := by
    cases hcase : s.scene.op with
    | _ => rw [hcase] at hop; exact hop
  unfold State.advanceClip SceneMemory.handClip
  cases s.scene.cellWrite with
  | none => exact ⟨hfixed, hscenes, hnote⟩
  | some n => exact ⟨hfixed, hscenes, hnote⟩

theorem State.areasSized_storeScene {s : State} (hcopy : s.sceneCopy.sized) (area : Nat) (hs : s.areasSized) :
    (s.storeScene area).1.areasSized := by
  unfold State.storeScene
  split
  · exact hs
  · split
    · exact hs
    · next n _ _ =>
      have hscenes := SceneMemory.scenes_set (n := n) (v := none) hs (by simp)
      exact ⟨hs.1, hscenes, hcopy⟩

theorem State.areasSized_storeFixed {s : State} (hcopy : s.fixedCopy.sized) (hs : s.areasSized) :
    s.storeFixed.1.areasSized := by
  unfold State.storeFixed
  split
  · exact hs
  · exact ⟨nofun, hs.2.1, hcopy⟩

theorem State.areasSized_recallScene {s : State} (area : Nat) (hs : s.areasSized) :
    (s.recallScene area).1.areasSized := by
  unfold State.recallScene
  split
  · exact hs
  · split
    · exact hs
    · split
      · exact hs
      · split
        · exact hs
        · next c hc => exact ⟨hs.1, hs.2.1, hs.2.1 _ c hc⟩

theorem State.areasSized_notify {s : State} (n : Notice) : s.areasSized → (s.notify n).areasSized :=
  State.areasSized_same (by simp)

theorem State.areasSized_endStore {s : State} (ok : Bool) (hs : s.areasSized) : (s.endStore ok).areasSized := by
  obtain ⟨hfixed, hscenes, hop⟩ := id hs
  unfold State.endStore
  split
  · next n copy hcase =>
    rw [hcase] at hop
    have hareas := SceneMemory.scenes_set (n := n) (v := if ok = true then some copy else none) hs fun c hc => by
      obtain ⟨-, hsame⟩ := Option.ite_none_right_eq_some.mp hc
      exact Option.some.inj hsame ▸ hop
    exact State.areasSized_notify _ ⟨hfixed, hareas, trivial⟩
  · next copy hcase =>
    rw [hcase] at hop
    have harea : ∀ f, (if ok = true then some copy else none) = some f → f.sized := fun f hf => by
      obtain ⟨-, hsame⟩ := Option.ite_none_right_eq_some.mp hf
      exact Option.some.inj hsame ▸ hop
    exact State.areasSized_notify _ ⟨harea, hscenes, trivial⟩
  · exact hs
  · exact hs

/-- Scene memory and the tables a store copies have their sizes. -/
def State.copiesSized (s : State) : Prop := s.areasSized ∧ s.zoomSized ∧ s.gainSized ∧ s.vfSized ∧ s.faultSized

theorem State.copiesSized.sceneCopy {s : State} (h : s.copiesSized) : s.sceneCopy.sized := by
  obtain ⟨-, ⟨-, -, hpresets⟩, -, ⟨-, -, hedit, -⟩, -⟩ := h
  exact ⟨hpresets, hedit⟩

theorem State.copiesSized.fixedCopy {s : State} (h : s.copiesSized) : s.fixedCopy.sized := by
  obtain ⟨-, ⟨hlens, hcurve, -⟩, hgain, ⟨hglyphs, hpalette, -, -⟩, hfault⟩ := h
  exact ⟨hlens, hcurve, hgain, hglyphs, hfault, hpalette⟩

theorem State.copiesSized_linkOnly {s t : State} (hlink : s.LinkOnly t) (hscene : t.scene = s.scene)
    (haudio : t.audio = s.audio) (hvf : t.vf = s.vf) (hsup : t.sup = s.sup) (hs : s.copiesSized) : t.copiesSized := by
  obtain ⟨hareas, hzoom, hgain, hsized, hfault⟩ := hs
  exact ⟨State.areasSized_same hscene hareas, zoomSized_linkFree _ _ hlink hzoom, State.gainSized_same haudio hgain,
    State.vfSized_same hvf hsized, State.faultSized_of_table (by rw [hsup]) hfault⟩

theorem State.copiesSized_action {s : State} {seq : Byte} {src : Source} {tag : Byte} {bits : List Nat}
    {run : State → State × Status} (hrun : ∀ u, u.copiesSized → (run u).1.copiesSized) (hs : s.copiesSized) :
    (s.begin.action seq src tag bits run).copiesSized := by
  have hsame : ∀ u v : State, v.zoom = u.zoom → v.stab = u.stab → v.scene = u.scene → v.audio = u.audio →
      v.vf = u.vf → v.sup = u.sup → u.copiesSized → v.copiesSized := fun u v hz hst =>
    State.copiesSized_linkOnly (.of_same hz hst)
  refine State.intake_holds (fun u c => hsame u _ (by simp) (by simp) (by simp) (by simp) (by simp) (by simp))
    (fun u => State.copiesSized_linkOnly (u.linkOnly_goodInResync _) (by simp) (by simp) (by simp) (by simp))
    (fun u _ => State.judge_holds
      (fun v st d => hsame v _ (by simp) (by simp) (by simp) (by simp) (by simp) (by simp))
      (fun v => hsame v _ (by simp) (by simp) (by simp) (by simp) (by simp) (by simp)) (hrun u)) ?_
  exact hs

theorem areasSized_exec (i : Instr) (s t : State) (h : exec i s = .next t)
    (htouch : ∃ b ∈ [Block.scene], b ∈ touches i) (hs : s.tablesSound) : t.areasSized := by
  have hP := areasSized_reads
  have hareas : s.areasSized := hs.2.2.2.2.2
  have hcopies : s.copiesSized := ⟨hareas, ⟨hs.1.1, hs.1.2.1, hs.2.1.1⟩, hs.1.2.2.1,
    ⟨hs.1.2.2.2.1, hs.1.2.2.2.2.2, hs.2.1.2, hs.2.2.1⟩, hs.1.2.2.2.2.1⟩
  have hout : Block.out ∉ [Block.scene] := by decide
  have hcommand : ∀ b ∈ [Block.scene], b ∉ commandBlocks := by decide
  cases i with
  | powerOnReset =>
    cases h
    obtain ⟨-, hscene, -⟩ := s.powerOn_keeps
    rw [State.areasSized, hscene]
    exact ⟨hareas.1, hareas.2.1, trivial⟩
  | panel seq rocker buttons =>
    cases h
    refine hP.intake (by decide) (fun u n hu => ?_) hareas
    exact areasSized_closed.panelRecord State.areasSized_advanceClip _ _ (State.areasSized_same (by simp) hu)
  | recStart =>
    cases h
    exact hP.action hcommand (fun u => areasSized_closed.recStart State.areasSized_advanceClip) hareas
  | storeScene =>
    cases h
    exact (State.copiesSized_action (fun u hu => ⟨State.areasSized_storeScene hu.sceneCopy _ hu.1, by
      simpa [State.zoomSized, State.gainSized, State.vfSized, State.faultSized] using hu.2⟩) hcopies).1
  | recallScene => cases h; exact hP.action hcommand (fun u => State.areasSized_recallScene _) hareas
  | storeFixed =>
    cases h
    exact (State.copiesSized_action (fun u hu => ⟨State.areasSized_storeFixed hu.fixedCopy hu.1, by
      simpa [State.zoomSized, State.gainSized, State.vfSized, State.faultSized] using hu.2⟩) hcopies).1
  | storeCompletion | storeTimeout => cases h; exact State.areasSized_endStore _ hareas
  | recallCompletion =>
    cases h
    unfold State.endRecall
    split
    · refine State.areasSized_notify _ (State.areasSized_same (by simp) (s := { s.begin with
        scene := { s.begin.scene with op := .idle } }) ⟨hareas.1, hareas.2.1, trivial⟩)
    all_goals exact hareas
  | cellWriteCompletion ok =>
    cases h
    have hkept : (s.scene.endCellWrite ok).fixed = s.scene.fixed ∧ (s.scene.endCellWrite ok).scenes = s.scene.scenes ∧
        (s.scene.endCellWrite ok).op = s.scene.op := by
      unfold SceneMemory.endCellWrite
      split
      · exact ⟨rfl, rfl, rfl⟩
      · split <;> exact ⟨rfl, rfl, rfl⟩
    obtain ⟨hfixed, hscenes, hop⟩ := hkept
    change (s.scene.endCellWrite ok).sized
    rw [SceneMemory.sized, hfixed, hscenes, hop]
    exact hareas
  | _ =>
    simp [touches, recordingBlocks, commandBlocks, zoomBlocks, loadBlocks, mem_packetBlocks, mem_linkResetBlocks,
      eq_linkBlock, eq_slotBlock] at htouch

/-- A property that a step keeps of one block, given all the tables' sizes. -/
theorem exec_sized {b : Block} {P : State → Prop} (hP : Reads [b] P)
    (hexec : ∀ i s t, exec i s = .next t → (∃ c ∈ [b], c ∈ touches i) → s.tablesSound → P t) {i : Instr} {s t : State}
    (h : exec i s = .next t) (hs : s.tablesSound) (hbefore : P s) : P t := by
  by_cases htouch : ∃ c ∈ [b], c ∈ touches i
  · exact hexec i s t h htouch hs
  · exact hP s t (fun c hc => frameOfEveryCommand i s t h c fun hm => htouch ⟨c, hc, hm⟩) hbefore

theorem tablesSound_exec (i : Instr) (s t : State) (h : exec i s = .next t) (hs : s.tablesSound) : t.tablesSound := by
  obtain ⟨⟨hlens, hcurve, hgain, hglyphs, hfault, hpalette⟩, ⟨hpresets, hedit⟩, hlive, hmap, hcount, hareas⟩ := id hs
  obtain ⟨hlens, hcurve, hpresets⟩ := exec_sized zoomSized_reads zoomSized_exec h hs ⟨hlens, hcurve, hpresets⟩
  have hgain := exec_sized gainSized_reads gainSized_exec h hs hgain
  obtain ⟨hglyphs, hpalette, hedit, hlive⟩ := exec_sized vfSized_reads vfSized_exec h hs ⟨hglyphs, hpalette, hedit, hlive⟩
  have hfault := exec_sized faultSized_reads faultSized_exec h hs hfault
  obtain ⟨hmap, hcount⟩ := exec_sized mapSized_reads mapSized_exec h hs ⟨hmap, hcount⟩
  have hareas := exec_sized areasSized_reads areasSized_exec h hs hareas
  exact ⟨⟨hlens, hcurve, hgain, hglyphs, hfault, hpalette⟩, ⟨hpresets, hedit⟩, hlive, hmap, hcount, hareas⟩

/-- Settles O13: a step runs one command on the state with the queue's rest. -/
theorem tablesKeepTheirSizes : Obligations.TablesKeepTheirSizes := by
  intro s t h hs
  unfold step at h
  split at h
  · cases h
    exact hs
  · exact tablesSound_exec _ { s with pending := _ } t h hs

end Sys2Proof.Machine
end

section
/-! PROOF. The management unit: permission, GET, SELECT, the stores (9.2 to 9.5, 10.2). -/

namespace Sys2Proof.Machine

variable {s : State} {seq tag : Byte} {src : Source} {n : Nat}

/-- A COMMAND taken runs on the taken state (R181). -/
theorem State.command_of_takes {run : State → State} (h : s.takes .command seq n = true) :
    s.begin.command seq run = run (s.taken .command seq n) :=
  State.intake_of_takes h

/-! ### Permission (R188, R189) -/

/-- A command that source 1 is not allowed: a map bit at or beyond the map length, or set. -/
theorem State.permits_of_denies {u : State} {bits : List Nat}
    (h : ∃ bit ∈ bits, 16 * u.mgmt.mapCount ≤ bit ∨ (u.mgmt.map.getD (bit / 16) 0#16).getLsbD (bit % 16) = true) :
    u.permits .panel bits = false := by
  obtain ⟨bit, hbit, hdenies⟩ := h
  have hallows : u.mgmt.allows bit = false := by
    rcases hdenies with hlong | hset
    · have : ¬bit < u.mgmt.mapLength := by unfold Management.mapLength; omega
      simp [Management.allows, this]
    · have hbitset : u.mgmt.mapBit bit = true := hset
      simp [Management.allows, hbitset]
  exact List.all_eq_false.mpr ⟨bit, hbit, by simp [hallows]⟩

theorem State.judge_of_denied {u : State} {bits : List Nat} {run : State → State × Status × List Byte}
    (h : u.permits src bits = false) : u.judge src tag bits run = u.countDenied.reply tag .denied [] := by
  rw [State.judge, h]
  rfl

theorem State.judge_of_permits {u : State} {bits : List Nat} {run : State → State × Status × List Byte}
    (h : u.permits src bits = true) : u.judge src tag bits run = (run u).1.reply tag (run u).2.1 (run u).2.2 := by
  rw [State.judge, h]
  rfl

/-- An ACTION row is judged for what it touches. -/
theorem exec_of_asks {i : Instr} {touched : List Nat} (h : i.asks = some (seq, src, tag, touched)) :
    ∃ run, ∀ s, exec i s = .next (s.begin.action seq src tag touched run) := by
  cases i with
  | recStart | recStop | mark | zoomPreset | zoomStop | stabOn | stabOff | baselineReset | enterSetup | enterRun
  | lensTableClear | clearFault | storeScene | storeFixed | recallScene | recallFactory =>
    cases h; exact ⟨_, fun _ => rfl⟩
  | clearHold seq' src' tag' slot =>
    cases h
    refine ⟨(State.clearHold · slot.toNat), fun _ => ?_⟩
    have htouches : touchesHold slot.toNat = if slot = 0 then [166] else if slot = 1 then [167] else [] := by
      by_cases h0 : slot = 0
      · subst h0; rfl
      · by_cases h1 : slot = 1
        · subst h1; rfl
        · rw [if_neg h0, if_neg h1]
          have hnat0 : slot.toNat ≠ 0 := fun h => h0 (BitVec.eq_of_toNat_eq h)
          have hnat1 : slot.toNat ≠ 1 := fun h => h1 (BitVec.eq_of_toNat_eq h)
          unfold touchesHold
          split
          · contradiction
          · contradiction
          · rfl
    rw [← htouches]
    rfl
  | _ => cases h

/-! ### Table numbers (9.4) -/

theorem TableId.code_of_ofNumber {k : Nat} {t : TableId} (h : TableId.ofNumber k = some t) : t.code = k := by
  unfold TableId.ofNumber at h
  split at h <;> cases h <;> rfl

theorem TableId.ofNumber_of_outside {k : Nat} (h : k = 0 ∨ 9 < k) : TableId.ofNumber k = none := by
  cases hk : TableId.ofNumber k with
  | none => rfl
  | some t =>
    have hcode := TableId.code_of_ofNumber hk
    cases t <;> simp only [TableId.code] at hcode <;> omega

theorem TableId.ofNumber_of_inside {k : Nat} (hlow : 1 ≤ k) (hhigh : k ≤ 9) : ∃ t, TableId.ofNumber k = some t := by
  interval_cases k <;> exact ⟨_, rfl⟩

/-- Settles O52: what the map denies is counted and replied, and nothing else is done. -/
theorem deniedActionsChangeNothing : Obligations.DeniedActionsChangeNothing := by
  intro s seq tag n h
  have hpermits : ∀ bit, _ → (s.taken .command seq n).permits .panel [bit] = false := fun bit hbit =>
    State.permits_of_denies (u := s.taken .command seq n) ⟨bit, List.mem_singleton_self bit, hbit⟩
  refine ⟨fun i touched hasks hdenies => ?_, fun item v hitem hdenies => ?_, fun table index hlow hhigh hdenies => ?_,
    fun cur m data hcur hm => ?_⟩
  · obtain ⟨run, hexec⟩ := exec_of_asks hasks
    rw [hexec, State.action_of_denied h (State.permits_of_denies hdenies)]
    rfl
  · obtain ⟨vs, hvs⟩ := Option.isSome_iff_exists.mp hitem
    constructor
    · have hexec : exec (.get seq .panel tag item) s = .next ((s.taken .command seq n).doGet .panel tag item.toNat) :=
        congrArg _ (State.command_of_takes h)
      beta_reduce
      rw [hexec, State.doGet, hvs]
      exact congrArg _ (State.judge_of_denied (hpermits _ hdenies))
    · have hexec : exec (.set seq .panel tag item v) s =
          .next ((s.taken .command seq n).doSet .panel tag item.toNat v.toNat) := congrArg _ (State.command_of_takes h)
      beta_reduce
      rw [hexec, State.doSet, hvs]
      cases specOf item.toNat with
      | none => exact congrArg _ (State.judge_of_denied (hpermits _ hdenies))
      | some sp => exact congrArg _ (State.judge_of_denied (hpermits _ hdenies))
  · obtain ⟨t, ht⟩ := TableId.ofNumber_of_inside hlow hhigh
    have hexec : exec (.select seq .panel tag table index) s =
        .next ((s.taken .command seq n).doSelect .panel tag table.toNat index.toNat) :=
      congrArg _ (State.command_of_takes h)
    beta_reduce at hdenies ⊢
    rw [hexec, State.doSelect, ht]
    rw [← TableId.code_of_ofNumber ht] at hdenies
    exact congrArg _ (State.judge_of_denied (hpermits _ hdenies))
  · have hcursor : (s.taken .command seq n).mgmt.cursor .panel = some cur := hcur
    have hpositive : m.toNat ≠ 0 := fun h0 => hm (BitVec.eq_of_toNat_eq h0)
    constructor
    · intro hdenies
      have hexec : exec (.read seq .panel tag m) s = .next ((s.taken .command seq n).doRead .panel tag m.toNat) :=
        congrArg _ (State.command_of_takes h)
      rw [hexec, State.doRead, if_neg hpositive, hcursor]
      exact congrArg _ (State.judge_of_denied (hpermits _ hdenies))
    · intro hlen hroom hdenies
      have hexec : exec (.write seq .panel tag m data) s =
          .next ((s.taken .command seq n).doWrite .panel tag m.toNat data) :=
        (congrArg _ (if_pos hroom)).trans (congrArg _ (State.command_of_takes h))
      rw [hexec, State.doWrite, if_neg hpositive, hcursor]
      simp only [hlen, ne_eq, not_true_eq_false, if_false, true_and]
      split
      · rfl
      · next hother => exact congrArg _ (State.judge_of_denied (hpermits _ (hdenies.resolve_left hother)))

/-- Settles O53. -/
theorem getItem : Obligations.GetItem := by
  intro s seq src tag item n h
  have hexec : exec (.get seq src tag item) s = .next ((s.taken .command seq n).doGet src tag item.toNat) :=
    congrArg _ (State.command_of_takes h)
  rw [hexec]
  dsimp only
  cases hvs : (s.taken .command seq n).itemValue item.toNat with
  | none =>
    rw [State.doGet, hvs]
    rfl
  | some vs =>
    rw [State.doGet, hvs]
    dsimp only
    split
    · next hallowed => exact congrArg _ (State.judge_of_permits (by simpa using hallowed))
    · next hdenied => exact congrArg _ (State.judge_of_denied (by simpa using hdenied))

/-- Settles O55. -/
theorem selectTable : Obligations.SelectTable := by
  intro s seq src tag table index n h
  have hexec : exec (.select seq src tag table index) s =
      .next ((s.taken .command seq n).doSelect src tag table.toNat index.toNat) := congrArg _ (State.command_of_takes h)
  rw [hexec]
  refine ⟨congrArg _ (State.command_of_takes h), fun hrange => ?_, fun k hk hallowed => ?_⟩
  · rw [State.doSelect, TableId.ofNumber_of_outside hrange]
    rfl
  · have hguard : (s.taken .command seq n).permits src [k.guard] = true := by
      rw [TableId.guard, TableId.code_of_ofNumber hk]
      simpa using hallowed
    rw [State.doSelect, hk]
    dsimp only
    rw [State.judge_of_permits hguard]
    split
    · cases src <;> rfl
    · rfl

end Sys2Proof.Machine
end

section
/-! PROOF. Scene memory: stores, recalls and their ends (10.2, 10.3). -/

namespace Sys2Proof.Machine

variable {s : State} {seq tag : Byte} {src : Source} {n : Nat}

/-! ### A change of record state (R89) -/

/-- A change of record state is one RECORD notice, and a TALLY where the lamp changes (R89). -/
theorem State.setRecState_eq (s : State) (st : RecState) (reason : RecReason) :
    s.setRecState st reason =
      { s with
        recorder := { s.recorder with state := st, lamp := lampOf st }
        body := s.body.hand (.notice (.record st s.recorder.clipCounter reason))
        head := if s.recorder.lamp = lampOf st then s.head else s.head.hand (.tally (lampOf st)) } := by
  rw [State.setRecState, State.notify_eq]
  dsimp only
  by_cases h : lampOf st = s.recorder.lamp
  · rw [if_pos h, if_pos h.symm]
  · rw [if_neg h, if_neg (Ne.symm h)]
    rfl

theorem State.applyPreRec_idle (hidle : s.recorder.state = .idle) :
    s.applyPreRec = if s.items.record.preRecSeconds = 0 then s else s.setRecState .standby .preRec := by
  rw [State.applyPreRec, hidle]

theorem State.applyPreRec_standby (hstandby : s.recorder.state = .standby) :
    s.applyPreRec =
      if s.items.record.preRecSeconds = 0 then
        { s with recorder := (s.recorder.trimRing 0).releaseAssembly }.setRecState .idle .preRec
      else
        { s with recorder := s.recorder.trimRing (s.recorder.ringCapacity s.items.record.preRecSeconds) } := by
  rw [State.applyPreRec, hstandby]
  rfl

theorem Recorder.releaseAssembly_clipCounter (r : Recorder) : r.releaseAssembly.clipCounter = r.clipCounter := by
  rw [Recorder.releaseAssembly]
  split <;> rfl

/-- At rest the record state follows PRE_REC_SECONDS (R89). -/
theorem State.applyPreRec_rests (hrest : s.recorder.state = .idle ∨ s.recorder.state = .standby) :
    s.applyPreRec.recorder.state = (if s.items.record.preRecSeconds = 0 then .idle else .standby) ∧
    s.applyPreRec.recorder.clipCounter = s.recorder.clipCounter := by
  rcases hrest with hidle | hstandby
  · rw [State.applyPreRec_idle hidle]
    split
    · exact ⟨hidle, rfl⟩
    · exact ⟨by rw [State.setRecState_eq], by rw [State.setRecState_eq]⟩
  · rw [State.applyPreRec_standby hstandby]
    split
    · exact ⟨by rw [State.setRecState_eq], by rw [State.setRecState_eq, Recorder.releaseAssembly_clipCounter]; rfl⟩
    · exact ⟨hstandby, rfl⟩

theorem State.applyPreRec_bodyState (s : State) : s.applyPreRec.body.state = s.body.state := by
  rw [State.applyPreRec]
  split
  · split
    · rfl
    · rw [State.setRecState_eq]
      exact (s.body.hand_keeps _).1
  · split
    · rw [State.setRecState_eq]
      exact (s.body.hand_keeps _).1
    · rfl
  all_goals rfl

/-- A load of scene contents at rest leaves the recording at rest, by the PRE_REC_SECONDS loaded (R89, R197). -/
theorem State.loadContents_rests {c : SceneArea} {b : Bool}
    (hrest : s.recorder.state = .idle ∨ s.recorder.state = .standby) :
    (s.loadContents c b).recorder.state =
      (if (s.itemsLoaded c b).record.preRecSeconds = 0 then .idle else .standby) ∧
    (s.loadContents c b).recorder.clipCounter = s.recorder.clipCounter :=
  State.applyPreRec_rests (by exact hrest)

/-- What a load of scene contents leaves as it is. -/
theorem State.loadContents_others (s : State) (c : SceneArea) (b : Bool) :
    (s.loadContents c b).sup = s.sup ∧ (s.loadContents c b).scene = s.scene ∧
    (s.loadContents c b).body.state = s.body.state := by
  refine ⟨?_, ?_, State.applyPreRec_bodyState _⟩ <;> simp only [State.loadContents, State.applyPreRec_keeps]

/-! ### Operations in flight -/

theorem SceneOp.busy_iff {op : SceneOp} : op.busy = true ↔ op ≠ .idle := by
  cases op <;> simp [SceneOp.busy]

theorem RecState.atRest_iff {st : RecState} : st.atRest = true ↔ st = .idle ∨ st = .standby := by
  cases st <;> simp [RecState.atRest]

theorem RecState.not_atRest_of_recording {st : RecState} (h : st.recording? = true) : st.atRest = false := by
  cases st with
  | idle | standby => cases h
  | starting | recording | stopping => rfl

theorem sceneOf_of_le {k : Nat} (h : 4 ≤ k) : sceneOf k = none := if_neg (by omega)

theorem sceneOf_of_lt {k : Nat} (h : k < 4) : sceneOf k = some (Four.ofIdx k) := if_pos h

/-- Settles O57. -/
theorem storeActions : Obligations.StoreActions := by
  intro s seq src tag area n
  refine ⟨fun h => ?_, fun h => ?_⟩
  · have hexec : exec (.storeScene seq src tag area) s = .next
        (((s.taken .command seq n).storeScene area.toNat).1.reply tag
          ((s.taken .command seq n).storeScene area.toNat).2 []) := congrArg _ (State.action_of_takes h)
    have hop : (s.taken .command seq n).scene.op = s.scene.op := rfl
    refine ⟨fun harea => ?_, fun harea => ⟨fun hbusy => ?_, fun hidle => ?_⟩⟩
    · rw [hexec, State.storeScene, sceneOf_of_le harea]
      rfl
    · rw [hexec, State.storeScene, sceneOf_of_lt harea]
      dsimp only
      rw [hop, if_pos (SceneOp.busy_iff.mpr hbusy)]
      rfl
    · rw [hexec, State.storeScene, sceneOf_of_lt harea]
      dsimp only
      rw [hop, hidle]
      rfl
  · have hexec : exec (.storeFixed seq src tag) s = .next
        ((s.taken .command seq n).storeFixed.1.reply tag (s.taken .command seq n).storeFixed.2 []) :=
      congrArg _ (State.action_of_takes h)
    have hop : (s.taken .command seq n).scene.op = s.scene.op := rfl
    refine ⟨fun hbusy => ?_, fun hidle => ?_⟩
    · rw [hexec, State.storeFixed, hop, if_pos (SceneOp.busy_iff.mpr hbusy)]
      rfl
    · rw [hexec, State.storeFixed, hop, hidle]
      rfl

/-! ### The factory contents -/

/-- Every item has its default in the factory contents, so a load of them leaves nothing of the items before. -/
theorem loadItems_default (it : Items) : loadItems defaultItems it = defaultItems := by
  obtain ⟨zoom, stab, audio, record, slots, vf, period⟩ := it
  rfl

/-- A factory recall that no check refuses loads the factory contents at once (R197). -/
theorem State.recallFactory_of_rest {u : State} (hidle : u.scene.op = .idle)
    (hrest : u.recorder.state = .idle ∨ u.recorder.state = .standby) :
    u.recallFactory = (u.loadContents factoryScene false, .ok) := by
  rw [State.recallFactory, hidle, RecState.atRest_iff.mpr hrest]
  rfl

/-- Settles O58. -/
theorem recallActions : Obligations.RecallActions := by
  intro s seq src tag area n h
  have hscene : exec (.recallScene seq src tag area) s = .next
      (((s.taken .command seq n).recallScene area.toNat).1.reply tag
        ((s.taken .command seq n).recallScene area.toNat).2 []) := congrArg _ (State.action_of_takes h)
  have hfactory : exec (.recallFactory seq src tag) s = .next
      ((s.taken .command seq n).recallFactory.1.reply tag (s.taken .command seq n).recallFactory.2 []) :=
    congrArg _ (State.action_of_takes h)
  have hop : (s.taken .command seq n).scene.op = s.scene.op := rfl
  have hstate : (s.taken .command seq n).recorder.state = s.recorder.state := rfl
  have hscenes : (s.taken .command seq n).scene.scenes = s.scene.scenes := rfl
  refine ⟨?_, fun hbusy => ?_, fun hidle hrec => ?_, fun hidle hrest => ?_⟩
  · rw [hscene]
    split
    · next harea =>
      rw [State.recallScene, sceneOf_of_le harea]
      rfl
    next harea =>
    rw [State.recallScene, sceneOf_of_lt (Nat.lt_of_not_le harea)]
    dsimp only
    rw [hop, hstate, hscenes]
    split
    · next hbusy =>
      rw [if_pos (SceneOp.busy_iff.mpr hbusy)]
      rfl
    next hidle =>
    rw [if_neg (mt SceneOp.busy_iff.mp hidle)]
    split
    · next hrec =>
      rw [RecState.not_atRest_of_recording hrec]
      rfl
    next hrest =>
    have hrests : s.recorder.state.atRest = true := by
      cases hst : s.recorder.state with
      | idle | standby => rfl
      | starting | recording | stopping => exact absurd (hst ▸ rfl) hrest
    rw [hrests]
    cases s.scene.scenes.get (Four.ofIdx area.toNat) <;> rfl
  · rw [hfactory, State.recallFactory, hop, if_pos (SceneOp.busy_iff.mpr hbusy)]
    rfl
  · rw [hfactory, State.recallFactory, hop, hidle, hstate, RecState.not_atRest_of_recording hrec]
    rfl
  · refine ⟨_, hfactory, ?_⟩
    rw [State.recallFactory_of_rest (u := s.taken .command seq n) hidle hrest, State.reply_eq]
    dsimp only
    obtain ⟨hitems, hzoom, hvf, -, haudio⟩ := (s.taken .command seq n).loadContents_blocks factoryScene false
    have hloaded : (s.taken .command seq n).itemsLoaded factoryScene false = defaultItems := loadItems_default _
    obtain ⟨hstateEnd, hclip⟩ := State.loadContents_rests (s := s.taken .command seq n) (c := factoryScene)
      (b := false) hrest
    obtain ⟨hsup, hscenes, -⟩ := (s.taken .command seq n).loadContents_others factoryScene false
    rw [hloaded] at hitems haudio hstateEnd
    exact ⟨hitems, congrArg _ hzoom, congrArg _ hvf, congrArg _ hvf, hstateEnd, hclip, congrArg _ haudio,
      (congrArg Audio.gainTable haudio :), (congrArg Zoom.lens hzoom :), hsup, hscenes⟩

/-! ### The ends of scene memory's operations -/

/-- Settles O59. -/
theorem sceneMemoryEnds : Obligations.SceneMemoryEnds := by
  intro s
  refine ⟨fun k copy hop => ?_, fun copy hop => ?_, fun k contents started hop => ?_, fun k ok hwrite => ?_⟩
  · have hend (ok : Bool) : s.begin.endStore ok = { s with
        out := []
        scene := { s.scene with op := .idle, scenes := s.scene.scenes.set k (if ok then some copy else none) }
        body := s.body.hand (.notice (.store (.scene k) ok)) } := by
      rw [State.endStore, show s.begin.scene.op = .storeScene k copy from hop]
      rfl
    exact ⟨fun ok => congrArg _ (hend ok), congrArg _ (hend false)⟩
  · have hend (ok : Bool) : s.begin.endStore ok = { s with
        out := []
        scene := { s.scene with op := .idle, fixed := if ok then some copy else none }
        body := s.body.hand (.notice (.store .fixed ok)) } := by
      rw [State.endStore, show s.begin.scene.op = .storeFixed copy from hop]
      rfl
    exact ⟨fun ok => congrArg _ (hend ok), congrArg _ (hend false)⟩
  · let u : State := { s.begin with scene := { s.scene with op := .idle } }
    have hend : exec .recallCompletion s = .next ((u.loadContents contents started).notify (.store (.scene k) true)) := by
      refine congrArg _ (?_ : s.begin.endRecall = _)
      rw [State.endRecall, show s.begin.scene.op = .recallScene k contents started from hop]
      rfl
    refine ⟨_, hend, ?_⟩
    rw [State.notify_eq]
    dsimp only
    obtain ⟨hitems, hzoom, hvf, -, -⟩ := u.loadContents_blocks contents started
    obtain ⟨hsup, hscene, hbody⟩ := u.loadContents_others contents started
    refine ⟨hscene, congrArg _ hzoom, congrArg _ hvf, congrArg _ hvf, hitems, fun hrest => ?_, ⟨_, rfl, hbody⟩, hsup⟩
    rw [(State.loadContents_rests (s := u) hrest).1, hitems]
  · refine congrArg _ (?_ : { s.begin with scene := s.scene.endCellWrite ok } = _)
    rw [SceneMemory.endCellWrite, hwrite]
    cases hpending : s.scene.cellPending with
    | none => simp only [hpending]; rfl
    | some p => rfl

end Sys2Proof.Machine
end

section
/-! PROOF. The zoom drive's actions and timers, and the optics mode (1.4 to 1.8): each operation of the drive as one
equation of states. -/

namespace Sys2Proof.Machine

variable {s : State} {seq tag : Byte} {src : Source} {n : Nat}

/-! ### Operations of the drive -/

theorem State.endMove_eq (s : State) (e : MoveEnd) :
    s.endMove e = { s with zoom := { s.zoom with move := none }, body := moveEnded s.zoom s.body e } := by
  cases hm : s.zoom.move with
  | none =>
    have hz : { s.zoom with move := none } = s.zoom := by rw [← hm]
    simp [State.endMove, moveEnded, hm, hz]
  | some m => simp [State.endMove, moveEnded, hm, State.notify_eq]

/-- The body link once the pending preset of a drive, if there is one, has ended. -/
def pendingEnded (z : Zoom) (b : LinkCtl) (e : MoveEnd) : LinkCtl :=
  if z.pendingPreset.isSome = true then b.hand (.notice (.preset e)) else b

theorem pendingEnded_eq (z : Zoom) (b : LinkCtl) (e : MoveEnd) :
    pendingEnded z b e =
      match z.pendingPreset with
      | some _ => b.hand (.notice (.preset e))
      | none => b := by
  unfold pendingEnded
  cases z.pendingPreset <;> rfl

theorem State.endPending_eq (s : State) (e : MoveEnd) :
    s.endPending e =
      { s with zoom := { s.zoom with pendingPreset := none }, body := pendingEnded s.zoom s.body e } := by
  cases hp : s.zoom.pendingPreset with
  | none =>
    have hz : { s.zoom with pendingPreset := none } = s.zoom := by rw [← hp]
    simp [State.endPending, pendingEnded, hp, hz]
  | some j => simp [State.endPending, pendingEnded, hp, State.notify_eq]

/-- The arbiter recomputed: a changed speed is sent, restarts the refresh and loads the drop window (R21, R39). -/
theorem State.arbitrate_eq (s : State) :
    s.arbitrate =
      if s.zoom.maskSpeed s.zoom.classSpeed = s.zoom.sentSpeed then s
      else { s with
        head := s.head.hand (.zoomCmd (s.zoom.maskSpeed s.zoom.classSpeed))
        zoom := { s.zoom with sentSpeed := s.zoom.maskSpeed s.zoom.classSpeed, refresh := .running 20 }
        stab := { s.stab with dropWindow := s.items.stab.dropWindow } } := by
  rcases s.arbitrate_cases with ⟨h, ha⟩ | ⟨h, ha⟩
  · rw [if_pos h, ha]
  · rw [if_neg h, ha]

theorem State.arbitrate_outside (s : State) : sameOutside [.head, .zoom, .stab] s s.arbitrate := by
  simp [sameOutside_iff]

/-- The arbiter leaves the claims as they are and sends the masked class speed. -/
theorem State.arbitrate_sent (s : State) :
    s.arbitrate.zoom.sentSpeed = s.arbitrate.zoom.maskSpeed s.arbitrate.zoom.classSpeed := by
  rw [State.arbitrate_zoom]
  rfl

/-- A COMMAND taken changes the body link and empties the output. -/
theorem State.taken_command_frame (s : State) (seq : Byte) (n : Nat) :
    sameOutside [.out, .body] s (s.taken .command seq n) := by
  simp [sameOutside_iff, State.taken, InKind.link, State.setLink]

/-- Settles O27. -/
theorem zoomStopEndsPresets : Obligations.ZoomStopEndsPresets := by
  intro s seq src tag n h
  let u := s.taken .command seq n
  let v : State := { u with
    zoom := { s.zoom with move := none, pendingPreset := none }
    body := pendingEnded s.zoom (moveEnded s.zoom u.body .cancelled) .cancelled }
  have hstop : u.zoomStop = (v.arbitrate, .ok) := by
    rw [State.zoomStop, State.endMove_eq, State.endPending_eq]
    rfl
  have hexec : exec (.zoomStop seq src tag) s = .next (u.zoomStop.1.reply tag u.zoomStop.2 []) :=
    congrArg _ (State.action_of_takes h)
  rw [hstop, State.reply_eq] at hexec
  have hzoom := v.arbitrate_zoom
  have hsent := v.arbitrate_sent
  refine ⟨_, hexec, congrArg Zoom.move hzoom, congrArg Zoom.pendingPreset hzoom, ?_, (congrArg Zoom.rocker hzoom :),
    (congrArg Zoom.stopGroups hzoom :), (congrArg Zoom.report hzoom :), ?_, hsent, ?_⟩
  · exact congrArg (LinkCtl.hand · _) v.arbitrate_keeps.1
  · change v.arbitrate.zoom.grant = _
    rw [hzoom]
    have hclaim : v.zoom.stopClaim = true ↔ _ := s.zoom.stopClaim_iff
    by_cases hc : s.zoom.stopClaim = true
    · rw [if_pos (s.zoom.stopClaim_iff.mp hc)]
      exact Zoom.grant_of_stop (z := v.zoom) hc
    · rw [if_neg (mt s.zoom.stopClaim_iff.mpr hc)]
      exact if_neg hc
  · refine ((s.taken_command_frame seq n).mono (by simp)).trans (sameOutside.trans (t := v) ?_
      ((v.arbitrate_outside.mono (by simp)).trans ?_)) <;> simp [sameOutside_iff, v, u]

/-! ### ACTION ZOOM_PRESET (R12) -/

/-- A ZOOM_PRESET in range is the arbiter's judgement of the request. -/
theorem State.zoomPreset_of_mem {u : State} {k : Nat} (hk : ¬(k < 1 ∨ 4 < k)) :
    u.zoomPreset k = ((u.requestPreset false k).1.arbitrate, (u.requestPreset false k).2) := by
  rw [State.zoomPreset, if_neg hk]

/-- With the masked class speed sent already, the arbiter changes nothing. -/
theorem State.arbitrate_of_sent {u : State} (hsent : u.zoom.maskSpeed u.zoom.classSpeed = u.zoom.sentSpeed) :
    u.arbitrate = u := by
  rw [State.arbitrate_eq, if_pos hsent]

theorem State.startPreset_far {u : State} {k : Nat} {p : Preset} (hp : u.zoom.presets[k - 1]? = some p)
    (hfar : u.items.zoom.arriveWindow < ((p.target : Int) - u.zoom.report.z).natAbs) :
    u.startPreset k = { u with
      zoom := { u.zoom with
        move := some ⟨k, p.target, p.speed,
          presetSpeed u.items.zoom p.speed ((p.target : Int) - u.zoom.report.z),
          .running (u.items.zoom.presetTimeout * 1000)⟩ } } := by
  have hget : u.zoom.presets.getD (k - 1) ⟨0, 0⟩ = p := by rw [List.getD_eq_getElem?_getD, hp]; rfl
  rw [State.startPreset, hget, State.stepMove]
  exact if_neg (Nat.not_le_of_lt hfar)

theorem State.endMove_of_none {u : State} {e : MoveEnd} (h : u.zoom.move = none) : u.endMove e = u := by
  rw [State.endMove, h]

/-- The preset speed with its magnitude among the integers (R14). -/
theorem presetSpeed_int (it : ZoomItems) (speed : Nat) (far : Int) :
    presetSpeed it speed far =
      (let mag : Int :=
        if it.approach ≤ far.natAbs then (speed : Int) else max 16 ((speed * far.natAbs / it.approach : Nat) : Int)
       if far < 0 then -mag else mag) := by
  rw [presetSpeed_eq]
  dsimp only
  split <;> simp

/-- Settles O26. -/
theorem zoomPresetJudged : Obligations.ZoomPresetJudged := by
  intro s seq src tag k n h hs
  let u := s.taken .command seq n
  have hexec : exec (.zoomPreset seq src tag k) s =
      .next ((u.zoomPreset k.toNat).1.reply tag (u.zoomPreset k.toNat).2 []) := congrArg _ (State.action_of_takes h)
  have hsent : u.zoom.maskSpeed u.zoom.classSpeed = u.zoom.sentSpeed := hs.symm
  have hstop : u.zoom.stopClaim = true ↔ s.zoom.report.fault = true ∨ s.zoom.stopGroups ≠ [] := u.zoom.stopClaim_iff
  dsimp only
  rw [hexec]
  split
  · next hk =>
    rw [State.zoomPreset, if_pos hk]
    rfl
  next hk =>
  rw [State.zoomPreset_of_mem hk, State.requestPreset]
  split
  · next hsetup =>
    rw [show u.zoom.mode = .setup from hsetup]
    dsimp only
    rw [State.arbitrate_of_sent hsent]
    rfl
  next hrun =>
  have hmode : u.zoom.mode = .run := by
    cases hm : u.zoom.mode with
    | run => rfl
    | setup => exact absurd hm hrun
  rw [hmode]
  split
  · next hclaim =>
    rw [Zoom.grant_of_stop (hstop.mpr hclaim)]
    dsimp only
    rw [if_neg Bool.false_ne_true, State.arbitrate_of_sent hsent]
    rfl
  next hclaim =>
  split
  · next hrocker =>
    rw [Zoom.grant_of_rocker (mt hstop.mp hclaim) hrocker, State.endPending_eq]
    dsimp only
    rw [State.arbitrate_of_sent (by exact hsent), State.reply_eq, pendingEnded_eq]
    rfl
  next hrocker =>
  intro p hmove hp hfar
  have hgrant : u.zoom.grant = .none := by
    simp [Zoom.grant, mt hstop.mp hclaim, show ¬u.zoom.rocker.isSome = true from hrocker,
      show u.zoom.move = none from hmove]
  let far : Int := (p.target : Int) - s.zoom.report.z
  let v : State := { u with
    zoom := { s.zoom with
      move := some ⟨k.toNat, p.target, p.speed, presetSpeed s.items.zoom p.speed far,
        .running (s.items.zoom.presetTimeout * 1000)⟩ } }
  have hstart : (u.endMove .cancelled).startPreset k.toNat = v := by
    rw [State.endMove_of_none (u := u) hmove, State.startPreset_far (u := u) hp hfar]
    rfl
  have hspeed : v.zoom.maskSpeed v.zoom.classSpeed =
      v.zoom.maskSpeed (presetSpeed s.items.zoom p.speed far) := by
    rw [v.zoom.classSpeed_eq hstop, if_neg hclaim, show v.zoom.rocker = none from Option.not_isSome_iff_eq_none.mp hrocker]
  rw [hgrant]
  dsimp only
  rw [hstart, State.reply_eq]
  refine ⟨_, rfl, ?_, ?_, fun hchanged => ?_, ?_, ?_⟩
  · rw [State.arbitrate_zoom, ← presetSpeed_int]
  · rw [State.arbitrate_zoom, hspeed, Zoom.maskSpeed_eq, ← presetSpeed_int]
  · rw [State.arbitrate_head, hspeed, Zoom.maskSpeed_eq]
    rw [← presetSpeed_int] at hchanged ⊢
    exact if_neg hchanged
  · rw [v.arbitrate_keeps.1]
    rfl
  · refine ((s.taken_command_frame seq n).mono (by simp)).trans (sameOutside.trans (t := v) ?_
      ((v.arbitrate_outside.mono (by simp)).trans ?_)) <;> simp [sameOutside_iff, v, u]

/-! ### The drive's timers -/

/-- Settles O28. -/
theorem zoomTimers : Obligations.ZoomTimers := by
  intro s ms
  refine ⟨fun h => ?_, fun m hm h => ?_, fun h => ?_⟩
  · let v : State := { s.begin with
      zoom := { s.zoom with rocker := none, rockerLapse := .expired, pendingPreset := none }
      body := pendingEnded s.zoom s.body .cancelled }
    have hlapse : s.begin.rockerLapse = v.arbitrate := by
      rw [State.rockerLapse, State.endPending_eq]
      rfl
    have hzoom := v.arbitrate_zoom
    refine ⟨_, exec_rockerLapse_of_running h, ?_⟩
    rw [hlapse]
    exact ⟨congrArg Zoom.rocker hzoom, congrArg Zoom.pendingPreset hzoom, (congrArg Zoom.move hzoom :),
      congrArg Zoom.rockerLapse hzoom, v.arbitrate_sent, v.arbitrate_keeps.1.trans (pendingEnded_eq ..)⟩
  · let v : State := { s.begin with
      zoom := { s.zoom with move := none }, body := moveEnded s.zoom s.body .timedOut }
    have hexec : exec .presetTimeoutExpiry s = .next v.arbitrate := by
      refine congrArg Host.Outcome.next
        (?_ : s.begin.expire s.zoom.moveTimer (fun u => (u.endMove .timedOut).arbitrate) = _)
      rw [Zoom.moveTimer, hm]
      dsimp only
      rw [h]
      exact congrArg State.arbitrate (s.begin.endMove_eq .timedOut)
    have hzoom := v.arbitrate_zoom
    refine ⟨_, hexec, (congrArg Zoom.move hzoom :), (congrArg Zoom.pendingPreset hzoom :), v.arbitrate_sent,
      v.arbitrate_keeps.1.trans ?_⟩
    exact if_pos (by rw [hm]; rfl)
  · refine congrArg Host.Outcome.next (?_ : s.begin.expire s.zoom.refresh State.sendZoom = _)
    rw [h]
    rfl

/-! ### The optics mode (R24, R25) -/

/-- A relation of neighbours in a list, taken apart at its head. -/
theorem forall_neighbours_cons {α : Type} {R : α → α → Prop} {a b : α} {l : List α} :
    (∀ (i : Nat) (x y : α), (a :: b :: l)[i]? = some x → (a :: b :: l)[i + 1]? = some y → R x y) ↔
      R a b ∧ ∀ (i : Nat) (x y : α), (b :: l)[i]? = some x → (b :: l)[i + 1]? = some y → R x y := by
  constructor
  · intro h
    exact ⟨h 0 a b rfl rfl, fun i x y hx hy => h (i + 1) x y hx hy⟩
  · rintro ⟨hab, h⟩ i x y hx hy
    cases i with
    | zero =>
      cases hx
      cases hy
      exact hab
    | succ i => exact h i x y hx hy

theorem strictlyIncreasing_iff (l : List LensEntry) :
    strictlyIncreasing l = true ↔ ∀ i e f, l[i]? = some e → l[i + 1]? = some f → e.z < f.z := by
  induction l with
  | nil => simp [strictlyIncreasing]
  | cons e l ih =>
    cases l with
    | nil => simp [strictlyIncreasing]
    | cons f l => rw [forall_neighbours_cons (R := fun e f : LensEntry => e.z < f.z), ← ih, strictlyIncreasing,
        Bool.and_eq_true, decide_eq_true_eq]

theorem lensTableValid_iff (l : List LensEntry) :
    lensTableValid l = true ↔
      2 ≤ l.length ∧ ∀ i e f, l[i]? = some e → l[i + 1]? = some f → e.z < f.z := by
  rw [lensTableValid, Bool.and_eq_true, decide_eq_true_eq, strictlyIncreasing_iff]

theorem curveAscending_iff (a : Option Nat) (l : List (Option Nat)) :
    curveAscending (a :: l) = true ↔
      (∀ v ∈ a :: l, v.isSome = true) ∧
      ∀ i x y, (a :: l)[i]? = some (some x) → (a :: l)[i + 1]? = some (some y) → x ≤ y := by
  induction l generalizing a with
  | nil => cases a <;> simp [curveAscending]
  | cons b l ih =>
    cases a with
    | none => simp [curveAscending]
    | some x =>
      cases b with
      | none => simp [curveAscending]
      | some y =>
        rw [curveAscending, Bool.and_eq_true, decide_eq_true_eq, ih]
        constructor
        · rintro ⟨hxy, hset, hasc⟩
          refine ⟨List.forall_mem_cons.mpr ⟨rfl, hset⟩, fun i v w hv hw => ?_⟩
          cases i with
          | zero =>
            cases hv
            cases hw
            exact hxy
          | succ i => exact hasc i v w hv hw
        · rintro ⟨hset, hasc⟩
          exact ⟨hasc 0 x y rfl rfl, (List.forall_mem_cons.mp hset).2, fun i v w hv hw => hasc (i + 1) v w hv hw⟩

theorem curveValid_iff (l : List (Option Nat)) :
    curveValid l = true ↔
      l.length = 9 ∧ (∀ v ∈ l, v.isSome = true) ∧
      ∀ i a b, l[i]? = some (some a) → l[i + 1]? = some (some b) → a ≤ b := by
  rw [curveValid, Bool.and_eq_true, decide_eq_true_eq]
  cases l with
  | nil => simp
  | cons a l => rw [curveAscending_iff]

theorem Zoom.tablesValid_iff (z : Zoom) :
    z.tablesValid = true ↔ lensTableValid z.lens = true ∧ curveValid z.curve = true := by
  rw [Zoom.tablesValid, Bool.and_eq_true]

/-- What ENTER_SETUP makes of the stabiliser (R25, R31). -/
theorem State.setupStabOff_eq (s : State) :
    s.setupStabOff = { s with
      stab := s.setupStabOff.stab
      head := if s.stab.state = .off then s.head else s.head.hand (.shiftCmd ⟨0, 0⟩) } ∧
    s.setupStabOff.stab.state = .off ∧ s.setupStabOff.stab.reason = .setup ∧
    s.setupStabOff.stab.yaw.base = s.stab.yaw.base ∧ s.setupStabOff.stab.pitch.base = s.stab.pitch.base := by
  rw [State.setupStabOff]
  cases hst : s.stab.state with
  | off => exact ⟨rfl, hst, rfl, rfl, rfl⟩
  | settling => exact ⟨rfl, rfl, rfl, rfl, rfl⟩
  | running => exact ⟨rfl, rfl, rfl, rfl, rfl⟩

/-- Settles O29. -/
theorem opticsModeActions : Obligations.OpticsModeActions := by
  intro s seq src tag n h
  let u := s.taken .command seq n
  have hrun : exec (.enterRun seq src tag) s = .next (u.enterRun.1.reply tag u.enterRun.2 []) :=
    congrArg _ (State.action_of_takes h)
  have hsetup : exec (.enterSetup seq src tag) s = .next (u.enterSetup.1.reply tag u.enterSetup.2 []) :=
    congrArg _ (State.action_of_takes h)
  refine ⟨fun hmode => ?_, fun hmode => ⟨fun hvalid => ?_, fun hvalid => ?_, ?_⟩, fun hmode => ?_⟩
  · rw [hrun, State.enterRun, show u.zoom.mode = .run from hmode]
    rfl
  · obtain ⟨hlength, hrise, hcurve⟩ := hvalid
    have htables : u.zoom.tablesValid = true :=
      (Zoom.tablesValid_iff _).mpr ⟨(lensTableValid_iff _).mpr ⟨hlength, hrise⟩, (curveValid_iff _).mpr hcurve⟩
    rw [hrun, State.enterRun, show u.zoom.mode = .setup from hmode]
    dsimp only
    rw [if_pos htables]
    rfl
  · have htables : ¬u.zoom.tablesValid = true := fun ht => hvalid <| by
      obtain ⟨hlens, hcurve⟩ := (Zoom.tablesValid_iff _).mp ht
      obtain ⟨hlength, hrise⟩ := (lensTableValid_iff _).mp hlens
      exact ⟨hlength, hrise, (curveValid_iff _).mp hcurve⟩
    rw [hrun, State.enterRun, show u.zoom.mode = .setup from hmode]
    dsimp only
    rw [if_neg htables]
    rfl
  · rw [hsetup, State.enterSetup, show u.zoom.mode = .setup from hmode]
    rfl
  · have hrefused : (s.recorder.state ∈ [RecState.starting, .recording, .stopping] ∨ s.zoom.move.isSome = true) ↔
        (u.recorder.state.recording? || u.zoom.move.isSome) = true := by
      rw [Bool.or_eq_true]
      refine or_congr ?_ Iff.rfl
      change _ ↔ s.recorder.state.recording? = true
      cases s.recorder.state <;> simp [RecState.recording?]
    rw [hsetup, State.enterSetup, show u.zoom.mode = .run from hmode]
    dsimp only
    split
    · next hbusy =>
      rw [if_pos (hrefused.mp hbusy)]
      rfl
    · next hfree =>
      let v : State := { u with
        zoom := { s.zoom with pendingPreset := none }, body := pendingEnded s.zoom u.body .cancelled }
      obtain ⟨hoff, hstate, hreason, hyaw, hpitch⟩ := v.setupStabOff_eq
      rw [if_neg (mt hrefused.mpr hfree), State.endPending_eq, State.notifyMode, State.notify_eq, State.reply_eq]
      change ∃ t, Host.Outcome.next _ = _ ∧ _
      refine ⟨_, rfl, ?_, hstate, hreason, hyaw, hpitch, ?_, ?_, ?_⟩
      · change { v.setupStabOff.zoom with mode := .setup } = _
        rw [show v.setupStabOff.zoom = v.zoom from (congrArg State.zoom hoff :)]
      · exact congrArg State.head hoff
      · change (v.setupStabOff.body.hand (.notice (.mode .setup v.setupStabOff.stab.state .setup))).hand _ = _
        rw [hstate, show v.setupStabOff.body = v.body from (congrArg State.body hoff :)]
        exact congrArg (fun b : LinkCtl => (b.hand _).hand _) (pendingEnded_eq ..)
      · refine ((s.taken_command_frame seq n).mono (by simp)).trans (sameOutside.trans (t := v) ?_
          (sameOutside.trans (t := v.setupStabOff) ?_ ?_)) <;> simp [sameOutside_iff, v, u]

/-! ### LENS_REPORT (R14, R15, R19 to R22, R45) -/

/-- How far a move has to go from a zoom position. -/
def Move.far (m : Move) (z : Nat) : Int := (m.target : Int) - z

/-- A move of the drive has come within the window of its target (R14). -/
def Zoom.arrives (z : Zoom) (window : Nat) : Bool :=
  match z.move with
  | none => false
  | some m => decide ((m.far z.report.z).natAbs ≤ window)

/-- The move of a drive after a report: arrived, or under way with the speed for its distance (R14, R15). -/
def Zoom.moveStepped (z : Zoom) (it : ZoomItems) : Option Move :=
  if z.arrives it.arriveWindow then none
  else z.move.map fun m => { m with current := presetSpeed it m.speed (m.far z.report.z) }

theorem State.stepMove_eq (s : State) :
    s.stepMove = { s with
      zoom := { s.zoom with move := s.zoom.moveStepped s.items.zoom }
      body :=
        if s.zoom.arrives s.items.zoom.arriveWindow then s.body.hand (.notice (.preset .arrived)) else s.body } := by
  cases hm : s.zoom.move with
  | none =>
    have hz : { s.zoom with move := none } = s.zoom := by rw [← hm]
    simp [State.stepMove, Zoom.moveStepped, Zoom.arrives, hm, hz]
  | some m =>
    rw [State.stepMove, hm]
    dsimp only
    split
    · next hnear =>
      have harrives : s.zoom.arrives s.items.zoom.arriveWindow = true := by
        rw [Zoom.arrives, hm]
        exact decide_eq_true hnear
      rw [Zoom.moveStepped, if_pos harrives, if_pos harrives, State.endMove_eq, moveEnded, hm]
      rfl
    · next hfar =>
      have harrives : ¬s.zoom.arrives s.items.zoom.arriveWindow = true := by
        rw [Zoom.arrives, hm]
        exact fun h => hfar (of_decide_eq_true h)
      rw [Zoom.moveStepped, if_neg harrives, if_neg harrives, hm]
      rfl

/-- The stop claim that arises ends the move and the pending preset STOPPED (R19). -/
theorem State.stopArises_eq (s : State) (before : Bool) :
    s.stopArises before =
      if !before && s.zoom.stopClaim then
        { s with
          zoom := { s.zoom with move := none, pendingPreset := none, stopFresh := true }
          body := pendingEnded s.zoom (moveEnded s.zoom s.body .stopped) .stopped }
      else s := by
  rw [State.stopArises, State.endMove_eq, State.endPending_eq]
  rfl

theorem State.arbitrate_stab (s : State) :
    s.arbitrate.stab =
      if s.zoom.maskSpeed s.zoom.classSpeed = s.zoom.sentSpeed then s.stab
      else { s.stab with dropWindow := s.items.stab.dropWindow } := by
  rw [State.arbitrate_eq]
  split <;> rfl

/-- The drive with the last report and its silence timer (R22). -/
def Zoom.noted (z : Zoom) (r : LensReport) : Zoom :=
  { z with report := r, lensSilence := .running 20, lensSilentPresent := false }

/-- The drive that a LENS_REPORT leaves to the arbiter. -/
def Zoom.reported (z : Zoom) (it : ZoomItems) (r : LensReport) (arises : Bool) : Zoom :=
  { z.noted r with
    move := if arises then none else (z.noted r).moveStepped it
    pendingPreset := if arises then none else z.pendingPreset
    stopFresh := arises || z.stopFresh }

/-- The body link after the notices of a LENS_REPORT. -/
def Zoom.reportTold (z : Zoom) (it : ZoomItems) (r : LensReport) (arises : Bool) (b : LinkCtl) : LinkCtl :=
  let arrived := (z.noted r).arrives it.arriveWindow
  let moved :=
    if arrived then b.hand (.notice (.preset .arrived))
    else if arises && z.move.isSome then b.hand (.notice (.preset .stopped)) else b
  if arises && z.pendingPreset.isSome then moved.hand (.notice (.preset .stopped)) else moved

/-- A report makes the stop claim arise: a lens fault where no cause of it stood (R19). -/
def Zoom.stopRaised (z : Zoom) (r : LensReport) : Bool := !z.stopClaim && r.fault

theorem Zoom.arrives_of_none {z : Zoom} {window : Nat} (h : z.move = none) : z.arrives window = false := by
  rw [Zoom.arrives, h]

/-- A move that has arrived is over, one that has not is still there. -/
theorem Zoom.moveStepped_isSome (z : Zoom) (it : ZoomItems) :
    (z.moveStepped it).isSome = (!z.arrives it.arriveWindow && z.move.isSome) := by
  rw [Zoom.moveStepped]
  cases z.arrives it.arriveWindow <;> simp

theorem State.takeReport_eq (s : State) (r : LensReport) :
    s.takeReport r =
      ({ s with
        stab := s.stab.crossCheck s.items.stab r.shift
        zoom := s.zoom.reported s.items.zoom r (s.zoom.stopRaised r)
        body := s.zoom.reportTold s.items.zoom r (s.zoom.stopRaised r) s.body } : State).arbitrate := by
  have hclaim : (!s.zoom.stopClaim && (r.fault || !s.zoom.stopGroups.isEmpty)) = s.zoom.stopRaised r := by
    rw [Zoom.stopRaised, Zoom.stopClaim]
    cases s.zoom.stopGroups.isEmpty <;> simp
  rw [State.takeReport, State.takeLensReport]
  let noted : State := { s with stab := s.stab.crossCheck s.items.stab r.shift, zoom := s.zoom.noted r }
  refine congrArg State.arbitrate (?_ : noted.stepMove.stopArises s.zoom.stopClaim = _)
  rw [State.stepMove_eq, State.stopArises_eq]
  change (if (!s.zoom.stopClaim && (r.fault || !s.zoom.stopGroups.isEmpty)) = true then _ else _) = _
  rw [hclaim]
  have hsome := (s.zoom.noted r).moveStepped_isSome s.items.zoom
  cases hraised : s.zoom.stopRaised r with
  | false => rfl
  | true =>
    rw [if_pos rfl, moveEnded, pendingEnded, Zoom.reportTold, Zoom.reported]
    dsimp only [noted]
    rw [hsome]
    cases (s.zoom.noted r).arrives s.items.zoom.arriveWindow <;> rfl

/-- The cross-check changes the two mismatch indicators alone (R45). -/
theorem Stabiliser.crossCheck_eq (st : Stabiliser) (it : StabItems) (m : YawPitch Int) :
    st.crossCheck it m = { st with
      yaw := { st.yaw with mismatch := (st.crossCheck it m).yaw.mismatch }
      pitch := { st.pitch with mismatch := (st.crossCheck it m).pitch.mismatch } } := by
  rw [Stabiliser.crossCheck]
  split
  · split <;> rfl
  · rfl

theorem Stabiliser.crossCheck_with_drop (st : Stabiliser) (it : StabItems) (m : YawPitch Int) (w : Nat) :
    { st.crossCheck it m with dropWindow := w } = { st with
      dropWindow := w
      yaw := { st.yaw with mismatch := (st.crossCheck it m).yaw.mismatch }
      pitch := { st.pitch with mismatch := (st.crossCheck it m).pitch.mismatch } } :=
  congrArg (fun checked : Stabiliser => { checked with dropWindow := w }) (st.crossCheck_eq it m)

/-- The cross-check compares the measured shift with the oldest of four commands, while running with gyro hold
clear (R45). -/
theorem Stabiliser.crossCheck_of_full {st : Stabiliser} {o a b c : YawPitch Int} (hstate : st.state = .running)
    (hhold : st.hold = false) (hring : st.ring = [o, a, b, c]) (it : StabItems) (m : YawPitch Int) :
    (st.crossCheck it m).yaw.mismatch = decide (it.mismatchTol < (m.yaw - o.yaw).natAbs) ∧
    (st.crossCheck it m).pitch.mismatch = decide (it.mismatchTol < (m.pitch - o.pitch).natAbs) := by
  rw [Stabiliser.crossCheck, if_pos ⟨hstate, hhold, by rw [hring]; rfl⟩, hring]
  exact ⟨rfl, rfl⟩

theorem Stabiliser.crossCheck_of_other {st : Stabiliser}
    (h : ∀ o a b c, st.state = .running → st.hold = false → st.ring = [o, a, b, c] → False) (it : StabItems)
    (m : YawPitch Int) : st.crossCheck it m = st := by
  refine if_neg fun hchecked => ?_
  obtain ⟨hstate, hhold, hlength⟩ := hchecked
  obtain ⟨o, a, b, c, hring⟩ := List.length_eq_four.mp hlength
  exact h o a b c hstate hhold hring

/-- Settles O24. -/
theorem lensReportTaken : Obligations.LensReportTaken := by
  intro s seq z yaw pitch status n h u arises far arrives
  let r := lensReportOf z yaw pitch status
  let v : State := { u with
    stab := s.stab.crossCheck s.items.stab r.shift
    zoom := s.zoom.reported s.items.zoom r (s.zoom.stopRaised r)
    body := s.zoom.reportTold s.items.zoom r (s.zoom.stopRaised r) u.body }
  have hexec : exec (.lensReport seq z yaw pitch status) s = .next v.arbitrate :=
    congrArg Host.Outcome.next ((State.intake_of_takes h).trans (u.takeReport_eq r))
  have harises : s.zoom.stopRaised r = true ↔ arises := by
    have hclaim := s.zoom.stopClaim_iff
    rw [Zoom.stopRaised, Bool.and_eq_true, Bool.not_eq_true', ← Bool.not_eq_true, hclaim, not_or, Bool.not_eq_true,
      not_not, and_comm]
    rfl
  have hdecide : decide arises = s.zoom.stopRaised r := by
    rw [Bool.eq_iff_iff, decide_eq_true_eq, harises]
  have hpending : (if s.zoom.stopRaised r then none else s.zoom.pendingPreset) =
      if arises then none else s.zoom.pendingPreset := if_congr harises rfl rfl
  have hzoom := v.arbitrate_zoom
  have hreport : v.arbitrate.zoom.report = r := congrArg Zoom.report hzoom
  have hmove : v.arbitrate.zoom.move =
      if s.zoom.stopRaised r then none else (s.zoom.noted r).moveStepped s.items.zoom :=
    congrArg Zoom.move hzoom
  have harrives {m : Move} (hm : s.zoom.move = some m) :
      (s.zoom.noted r).arrives s.items.zoom.arriveWindow = decide (arrives m) := by
    rw [Zoom.arrives, show (s.zoom.noted r).move = some m from hm]
    rfl
  have hsent := v.arbitrate_sent
  rw [Zoom.maskSpeed_eq, hreport] at hsent
  refine ⟨_, hexec, ?_, ?_, ?_, ?_, hsent, ?_, ?_, ?_⟩
  · rw [State.arbitrate_eq]
    split <;> rfl
  · rw [hzoom, hdecide, ← hpending]
    rfl
  · rw [hmove]
    cases hm : s.zoom.move with
    | none =>
      rw [Zoom.moveStepped, show (s.zoom.noted r).move = none from hm]
      simp
    | some m =>
      dsimp only
      rw [Zoom.moveStepped, harrives hm, show (s.zoom.noted r).move = some m from hm]
      by_cases hnear : arrives m
      · simp [hnear]
      · by_cases hraised : arises
        · simp [harises.mpr hraised, hraised]
        · simp only [mt harises.mp hraised, hnear, hraised, or_self, decide_false, Bool.false_eq_true, if_false,
            Option.map_some, presetSpeed_int]
          rfl
  · rw [v.arbitrate_keeps.1]
    have hmoved :
        (if (s.zoom.noted r).arrives s.items.zoom.arriveWindow = true then u.body.hand (.notice (.preset .arrived))
        else if (s.zoom.stopRaised r && s.zoom.move.isSome) = true then u.body.hand (.notice (.preset .stopped))
        else u.body) =
          match s.zoom.move with
          | none => u.body
          | some m =>
            if arrives m then u.body.hand (.notice (.preset .arrived))
            else if arises then u.body.hand (.notice (.preset .stopped))
            else u.body := by
      cases hm : s.zoom.move with
      | none => simp [Zoom.arrives_of_none (z := s.zoom.noted r) hm]
      | some m => simp [harrives hm, harises]
    change (if (s.zoom.stopRaised r && s.zoom.pendingPreset.isSome) = true then _ else _) = _
    rw [hmoved]
    exact if_congr (by rw [Bool.and_eq_true, harises]) rfl rfl
  · have hspeed : v.arbitrate.zoom.sentSpeed = v.zoom.maskSpeed v.zoom.classSpeed := congrArg Zoom.sentSpeed hzoom
    have hrefresh : v.arbitrate.zoom.refresh =
        if v.zoom.maskSpeed v.zoom.classSpeed = v.zoom.sentSpeed then v.zoom.refresh else .running 20 :=
      congrArg Zoom.refresh hzoom
    have hchecked : v.stab.dropWindow = s.stab.dropWindow := (congrArg Stabiliser.dropWindow (s.stab.crossCheck_eq ..) :)
    rw [hspeed, State.arbitrate_head, State.arbitrate_stab, hrefresh]
    by_cases hsame : v.zoom.maskSpeed v.zoom.classSpeed = s.zoom.sentSpeed
    · rw [if_pos hsame]
      exact ⟨if_pos hsame, if_pos hsame, (congrArg Stabiliser.dropWindow (if_pos hsame)).trans hchecked⟩
    · rw [if_neg hsame]
      exact ⟨if_neg hsame, if_neg hsame, congrArg Stabiliser.dropWindow (if_neg hsame)⟩
  · rw [State.arbitrate_stab]
    split <;> exact s.stab.crossCheck_with_drop s.items.stab r.shift _
  · have hkept : v.arbitrate.stab.yaw.mismatch = v.stab.yaw.mismatch ∧
        v.arbitrate.stab.pitch.mismatch = v.stab.pitch.mismatch := by
      rw [State.arbitrate_stab]
      split <;> exact ⟨rfl, rfl⟩
    rw [hkept.1, hkept.2]
    split
    · next o a b c hstate hhold hring => exact Stabiliser.crossCheck_of_full hstate hhold hring ..
    · next hother =>
      have hsame : v.stab = s.stab := Stabiliser.crossCheck_of_other hother ..
      rw [hsame]
      exact ⟨rfl, rfl⟩

end Sys2Proof.Machine
end

section
/-! PROOF. The interpolation service over a valid lens table (1.3). -/

namespace Sys2Proof.Machine

/-! ### A value between two entries (R6) -/

/-- The part of a difference that a position strictly between two others takes lies between 0 and the difference. -/
theorem tdiv_part_between {d a b : Int} (ha : 0 < a) (hb : a < b) :
    min 0 d ≤ Int.tdiv (d * a) b ∧ Int.tdiv (d * a) b ≤ max 0 d := by
  have hpositive : 0 < b := ha.trans hb
  have part {e : Int} (he : 0 ≤ e) : 0 ≤ Int.tdiv (e * a) b ∧ Int.tdiv (e * a) b ≤ e := by
    have hprod : 0 ≤ e * a := mul_nonneg he ha.le
    rw [Int.tdiv_eq_ediv_of_nonneg hprod]
    exact ⟨Int.ediv_nonneg hprod hpositive.le, Int.ediv_le_of_le_mul hpositive (mul_le_mul_of_nonneg_left hb.le he)⟩
  rcases le_total 0 d with hd | hd
  · rw [min_eq_left hd, max_eq_right hd]
    exact part hd
  · obtain ⟨hlow, hhigh⟩ := part (neg_nonneg.mpr hd)
    rw [neg_mul, Int.neg_tdiv] at hlow hhigh
    rw [min_eq_right hd, max_eq_left hd]
    omega

theorem interpolate_between {za zb z : Nat} (va vb : Nat) (ha : za < z) (hb : z < zb) :
    (interpolate va vb za zb z : Int) =
      (va : Int) + Int.tdiv (((vb : Int) - va) * ((z : Int) - za)) ((zb : Int) - za) ∧
    min va vb ≤ interpolate va vb za zb z ∧ interpolate va vb za zb z ≤ max va vb := by
  obtain ⟨hlow, hhigh⟩ := tdiv_part_between (d := (vb : Int) - va) (a := (z : Int) - za) (b := (zb : Int) - za)
    (by omega) (by omega)
  rw [interpolate, truncDiv]
  omega

/-! ### The entry that answers -/

theorem strictlyIncreasing_cons {e : LensEntry} {l : List LensEntry} (h : strictlyIncreasing (e :: l) = true) :
    strictlyIncreasing l = true ∧ ∀ f ∈ l, e.z < f.z := by
  induction l generalizing e with
  | nil => exact ⟨rfl, fun _ hf => nomatch hf⟩
  | cons f l ih =>
    rw [strictlyIncreasing, Bool.and_eq_true, decide_eq_true_eq] at h
    obtain ⟨hlt, htail⟩ := h
    exact ⟨htail, List.forall_mem_cons.mpr ⟨hlt, fun g hg => hlt.trans ((ih htail).2 g hg)⟩⟩

theorem lensValues_of_le {e : LensEntry} {l : List LensEntry} {z : Nat} (h : z ≤ e.z) :
    lensValues (e :: l) z = e.values := by
  cases l with
  | nil => rfl
  | cons f l => rw [lensValues, if_pos h]

theorem lensValues_between {e f : LensEntry} {l : List LensEntry} {z : Nat} (he : e.z < z) (hf : z < f.z) :
    lensValues (e :: f :: l) z =
      ⟨interpolate e.gain f.gain e.z f.z z, interpolate e.focal f.focal e.z f.z z, min e.travel f.travel⟩ := by
  rw [lensValues, if_neg (Nat.not_le_of_lt he), if_pos hf]

/-- From the second entry on the table after the first answers. -/
theorem lensValues_of_past {e f : LensEntry} {l : List LensEntry} {z : Nat} (h : strictlyIncreasing (e :: f :: l) = true)
    (hz : f.z ≤ z) : lensValues (e :: f :: l) z = lensValues (f :: l) z := by
  have hlt : e.z < f.z := (strictlyIncreasing_cons h).2 f (List.mem_cons_self ..)
  rw [lensValues, if_neg (by omega), if_neg (by omega)]

theorem strictlyIncreasing_head_le {f x : LensEntry} {l : List LensEntry} (h : strictlyIncreasing (f :: l) = true)
    (hx : x ∈ f :: l) : f.z ≤ x.z := by
  rcases List.mem_cons.mp hx with rfl | hx
  · exact le_rfl
  · exact ((strictlyIncreasing_cons h).2 x hx).le

theorem lensValues_of_mem {l : List LensEntry} {z : Nat} (h : strictlyIncreasing l = true) :
    ∀ e ∈ l, e.z = z → lensValues l z = e.values := by
  induction l with
  | nil => exact fun _ he => nomatch he
  | cons d l ih =>
    intro e he hz
    rcases List.mem_cons.mp he with rfl | he
    · exact lensValues_of_le hz.ge
    · obtain ⟨htail, -⟩ := strictlyIncreasing_cons h
      cases l with
      | nil => exact nomatch he
      | cons f l =>
        rw [lensValues_of_past h (hz ▸ strictlyIncreasing_head_le htail he)]
        exact ih htail e he hz

theorem lensValues_above {l : List LensEntry} {z : Nat} (h : strictlyIncreasing l = true) {e : LensEntry}
    (he : l.getLast? = some e) (hz : e.z < z) : lensValues l z = e.values := by
  induction l with
  | nil => exact nomatch he
  | cons d l ih =>
    cases l with
    | nil =>
      cases he
      rfl
    | cons f l =>
      obtain ⟨htail, -⟩ := strictlyIncreasing_cons h
      rw [List.getLast?_cons_cons] at he
      rw [lensValues_of_past h ((strictlyIncreasing_head_le htail (List.mem_of_getLast? he)).trans hz.le)]
      exact ih htail he

theorem lensValues_inside {l : List LensEntry} {z : Nat} (h : strictlyIncreasing l = true) {i : Nat} {e f : LensEntry}
    (he : l[i]? = some e) (hf : l[i + 1]? = some f) (hlow : e.z < z) (hhigh : z < f.z) :
    lensValues l z =
      ⟨interpolate e.gain f.gain e.z f.z z, interpolate e.focal f.focal e.z f.z z, min e.travel f.travel⟩ := by
  induction l generalizing i with
  | nil => exact nomatch he
  | cons d l ih =>
    cases i with
    | zero =>
      cases he
      obtain ⟨tail, rfl⟩ : ∃ tail, l = f :: tail := by
        cases l with
        | nil => exact nomatch hf
        | cons g tail =>
          cases hf
          exact ⟨tail, rfl⟩
      exact lensValues_between hlow hhigh
    | succ i =>
      obtain ⟨htail, -⟩ := strictlyIncreasing_cons h
      have he : l[i]? = some e := he
      cases l with
      | nil => exact nomatch he
      | cons g l =>
        rw [lensValues_of_past h ((strictlyIncreasing_head_le htail (List.mem_of_getElem? he)).trans hlow.le)]
        exact ih htail he hf

/-- Settles O31. -/
theorem lensInterpolation : Obligations.LensInterpolation := by
  intro l z hvalid
  rw [lensTableValid, Bool.and_eq_true] at hvalid
  obtain ⟨-, hrise⟩ := hvalid
  refine ⟨fun e he hz => ?_, fun e he hz => lensValues_above hrise he hz, fun e he hz => lensValues_of_mem hrise e he hz,
    fun i e f he hf hlow hhigh => ?_⟩
  · obtain ⟨tail, rfl⟩ := List.head?_eq_some_iff.mp he
    exact lensValues_of_le hz.le
  · obtain ⟨hgain, hgainLow, hgainHigh⟩ := interpolate_between e.gain f.gain hlow hhigh
    obtain ⟨hfocal, hfocalLow, hfocalHigh⟩ := interpolate_between e.focal f.focal hlow hhigh
    rw [lensValues_inside hrise he hf hlow hhigh]
    exact ⟨hgain, hfocal, rfl, hgainLow, hgainHigh, hfocalLow, hfocalHigh⟩

end Sys2Proof.Machine
end

section
/-! PROOF. The image stabiliser (chapter 2): its actions and button, MOTION in OFF, in SETTLING and running. -/

namespace Sys2Proof.Machine

variable {s : State} {seq tag : Byte} {src : Source} {n : Nat}

/-! ### Entries to states (R30, R31) -/

/-- The stabiliser at its entry to SETTLING (R30). -/
def Stabiliser.toSettling (st : Stabiliser) : Stabiliser :=
  { st with
    state := .settling, settleCount := 0, ring := [], yaw := st.yaw.enterSettling, pitch := st.pitch.enterSettling }

/-- The stabiliser at its entry to OFF (R31). -/
def Stabiliser.toOff (st : Stabiliser) (r : StabReason) : Stabiliser :=
  { st with
    state := .off, reason := r, hold := false, ring := [], yaw := st.yaw.enterOff, pitch := st.pitch.enterOff }

theorem State.enterSettling_told (s : State) (r : ModeReason) :
    s.enterSettling.notifyMode r = { s with
      stab := s.stab.toSettling
      head := s.head.hand (.shiftCmd ⟨0, 0⟩)
      body := s.body.hand (.notice (.mode s.zoom.mode .settling r)) } := rfl

theorem State.enterOff_told (s : State) (q : StabReason) (r : ModeReason) :
    (s.enterOff q).notifyMode r = { s with
      stab := s.stab.toOff q
      head := s.head.hand (.shiftCmd ⟨0, 0⟩)
      body := s.body.hand (.notice (.mode s.zoom.mode .off r)) } := rfl

/-! ### The actions and the button (R32, R33) -/

theorem State.panelStab_eq {s : State} {pressed : Bool} {kept : Stabiliser}
    (hkept : { s.stab with button := levelOf pressed } = kept) :
    s.panelStab pressed =
      if risingEdge s.stab.button pressed = true then
        if s.stab.state ≠ .off then { s with
          stab := kept.toOff .operator
          head := s.head.hand (.shiftCmd ⟨0, 0⟩)
          body := s.body.hand (.notice (.mode s.zoom.mode .off .operator)) }
        else if s.zoom.mode = .run then { s with
          stab := kept.toSettling
          head := s.head.hand (.shiftCmd ⟨0, 0⟩)
          body := s.body.hand (.notice (.mode s.zoom.mode .settling .operator)) }
        else { s with stab := kept }
      else { s with stab := kept } := by
  rw [State.panelStab, ← hkept]
  dsimp only
  rw [State.enterOff_told, State.enterSettling_told]
  split
  · cases s.stab.state <;> cases s.zoom.mode <;> rfl
  · rfl

/-- With REC released the record assembler's part of a PANEL is not seen on the links. -/
theorem State.takePanel_released (s : State) (d : Int) {buttons : Byte} (hrec : buttons.getLsbD 0 = false) :
    (s.takePanel d buttons).head =
      ((s.panelZoom d (buttons.getLsbD 3) (buttons.getLsbD 4)).panelStab (buttons.getLsbD 2)).head ∧
    (s.takePanel d buttons).body =
      ((s.panelZoom d (buttons.getLsbD 3) (buttons.getLsbD 4)).panelStab (buttons.getLsbD 2)).body := by
  rw [State.takePanel, hrec]
  exact State.panelRecord_links ..

theorem State.panelZoom_eq (s : State) (d : Int) (p1 p2 : Bool) :
    s.panelZoom d p1 p2 =
      ({ s with zoom := s.zoom.panelKept p1 p2 }.panelJudged d (risingEdge s.zoom.p1 p1)
        (risingEdge s.zoom.p2 p2)).arbitrate := rfl

/-- What the zoom drive's part of a PANEL leaves to the stabiliser, and what it sends. -/
theorem State.panelZoom_sends (s : State) (d : Int) (p1 p2 : Bool) :
    let t := s.panelZoom d p1 p2
    t.stab = { s.stab with
      dropWindow := if t.zoom.sentSpeed = s.zoom.sentSpeed then s.stab.dropWindow else s.items.stab.dropWindow } ∧
    t.head = (if t.zoom.sentSpeed = s.zoom.sentSpeed then s.head else s.head.hand (.zoomCmd t.zoom.sentSpeed)) ∧
    t.zoom.mode = s.zoom.mode := by
  intro t
  let u : State := { s with zoom := s.zoom.panelKept p1 p2 }
  let v := u.panelJudged d (risingEdge s.zoom.p1 p1) (risingEdge s.zoom.p2 p2)
  have hclaims := u.panelJudged_sameClaims d (risingEdge s.zoom.p1 p1) (risingEdge s.zoom.p2 p2)
  obtain ⟨hhead, hitems⟩ := u.panelJudged_keeps d (risingEdge s.zoom.p1 p1) (risingEdge s.zoom.p2 p2)
  have hstab : v.stab = s.stab := by simp [v, u, State.panelJudged]
  have hsent : v.zoom.sentSpeed = s.zoom.sentSpeed := hclaims.sentSpeed
  have ht : t = v.arbitrate := s.panelZoom_eq d p1 p2
  have hspeed : t.zoom.sentSpeed = v.zoom.maskSpeed v.zoom.classSpeed := by rw [ht, State.arbitrate_zoom]
  refine ⟨?_, ?_, ?_⟩
  · rw [hspeed, ht, State.arbitrate_stab, hsent, hstab, show v.items = s.items from hitems]
    split <;> rfl
  · rw [hspeed, ht, State.arbitrate_head, hsent, show v.head = s.head from hhead]
  · rw [ht, State.arbitrate_zoom]
    exact hclaims.mode

/-- With no button of a preset pressed, no move and none pending, the zoom drive's part of a PANEL tells nothing. -/
theorem State.panelZoom_silent {s : State} (d : Int) (hmove : s.zoom.move = none) (hpending : s.zoom.pendingPreset = none) :
    (s.panelZoom d false false).body = s.body := by
  let u : State := { s with zoom := s.zoom.panelKept false false }
  have hno (l : Level) : risingEdge l false = true ↔ False := by simp [risingEdge]
  have hdrive := u.panelJudged_drive d (risingEdge s.zoom.p1 false) (risingEdge s.zoom.p2 false)
    (stop := u.zoom.stopClaim = true) (edge1 := False) (edge2 := False) Iff.rfl (hno _) (hno _)
  rw [State.panelZoom_eq, (State.arbitrate_keeps _).1]
  refine (congrArg Prod.snd hdrive).trans ?_
  have hm : u.zoom.move = none := hmove
  have hp : u.zoom.pendingPreset = none := hpending
  simp only [panelTaken, buttonTaken, demandTaken, moveEnded, hm, hp, false_and, if_false, Option.isSome_none,
    Bool.false_eq_true]
  split <;> rfl

/-- Settles O23. -/
theorem stabiliserActions : Obligations.StabiliserActions := by
  intro s zero settleAxis settling offAxis off
  refine ⟨fun seq src tag n h => ?_, fun seq rocker buttons n h => ?_⟩
  · let u := s.taken .command seq n
    have hmode : u.zoom.mode = s.zoom.mode := rfl
    have hstate : u.stab.state = s.stab.state := rfl
    have hon : exec (.stabOn seq src tag) s = .next (u.stabOn.1.reply tag u.stabOn.2 []) :=
      congrArg _ (State.action_of_takes h)
    have hoff : exec (.stabOff seq src tag) s = .next (u.stabOff.1.reply tag u.stabOff.2 []) :=
      congrArg _ (State.action_of_takes h)
    have hreset : exec (.baselineReset seq src tag) s = .next (u.baselineReset.1.reply tag u.baselineReset.2 []) :=
      congrArg _ (State.action_of_takes h)
    rw [hon, hoff, hreset, State.stabOn, State.stabOff, State.baselineReset, hmode, hstate]
    cases hm : s.zoom.mode with
    | setup => cases s.stab.state <;> exact ⟨rfl, rfl, rfl⟩
    | run =>
      have hsettles (r : ModeReason) : u.enterSettling.notifyMode r = { u with
          stab := settling s.stab
          head := zero s.head
          body := u.body.hand (.notice (.mode .run .settling r)) } := by
        rw [State.enterSettling_told, hmode, hm]
        rfl
      have hends : (u.enterOff .operator).notifyMode .operator = { u with
          stab := off s.stab
          head := zero s.head
          body := u.body.hand (.notice (.mode .run .off .operator)) } := by
        rw [State.enterOff_told, hmode, hm]
        rfl
      rw [hsettles, hsettles, hends]
      cases s.stab.state <;> exact ⟨rfl, rfl, rfl⟩
  · let u := s.taken .panel seq n
    let z := u.panelZoom rocker.toInt (buttons.getLsbD 3) (buttons.getLsbD 4)
    let t := u.takePanel rocker.toInt buttons
    refine ⟨t, exec_panel_of_takes rocker buttons h, ?_⟩
    intro kept edge turnsOn turnsOff head
    have hzoom : t.zoom = z.zoom := State.takePanel_zoom ..
    obtain ⟨hstab, hhead, hmode⟩ := u.panelZoom_sends rocker.toInt (buttons.getLsbD 3) (buttons.getLsbD 4)
    have hstate : z.stab.state = s.stab.state := (congrArg Stabiliser.state hstab :)
    have hkept : { z.stab with button := levelOf (buttons.getLsbD 2) } = kept := by
      rw [hstab]
      change _ = { s.stab with
        button := levelOf (buttons.getLsbD 2)
        dropWindow := if t.zoom.sentSpeed = s.zoom.sentSpeed then s.stab.dropWindow else s.items.stab.dropWindow }
      rw [hzoom]
      rfl
    have hedge : risingEdge z.stab.button (buttons.getLsbD 2) = true ↔ edge := by
      rw [risingEdge_iff, hstab]
      rfl
    have hturned : z.panelStab (buttons.getLsbD 2) =
        if turnsOn then { z with
          stab := settling kept, head := zero z.head, body := z.body.hand (.notice (.mode .run .settling .operator)) }
        else if turnsOff then { z with
          stab := off kept, head := zero z.head
          body := z.body.hand (.notice (.mode s.zoom.mode .off .operator)) }
        else { z with stab := kept } := by
      rw [State.panelStab_eq hkept, hstate, show z.zoom.mode = s.zoom.mode from hmode]
      by_cases he : edge
      · by_cases hoff : s.stab.state = .off
        · by_cases hrun : s.zoom.mode = .run
          · have hon : turnsOn := ⟨he, hoff, hrun⟩
            rw [if_pos (hedge.mpr he), if_neg (not_not.mpr hoff), if_pos hrun, if_pos hon, hrun]
            rfl
          · have hon : ¬turnsOn := fun hon => hrun hon.2.2
            have hnot : ¬turnsOff := fun hnot => hnot.2 hoff
            rw [if_pos (hedge.mpr he), if_neg (not_not.mpr hoff), if_neg hrun, if_neg hon, if_neg hnot]
        · have hon : ¬turnsOn := fun hon => hoff hon.2.1
          have hoffs : turnsOff := ⟨he, hoff⟩
          rw [if_pos (hedge.mpr he), if_pos hoff, if_neg hon, if_pos hoffs]
          rfl
      · have hon : ¬turnsOn := fun hon => he hon.1
        have hnot : ¬turnsOff := fun hnot => he hnot.1
        rw [if_neg (mt hedge.mp he), if_neg hon, if_neg hnot]
    have hsent : z.head = head := by
      refine hhead.trans ?_
      change _ = if t.zoom.sentSpeed = s.zoom.sentSpeed then _ else _
      rw [hzoom]
      rfl
    refine ⟨?_, fun hrec => ?_, fun hrec h1 h2 hmove hpending => ?_⟩
    · have hts : t.stab = (z.panelStab (buttons.getLsbD 2)).stab := by simp [t, z, State.takePanel]
      rw [hts, hturned]
      split
      · rfl
      · split <;> rfl
    · refine (u.takePanel_released rocker.toInt hrec).1.trans ?_
      change (z.panelStab (buttons.getLsbD 2)).head = _
      rw [hturned, ← hsent]
      by_cases hon : turnsOn
      · rw [if_pos hon, if_pos (Or.inl hon)]
      · by_cases hoffs : turnsOff
        · rw [if_neg hon, if_pos hoffs, if_pos (Or.inr hoffs)]
        · rw [if_neg hon, if_neg hoffs, if_neg (not_or.mpr ⟨hon, hoffs⟩)]
    · refine (u.takePanel_released rocker.toInt hrec).2.trans ?_
      have hbody : z.body = s.body := by
        change (u.panelZoom rocker.toInt (buttons.getLsbD 3) (buttons.getLsbD 4)).body = _
        rw [h1, h2]
        exact State.panelZoom_silent _ hmove hpending
      change (z.panelStab (buttons.getLsbD 2)).body = _
      rw [hturned, ← hbody]
      split
      · rfl
      · split <;> rfl

end Sys2Proof.Machine
end

section
/-! PROOF. MOTION taken (2.2 to 2.6): the fills of missed packets, the settle, and the running sample. -/

namespace Sys2Proof.Machine

variable {s : State} {seq : Byte} {n : Nat}

/-! ### A MOTION's own changes (R46 to R48) -/

/-- The stabiliser with its gyro timers restarted and gyro hold cleared by a MOTION taken with `n` missed. -/
def Stabiliser.heard (st : Stabiliser) (n : Nat) : Stabiliser :=
  { st with hold := false, gyroLost := decide (5 ≤ n), gyroSilence := .running 5, longGap := .running 100 }

/-- How many missed packets a MOTION fills (R46 to R48). -/
def Stabiliser.fills (st : Stabiliser) (n : Nat) : Nat := if st.hold = true ∨ 5 ≤ n then 0 else n

theorem exec_motion_of_takes {s : State} {seq : Byte} {n : Nat} (yaw pitch : BitVec 16) (h : s.takes .motion seq n = true) :
    exec (.motion seq yaw pitch) s = .next ((s.taken .motion seq n).takeMotion n ⟨yaw.toInt, pitch.toInt⟩) :=
  congrArg Host.Outcome.next (State.intake_of_takes h)

/-- Outside a long gap a MOTION fills its missed packets, and its own sample follows. -/
theorem State.takeMotion_fills {s : State} {n : Nat} (r : YawPitch Int)
    (h : s.stab.state = .off ∨ ¬((s.stab.hold = true ∨ 5 ≤ n) ∧ s.stab.longGap = .expired)) :
    s.takeMotion n r = (({ s with stab := s.stab.heard n } : State).fillSamples (s.stab.fills n)).takeSample r := by
  have hgap : (s.stab.hold || decide (gapMissed ≤ n)) = true ↔ s.stab.hold = true ∨ 5 ≤ n := by
    rw [Bool.or_eq_true, decide_eq_true_eq, gapMissed]
  rw [State.takeMotion, Stabiliser.fills]
  dsimp only
  by_cases hg : s.stab.hold = true ∨ 5 ≤ n
  · have hstays : ¬(decide (s.stab.longGap = .expired) && s.stab.state != .off) = true := by
      rcases h with hoff | hno
      · simp [hoff]
      · have hlong : s.stab.longGap ≠ .expired := fun hexpired => hno ⟨hg, hexpired⟩
        simp [hlong]
    rw [if_pos (hgap.mpr hg), if_pos hg]
    exact if_neg hstays
  · rw [if_neg (mt hgap.mp hg), if_neg hg]
    rfl

/-- At the end of a long gap SETTLING is entered anew, and the packet is its first sample (R47). -/
theorem State.takeMotion_anew {s : State} {n : Nat} (r : YawPitch Int) (hon : s.stab.state ≠ .off)
    (hgap : s.stab.hold = true ∨ 5 ≤ n) (hlong : s.stab.longGap = .expired) :
    s.takeMotion n r =
      ((({ s with stab := s.stab.heard n } : State).enterSettling).notifyMode .gyroGap).takeSample r := by
  have hends : (s.stab.hold || decide (gapMissed ≤ n)) = true := by
    rw [Bool.or_eq_true, decide_eq_true_eq]
    exact hgap
  rw [State.takeMotion]
  dsimp only
  rw [if_pos hends, hlong]
  have hstate : (decide (Timer.expired = .expired) && s.stab.state != .off) = true := by simpa using hon
  exact if_pos hstate

/-! ### Fills (R36, R46) -/

theorem State.fillSamples_add (s : State) (a b : Nat) : s.fillSamples (a + b) = (s.fillSamples a).fillSamples b := by
  induction a generalizing s with
  | zero => rw [Nat.zero_add]; rfl
  | succ a ih =>
    rw [Nat.succ_add]
    exact ih s.fillSample

theorem State.fillSamples_succ (s : State) (k : Nat) : s.fillSamples (k + 1) = (s.fillSamples k).fillSample :=
  s.fillSamples_add k 1

theorem State.fillSample_of_settling {s : State} (h : s.stab.state = .settling) :
    s.fillSample = (s.settleSample ⟨s.stab.yaw.lastRaw, s.stab.pitch.lastRaw⟩).countDownDrop := by
  rw [State.fillSample]
  rw [h]

theorem State.fillSamples_off_eq {s : State} (hoff : s.stab.state = .off) (k : Nat) :
    s.fillSamples k = { s with stab := { s.stab with dropWindow := s.stab.dropWindow - k } } := by
  induction k with
  | zero => rfl
  | succ k ih =>
    rw [State.fillSamples_succ, ih, State.fillSample]
    dsimp only
    rw [hoff]
    rfl

/-- An axis whose settle sum a sample has joined. -/
def Axis.summed (a : Axis) (r : Int) : Axis := { a with settleSum := a.settleSum + r }

/-- The stabiliser in SETTLING after `k` fills that do not complete the settle. -/
def Stabiliser.settlingFilled (st : Stabiliser) (k : Nat) : Stabiliser :=
  { st with
    settleCount := st.settleCount + k, dropWindow := st.dropWindow - k
    yaw := st.yaw.summed (k * st.yaw.lastRaw), pitch := st.pitch.summed (k * st.pitch.lastRaw) }

theorem Axis.summed_summed (a : Axis) (k : Nat) (r : Int) : (a.summed (k * r)).summed r = a.summed ((k + 1 : Nat) * r) := by
  rw [Axis.summed, Axis.summed, Axis.summed]
  congr 1
  push_cast
  ring

theorem State.settleSample_of_short {s : State} (h : s.stab.settleCount < 63) (r : YawPitch Int) :
    s.settleSample r = { s with
      stab := { s.stab with
        yaw := s.stab.yaw.summed r.yaw, pitch := s.stab.pitch.summed r.pitch
        settleCount := s.stab.settleCount + 1 } } :=
  if_pos (show s.stab.settleCount + 1 < 64 by omega)

/-- The 64th sample completes the settle on both axes, with a MODE notice (R35). -/
theorem State.settleSample_of_full {s : State} (h : s.stab.settleCount = 63) (r : YawPitch Int) :
    s.settleSample r = { s with
      stab := { s.stab with
        yaw := (s.stab.yaw.summed r.yaw).settled, pitch := (s.stab.pitch.summed r.pitch).settled
        settleCount := 64, state := .running }
      body := s.body.hand (.notice (.mode s.zoom.mode .running .settled)) } := by
  rw [State.settleSample, h]
  rfl

theorem State.fillSamples_settling {s : State} (hsettling : s.stab.state = .settling) {k : Nat}
    (hk : s.stab.settleCount + k ≤ 63) : s.fillSamples k = { s with stab := s.stab.settlingFilled k } := by
  induction k with
  | zero => simp [State.fillSamples, Stabiliser.settlingFilled, Axis.summed]
  | succ k ih =>
    let t : State := { s with stab := s.stab.settlingFilled k }
    have hstate : t.stab.state = .settling := hsettling
    have hshort : t.stab.settleCount < 63 := hk
    rw [State.fillSamples_succ, ih (by omega), State.fillSample_of_settling (s := t) hstate,
      State.settleSample_of_short (s := t) hshort, Stabiliser.settlingFilled, ← Axis.summed_summed,
      ← Axis.summed_summed]
    rfl

theorem State.takeSample_of_settling {s : State} (h : s.stab.state = .settling) (r : YawPitch Int) :
    s.takeSample r =
      (let t := s.settleSample r
       { t with stab := { t.stab with
          yaw := { t.stab.yaw with lastRaw := r.yaw }, pitch := { t.stab.pitch with lastRaw := r.pitch }
          dropWindow := t.stab.dropWindow - 1 } }) := by
  rw [State.takeSample, h]
  rfl

theorem State.takeSample_of_off {s : State} (h : s.stab.state = .off) (r : YawPitch Int) :
    s.takeSample r = { s with
      stab := { s.stab with
        yaw := { s.stab.yaw with lastRaw := r.yaw }, pitch := { s.stab.pitch with lastRaw := r.pitch }
        dropWindow := s.stab.dropWindow - 1 } } := by
  rw [State.takeSample, h]
  rfl

theorem clampInt_eq_max_min {lo hi : Int} (h : lo ≤ hi) (x : Int) : clampInt lo hi x = max lo (min hi x) := by
  rw [clampInt]
  split
  · omega
  · split <;> omega

/-- An axis at settle completion: its baseline the average of the 64 samples, held within the bounds (R35). -/
theorem Axis.settled_eq (a : Axis) :
    a.settled = { a with
      base := max (-1536) (min 1536 (Int.tdiv a.settleSum 64))
      bucket := 0, integ := 0, debounce := 0, clampCount := 0, holdOff := 0, window := [], pan := false } := by
  rw [Axis.settled, clampInt_eq_max_min (by decide), truncDiv]

/-! ### A fill that completes the settle (R35, R46) -/

/-- The stabiliser in which the fills of a MOTION have completed the settle. -/
def Stabiliser.settledBy (st : Stabiliser) (used : Nat) : Stabiliser :=
  { st with
    state := .running, settleCount := 64, dropWindow := st.dropWindow - used
    yaw := (st.yaw.summed (used * st.yaw.lastRaw)).settled
    pitch := (st.pitch.summed (used * st.pitch.lastRaw)).settled }

theorem State.fillSamples_settled {s : State} (hsettling : s.stab.state = .settling) {k : Nat}
    (hk : s.stab.settleCount + k = 63) :
    s.fillSamples (k + 1) = { s with
      stab := s.stab.settledBy (k + 1)
      body := s.body.hand (.notice (.mode s.zoom.mode .running .settled)) } := by
  let t : State := { s with stab := s.stab.settlingFilled k }
  rw [State.fillSamples_succ, State.fillSamples_settling hsettling hk.le,
    State.fillSample_of_settling (s := t) hsettling, State.settleSample_of_full (s := t) hk, Stabiliser.settledBy,
    ← Axis.summed_summed, ← Axis.summed_summed]
  rfl

/-- A link at which part of the missed packets before a MOTION has been counted already. -/
def LinkCtl.partMissed (c : LinkCtl) (e : Byte) (used : Nat) : LinkCtl :=
  { c with expect := c.expect.set .i1 (some e), missed := sat16 (c.missed + used) }

theorem sat16_add (a b c : Nat) : sat16 (sat16 (a + b) + c) = sat16 (a + (b + c)) := by
  simp only [sat16]
  omega

theorem Stabiliser.fills_of_short {st : Stabiliser} (h : ¬(st.hold = true ∨ 5 ≤ n)) : st.fills n = n := if_neg h

theorem Quad.set_set {α : Type} (q : Quad α) (i : Four) (a b : α) : (q.set i a).set i b = q.set i b := by
  cases i <;> rfl

/-- The state in which the fills of a MOTION taken have completed the settle, `used` of its missed packets counted. -/
def State.settledBy (s : State) (seq : Byte) (n used : Nat) : State :=
  { s with
    stab := s.stab.settledBy used
    head := s.head.partMissed (seq - BitVec.ofNat 8 (n - used)) used
    body := s.body.hand (.notice (.mode s.zoom.mode .running .settled)) }

theorem LinkCtl.partMissed_expect (c : LinkCtl) (e : Byte) (used : Nat) :
    (c.partMissed e used).expect.get .i1 = some e := by
  rw [LinkCtl.partMissed]
  exact Quad.get_set_same c.expect .i1 (some e)

/-- The MOTION is still to be taken there, with the rest of its missed packets. -/
theorem State.settledBy_takes {s : State} {used : Nat} (h : s.takes .motion seq n = true) (hn : n < 5) :
    (s.settledBy seq n used).takes .motion seq (n - used) = true := by
  have hback : (seq - (seq - BitVec.ofNat 8 (n - used))).toNat = n - used := by
    have hsmall : (BitVec.ofNat 8 (n - used)).toNat = n - used := by
      rw [BitVec.toNat_ofNat]
      omega
    rw [sub_sub_cancel, hsmall]
  have hexpect := s.head.partMissed_expect (seq - BitVec.ofNat 8 (n - used)) used
  simp only [State.takes, Bool.and_eq_true] at h ⊢
  refine ⟨h.1, ?_⟩
  change (match (s.head.partMissed (seq - BitVec.ofNat 8 (n - used)) used).expect.get .i1 with
    | none => decide (n - used = 0)
    | some e => decide (n - used = (seq - e).toNat) && decide (n - used ≠ 255)) = true
  rw [hexpect]
  dsimp only
  rw [hback]
  simp only [decide_true, Bool.true_and, decide_eq_true_eq]
  omega

theorem Stabiliser.settledBy_heard {st : Stabiliser} {used : Nat} (hn : n < 5) :
    (st.heard n).settledBy used = (st.settledBy used).heard (n - used) := by
  have hlost : decide (5 ≤ n) = decide (5 ≤ n - used) := by simp only [decide_eq_decide]; omega
  rw [Stabiliser.heard, Stabiliser.heard, hlost]
  rfl

theorem LinkCtl.partMissed_taken {c : LinkCtl} {e e' : Byte} {used : Nat} (hle : used ≤ n) :
    { c.partMissed e used with
      crcFails := 0
      expect := (c.partMissed e used).expect.set .i1 (some e')
      missed := sat16 ((c.partMissed e used).missed + (n - used)) } =
      { c with crcFails := 0, expect := c.expect.set .i1 (some e'), missed := sat16 (c.missed + n) } := by
  rw [LinkCtl.partMissed, Quad.set_set, sat16_add, Nat.add_sub_cancel' hle]

/-- Filling the first missed packets and completing the settle comes to taking the MOTION from the state so reached. -/
theorem State.fill_to_settledBy {s : State} {k : Nat} (hsettling : s.stab.state = .settling) (hn : n < 5)
    (hk : s.stab.settleCount + k = 63) (hle : k + 1 ≤ n) :
    ({ s.taken .motion seq n with stab := s.stab.heard n } : State).fillSamples (k + 1) =
      { (s.settledBy seq n (k + 1)).taken .motion seq (n - (k + 1)) with
        stab := (s.stab.settledBy (k + 1)).heard (n - (k + 1)) } := by
  let u : State := { s.taken .motion seq n with stab := s.stab.heard n }
  rw [State.fillSamples_settled (s := u) hsettling (k := k) hk, ← Stabiliser.settledBy_heard hn]
  exact congrArg (fun h : LinkCtl => { u with
    head := h, stab := (s.stab.heard n).settledBy (k + 1)
    body := s.body.hand (.notice (.mode s.zoom.mode .running .settled)) }) (LinkCtl.partMissed_taken hle).symm

/-- A MOTION whose fills complete the settle does what the same MOTION does in the running state so reached. -/
theorem exec_motion_of_settled {s : State} {k : Nat} (yaw pitch : BitVec 16) (h : s.takes .motion seq n = true)
    (hsettling : s.stab.state = .settling) (hshort : ¬(s.stab.hold = true ∨ 5 ≤ n))
    (hk : s.stab.settleCount + k = 63) (hle : k + 1 ≤ n) :
    exec (.motion seq yaw pitch) s = exec (.motion seq yaw pitch) (s.settledBy seq n (k + 1)) := by
  obtain ⟨hhold, hn⟩ := not_or.mp hshort
  have hn : n < 5 := Nat.lt_of_not_le hn
  let r : YawPitch Int := ⟨yaw.toInt, pitch.toInt⟩
  let u := s.taken .motion seq n
  let v := (s.settledBy seq n (k + 1)).taken .motion seq (n - (k + 1))
  have hrest : ¬(v.stab.hold = true ∨ 5 ≤ n - (k + 1)) := by
    rintro (hheld | hmany)
    · exact hhold hheld
    · omega
  have hu : u.takeMotion n r = (({ u with stab := s.stab.heard n } : State).fillSamples n).takeSample r := by
    rw [State.takeMotion_fills (s := u) r (Or.inr fun hgap => hshort hgap.1), Stabiliser.fills_of_short (st := u.stab) hshort]
    rfl
  have hv : v.takeMotion (n - (k + 1)) r =
      (({ v with stab := (s.stab.settledBy (k + 1)).heard (n - (k + 1)) } : State).fillSamples
        (n - (k + 1))).takeSample r := by
    rw [State.takeMotion_fills (s := v) r (Or.inr fun hgap => hrest hgap.1), Stabiliser.fills_of_short hrest]
    rfl
  rw [exec_motion_of_takes yaw pitch h, exec_motion_of_takes yaw pitch (State.settledBy_takes h hn)]
  change Host.Outcome.next (u.takeMotion n r) = .next (v.takeMotion (n - (k + 1)) r)
  rw [hu, hv, ← State.fill_to_settledBy hsettling hn hk hle, ← State.fillSamples_add, Nat.add_sub_cancel' hle]

/-- Settles O21. -/
theorem motionOffAndSettling : Obligations.MotionOffAndSettling := by
  intro s seq yaw pitch n h u gap fills timed
  let r : YawPitch Int := ⟨yaw.toInt, pitch.toInt⟩
  let v : State := { u with stab := s.stab.heard n }
  have htaken (hfills : s.stab.state = .off ∨ ¬(gap ∧ s.stab.longGap = .expired)) :
      exec (.motion seq yaw pitch) s = .next ((v.fillSamples fills).takeSample r) :=
    (exec_motion_of_takes yaw pitch h).trans (congrArg _ (State.takeMotion_fills (s := u) r hfills))
  refine ⟨fun hoff => ?_, fun hsettling hgap => ?_, fun hon hgap hlong => ?_⟩
  · let w : State := { v with stab := { v.stab with dropWindow := v.stab.dropWindow - fills } }
    rw [htaken (Or.inl hoff), State.fillSamples_off_eq (s := v) hoff, State.takeSample_of_off (s := w) hoff]
    rfl
  · intro joined finished settled
    replace htaken := htaken (Or.inr hgap)
    refine ⟨fun hshort => ?_, fun hfull => ?_, fun hmore hcount => ?_⟩
    · let w : State := { v with stab := v.stab.settlingFilled fills }
      have hw : w.stab.settleCount < 63 := hshort
      rw [htaken, State.fillSamples_settling (s := v) hsettling hshort.le, State.takeSample_of_settling (s := w) hsettling,
        State.settleSample_of_short hw]
      rfl
    · let w : State := { v with stab := v.stab.settlingFilled fills }
      have hw : w.stab.settleCount = 63 := hfull
      rw [htaken, State.fillSamples_settling (s := v) hsettling hfull.le, State.takeSample_of_settling (s := w) hsettling,
        State.settleSample_of_full hw, Axis.settled_eq, Axis.settled_eq]
      rfl
    · intro used done
      have hshort : ¬(s.stab.hold = true ∨ 5 ≤ n) := fun hg => by
        have : fills = 0 := if_pos hg
        omega
      have hfills : fills = n := if_neg hshort
      have hused : used = 63 - s.stab.settleCount + 1 := by omega
      rw [exec_motion_of_settled yaw pitch h hsettling hshort (k := 63 - s.stab.settleCount) (by omega) (by omega), ← hused,
        State.settledBy, Stabiliser.settledBy, Axis.settled_eq, Axis.settled_eq]
      rfl
  · intro again
    let w : State := { v with
      stab := (s.stab.heard n).toSettling
      head := u.head.hand (.shiftCmd ⟨0, 0⟩)
      body := u.body.hand (.notice (.mode s.zoom.mode .settling .gyroGap)) }
    have hexec : exec (.motion seq yaw pitch) s = .next (w.takeSample r) :=
      (exec_motion_of_takes yaw pitch h).trans (congrArg _ (State.takeMotion_anew (s := u) r hon hgap hlong))
    have hfills : fills = 0 := if_pos hgap
    have htimed : timed = { s.stab.heard n with dropWindow := s.stab.dropWindow - 1 } := by
      change { s.stab.heard n with dropWindow := s.stab.dropWindow - (fills + 1) } = _
      rw [hfills]
    have hfirst (a : Axis) (x : Int) : { a.enterSettling.summed x with lastRaw := x } = again a x := by
      rw [Axis.enterSettling, Axis.summed]
      dsimp only
      rw [Int.zero_add]
    rw [hexec, State.takeSample_of_settling (s := w) rfl, State.settleSample_of_short (s := w) (Nat.zero_lt_succ _),
      htimed, ← hfirst, ← hfirst]
    rfl

end Sys2Proof.Machine
end

section
/-! PROOF. The running sample (2.4, 2.5): its stages on one axis in closed form, the fills and the packet's own. -/

namespace Sys2Proof.Machine

variable {s : State} {seq : Byte} {n : Nat}

/-! ### Stages 1 to 4 (R36 to R41) -/

/-- A sample whose average deviates by `dev` tracks the baseline: STEADY, outside the drop window and the hold-off,
within the noise threshold (R38, R39). -/
abbrev Axis.Tracks (it : StabItems) (drop : Nat) (dev : Int) (a : Axis) : Prop :=
  a.pan = false ∧ drop = 0 ∧ a.holdOff = 0 ∧ dev.natAbs ≤ it.noiseTh

/-- The average deviates beyond the threshold of PAN (R40). -/
abbrev Axis.Beyond (it : StabItems) (dev : Int) (a : Axis) : Prop :=
  a.pan = false ∧ it.panTh + it.panHyst < dev.natAbs

/-- The sample takes the axis into PAN (R40). -/
abbrev Axis.Enters (it : StabItems) (dev : Int) (a : Axis) : Prop :=
  a.Beyond it dev ∧ it.panDebounce ≤ a.debounce + 1

/-- The sample takes the axis out of PAN (R40). -/
abbrev Axis.Leaves (it : StabItems) (dev : Int) (a : Axis) : Prop :=
  a.pan = true ∧ (dev.natAbs : Int) < (it.panTh : Int) - it.panHyst

/-- Tracking in closed form: the bucket overflows at BUCKET_TH and moves the baseline by one (R38, R39). -/
theorem Axis.track_eq {it : StabItems} {dev : Int} {a : Axis} {blocked : Bool} {tracks : Prop} [Decidable tracks]
    (h : tracks ↔ blocked = false ∧ dev.natAbs ≤ it.noiseTh) :
    (if blocked = true then a else a.track it dev) = { a with
      base :=
        if tracks ∧ (it.bucketTh : Int) ≤ a.bucket + dev then min 1536 (a.base + 1)
        else if tracks ∧ a.bucket + dev ≤ -(it.bucketTh : Int) then max (-1536) (a.base - 1)
        else a.base
      bucket :=
        if tracks then (if it.bucketTh ≤ (a.bucket + dev).natAbs then 0 else a.bucket + dev) else a.bucket } := by
  by_cases htracks : tracks
  · obtain ⟨hfree, hnoise⟩ := h.mp htracks
    rw [hfree, Axis.track]
    simp only [Bool.false_eq_true, if_false, hnoise, htracks, true_and, if_true]
    split
    · rw [if_pos (by omega)]
    · split
      · rw [if_pos (by omega)]
      · rw [if_neg (by omega)]
  · simp only [htracks, false_and, if_false]
    split
    · rfl
    · next hfree =>
      have hnoise : ¬dev.natAbs ≤ it.noiseTh := fun hn => htracks (h.mpr ⟨Bool.not_eq_true _ ▸ hfree, hn⟩)
      rw [Axis.track, if_neg hnoise]

theorem Axis.tracks_iff {it : StabItems} {drop : Nat} {dev : Int} {a : Axis} :
    a.Tracks it drop dev ↔ (a.pan || drop != 0 || a.holdOff != 0) = false ∧ dev.natAbs ≤ it.noiseTh := by
  simp [Axis.Tracks, and_assoc]

/-- Pan detection in closed form (R40). -/
theorem Axis.detectPan_eq (it : StabItems) (dev : Int) (a : Axis) :
    a.detectPan it dev =
      ({ a with
          pan := (a.pan && !decide (a.Leaves it dev)) || decide (a.Enters it dev)
          debounce :=
            if a.pan = true then a.debounce
            else if a.Beyond it dev ∧ ¬a.Enters it dev then a.debounce + 1 else 0 },
        decide (a.Leaves it dev)) := by
  have hpan : a.pan = true ∨ a.pan = false := by cases a.pan <;> simp
  rw [Axis.detectPan]
  rcases hpan with hpan | hpan
  · have hout : ¬a.Enters it dev := fun h => Bool.false_ne_true (h.1.1.symm.trans hpan)
    have hleaves : a.Leaves it dev ↔ (dev.natAbs : Int) < (it.panTh : Int) - it.panHyst := and_iff_right hpan
    rw [if_pos hpan, if_pos hpan, decide_eq_false hout]
    by_cases h : a.Leaves it dev
    · rw [if_pos (hleaves.mp h), decide_eq_true h]
      simp
    · rw [if_neg (mt hleaves.mpr h), decide_eq_false h]
      simp
  · have hin : ¬a.Leaves it dev := fun h => Bool.false_ne_true (hpan.symm.trans h.1)
    have hbeyond : a.Beyond it dev ↔ it.panTh + it.panHyst < dev.natAbs := and_iff_right hpan
    have hsteady : ¬a.pan = true := by simp [hpan]
    rw [if_neg hsteady, if_neg hsteady, decide_eq_false hin]
    by_cases hb : a.Beyond it dev
    · rw [if_pos (hbeyond.mp hb)]
      by_cases hd : it.panDebounce ≤ a.debounce + 1
      · have henters : a.Enters it dev := ⟨hb, hd⟩
        rw [if_pos hd, decide_eq_true henters, if_neg (fun h => h.2 henters)]
        simp
      · have henters : ¬a.Enters it dev := fun h => hd h.2
        rw [if_neg hd, decide_eq_false henters, if_pos ⟨hb, henters⟩]
        simp
    · have henters : ¬a.Enters it dev := fun h => hb h.1
      rw [if_neg (mt hbeyond.mpr hb), decide_eq_false henters, if_neg (fun h => hb h.1)]
      simp

/-- How far the average of the last samples of a window lies from the baseline (R37). -/
def Axis.deviation (a : Axis) (count : Nat) (window : List Int) : Int :=
  Int.tdiv (window.drop (window.length - min count window.length)).sum (min count window.length : Nat) - a.base

/-- One axis after stages 1 to 4 of a sample `r`, and the count-down (R36 to R41). -/
def Axis.staged (it : StabItems) (drop : Nat) (r : Int) (a : Axis) : Axis :=
  let window : List Int := (a.window ++ [r]).drop (a.window.length - 7)
  let dev : Int := a.deviation it.avgCount window
  let q : Int := a.bucket + dev
  let pan : Bool := (a.pan && !decide (a.Leaves it dev)) || decide (a.Enters it dev)
  let leak : Int := Int.tdiv a.integ (2 ^ (if pan then it.leakPan else it.leakSteady))
  { a with
    window := window, pan := pan
    base :=
      if a.Tracks it drop dev ∧ (it.bucketTh : Int) ≤ q then min 1536 (a.base + 1)
      else if a.Tracks it drop dev ∧ q ≤ -(it.bucketTh : Int) then max (-1536) (a.base - 1)
      else a.base
    bucket := if a.Tracks it drop dev then (if it.bucketTh ≤ q.natAbs then 0 else q) else a.bucket
    debounce :=
      if a.pan = true then a.debounce
      else if a.Beyond it dev ∧ ¬a.Enters it dev then a.debounce + 1 else 0
    integ := max (-268435456) (min 268435456 (a.integ + (r - a.base) - leak))
    holdOff := if a.Leaves it dev then 20 else a.holdOff - 1 }

theorem Axis.join_window (a : Axis) (r : Int) :
    a.join r = { a with window := (a.window ++ [r]).drop (a.window.length - 7) } := by
  rw [Axis.join, keepLast, List.length_append]
  rfl

theorem Axis.integrate_eq (it : StabItems) (diff : Int) (a : Axis) :
    a.integrate it diff = { a with
      integ := max (-268435456) (min 268435456
        (a.integ + diff - Int.tdiv a.integ (2 ^ (if a.pan then it.leakPan else it.leakSteady)))) } := by
  rw [Axis.integrate, clampInt_eq_max_min (by decide)]
  rfl

/-- Stages 1 to 4 leave the hold-off to the count-down (R36). -/
theorem Axis.advance_eq (it : StabItems) (drop : Nat) (r : Int) (a : Axis) :
    a.advance it drop r =
      ({ a.staged it drop r with holdOff := a.holdOff },
        decide (a.Leaves it (a.deviation it.avgCount (a.join r).window))) := by
  let joined : Axis := a.join r
  let dev : Int := a.deviation it.avgCount joined.window
  have hdev : joined.average it.avgCount - a.base = dev := rfl
  have htrack := Axis.track_eq (it := it) (dev := dev) (a := joined) (tracks := a.Tracks it drop dev)
    (blocked := a.pan || drop != 0 || a.holdOff != 0) Axis.tracks_iff
  rw [Axis.advance]
  dsimp only
  rw [hdev, htrack, Axis.detectPan_eq, Axis.integrate_eq]
  have hwindow : (a.window ++ [r]).drop (a.window.length - 7) = joined.window :=
    (congrArg Axis.window (a.join_window r)).symm
  rw [Axis.staged, hwindow]
  rfl

/-- A filled sample is stages 1 to 4 and the count-down (R36, R46). -/
theorem Axis.fill_eq (it : StabItems) (drop : Nat) (r : Int) (a : Axis) : a.fill it drop r = a.staged it drop r := by
  have hwindow : (a.join r).window = (a.window ++ [r]).drop (a.window.length - 7) := by rw [Axis.join_window]
  rw [Axis.fill, Axis.advance_eq, hwindow]
  simp only [Axis.countDown, decide_eq_true_eq]
  rfl

/-! ### The packet's own sample (R43, R44) -/

/-- The shift that an axis asks for, held within the travel limit (R43). -/
def Axis.shift (v : LensValues) (a : Axis) : Int :=
  max (-(v.travel : Int)) (min (v.travel : Int) (-(roundDiv (a.integ * v.gain) 32768000)))

/-- One axis after every stage of the packet's own sample. -/
def Axis.owned (it : StabItems) (drop : Nat) (v : LensValues) (r : Int) (a : Axis) : Axis :=
  let b := a.staged it drop r
  if v.travel < (roundDiv (b.integ * v.gain) 32768000).natAbs then
    if it.clampPanCount ≤ b.clampCount + 1 then { b with lastRaw := r, pan := true, clampCount := 0, debounce := 0 }
    else { b with lastRaw := r, clampCount := b.clampCount + 1 }
  else { b with lastRaw := r, clampCount := 0 }

theorem Axis.owned_integ (it : StabItems) (drop : Nat) (v : LensValues) (r : Int) (a : Axis) :
    (a.owned it drop v r).integ = (a.staged it drop r).integ := by
  rw [Axis.owned]
  split
  · split <;> rfl
  · rfl

/-- The correction commutes with the count-down of the hold-off (R36, R43). -/
theorem Axis.correct_eq (it : StabItems) (v : LensValues) (r : Int) (a : Axis) :
    ({ (a.correct it v.gain v.travel).1 with lastRaw := r }, (a.correct it v.gain v.travel).2) =
      (if v.travel < (roundDiv (a.integ * v.gain) 32768000).natAbs then
        if it.clampPanCount ≤ a.clampCount + 1 then { a with lastRaw := r, pan := true, clampCount := 0, debounce := 0 }
        else { a with lastRaw := r, clampCount := a.clampCount + 1 }
      else { a with lastRaw := r, clampCount := 0 }, a.shift v) := by
  rw [Axis.correct, Axis.shift, correction]
  generalize roundDiv (a.integ * v.gain) 32768000 = c
  dsimp only
  rw [Int.natAbs_neg]
  by_cases hbeyond : v.travel < c.natAbs
  · have hheld : (if -c < 0 then -(v.travel : Int) else v.travel) =
        max (-(v.travel : Int)) (min (v.travel : Int) (-c)) := by split <;> omega
    rw [if_pos hbeyond, if_pos hbeyond, hheld]
    split <;> rfl
  · have hfree : -c = max (-(v.travel : Int)) (min (v.travel : Int) (-c)) := by omega
    rw [if_neg hbeyond, if_neg hbeyond, ← hfree]

theorem Axis.shift_of_integ {v : LensValues} {a b : Axis} (h : a.integ = b.integ) : a.shift v = b.shift v := by
  rw [Axis.shift, Axis.shift, h]

theorem Axis.take_eq (it : StabItems) (drop : Nat) (v : LensValues) (r : Int) (a : Axis) :
    ({ (a.take it drop v r).1 with lastRaw := r }, (a.take it drop v r).2) =
      (a.owned it drop v r, (a.owned it drop v r).shift v) := by
  let b : Axis := { a.staged it drop r with holdOff := a.holdOff }
  obtain ⟨haxis, hshift⟩ := Prod.mk.inj (b.correct_eq it v r)
  have hintegs : b.integ = (a.owned it drop v r).integ := (a.owned_integ it drop v r).symm
  have hfilled := a.fill_eq it drop r
  rw [Axis.fill, Axis.advance_eq] at hfilled
  rw [← Axis.shift_of_integ hintegs, ← hshift, Axis.take, Axis.advance_eq]
  refine Prod.ext ?_ rfl
  change ({ (b.correct it v.gain v.travel).1 with lastRaw := r } : Axis).countDown _ = _
  rw [haxis, apply_ite (Axis.countDown _), apply_ite (Axis.countDown _), Axis.owned, ← hfilled]
  rfl

/-! ### MOTION while running -/

/-- One axis after the fills of a MOTION. -/
def Axis.filled (it : StabItems) (drop fills : Nat) (a : Axis) : Axis :=
  (List.range fills).foldl (fun a j => a.staged it (drop - j) a.lastRaw) a

theorem Axis.filled_succ (it : StabItems) (drop k : Nat) (a : Axis) :
    a.filled it drop (k + 1) = (a.filled it drop k).staged it (drop - k) (a.filled it drop k).lastRaw := by
  rw [Axis.filled, List.range_succ, List.foldl_append]
  rfl

theorem State.fillSample_of_running {s : State} (h : s.stab.state = .running) :
    s.fillSample = { s with
      stab := { s.stab with
        yaw := s.stab.yaw.staged s.items.stab s.stab.dropWindow s.stab.yaw.lastRaw
        pitch := s.stab.pitch.staged s.items.stab s.stab.dropWindow s.stab.pitch.lastRaw
        dropWindow := s.stab.dropWindow - 1 } } := by
  rw [State.fillSample]
  dsimp only
  rw [← Axis.fill_eq, ← Axis.fill_eq]
  split
  · next hoff => exact absurd (hoff.symm.trans h) (by decide)
  · next hsettling => exact absurd (hsettling.symm.trans h) (by decide)
  · rfl

/-- The stabiliser after `k` fills while running. -/
def Stabiliser.runningFilled (st : Stabiliser) (it : StabItems) (k : Nat) : Stabiliser :=
  { st with
    yaw := st.yaw.filled it st.dropWindow k, pitch := st.pitch.filled it st.dropWindow k
    dropWindow := st.dropWindow - k }

theorem State.fillSamples_running {s : State} (h : s.stab.state = .running) (k : Nat) :
    s.fillSamples k = { s with stab := s.stab.runningFilled s.items.stab k } := by
  induction k with
  | zero => rfl
  | succ k ih =>
    let t : State := { s with stab := s.stab.runningFilled s.items.stab k }
    rw [State.fillSamples_succ, ih, State.fillSample_of_running (s := t) h, Stabiliser.runningFilled,
      Axis.filled_succ, Axis.filled_succ]
    rfl

/-- The packet's own sample while running: every stage on both axes, and one SHIFT_CMD (R36, R44). -/
theorem State.takeSample_of_running {s : State} (h : s.stab.state = .running) (r : YawPitch Int) {y p : Axis}
    (hy : s.stab.yaw.owned s.items.stab s.stab.dropWindow s.lensNow r.yaw = y)
    (hp : s.stab.pitch.owned s.items.stab s.stab.dropWindow s.lensNow r.pitch = p) :
    s.takeSample r = { s with
      stab := { s.stab with
        yaw := y, pitch := p, dropWindow := s.stab.dropWindow - 1
        ring := List.drop (s.stab.ring.length - 3) (s.stab.ring ++ [⟨y.shift s.lensNow, p.shift s.lensNow⟩]) }
      head := s.head.hand (.shiftCmd ⟨y.shift s.lensNow, p.shift s.lensNow⟩) } := by
  obtain ⟨hyaw, hyawShift⟩ := Prod.mk.inj (s.stab.yaw.take_eq s.items.stab s.stab.dropWindow s.lensNow r.yaw)
  obtain ⟨hpitch, hpitchShift⟩ := Prod.mk.inj (s.stab.pitch.take_eq s.items.stab s.stab.dropWindow s.lensNow r.pitch)
  rw [hy] at hyaw hyawShift
  rw [hp] at hpitch hpitchShift
  have hring (x : YawPitch Int) : keepLast 4 (s.stab.ring ++ [x]) = (s.stab.ring ++ [x]).drop (s.stab.ring.length - 3) := by
    rw [keepLast, List.length_append]
    rfl
  rw [← hyawShift, ← hpitchShift, ← hyaw, ← hpitch, ← hring, State.takeSample]
  dsimp only
  split
  · next hoff => exact absurd (hoff.symm.trans h) (by decide)
  · next hsettling => exact absurd (hsettling.symm.trans h) (by decide)
  · rfl

/-- Settles O22. -/
theorem motionRunning : Obligations.MotionRunning := by
  intro s seq yaw pitch n h hrunning hgap it v fills stages filled shift own y p
  let r : YawPitch Int := ⟨yaw.toInt, pitch.toInt⟩
  let u := s.taken .motion seq n
  let heard : State := { u with stab := s.stab.heard n }
  let w : State := { heard with stab := heard.stab.runningFilled it fills }
  have hfills : u.takeMotion n r = (heard.fillSamples fills).takeSample r := State.takeMotion_fills (s := u) r (Or.inr hgap)
  rw [exec_motion_of_takes yaw pitch h]
  refine congrArg Host.Outcome.next (hfills.trans ?_)
  refine (congrArg (State.takeSample · r) (State.fillSamples_running (s := heard) hrunning fills)).trans ?_
  exact State.takeSample_of_running (s := w) hrunning r (y := y) (p := p) rfl rfl

end Sys2Proof.Machine
end

section
/-! PROOF. Card slots and the recording (4.6, 5.5 to 5.10): what each shared operation makes of a slot alone and of the
record assembler alone, for every reason. -/

namespace Sys2Proof.Machine

variable {s : State} {x y : SlotId}

/-! ### One slot: requests (R106, R115, R120) -/

/-- A slot with its next request outstanding. -/
def Slot.asked (c : Slot) (kind : RequestKind) : Slot :=
  match kind with
  | .mount =>
    { c with
      requestNumber := c.requestNumber + 1, request := some ⟨kind, c.requestNumber + 1⟩, mountTimer := .running 5000 }
  | _ =>
    { c with
      requestNumber := c.requestNumber + 1, request := some ⟨kind, c.requestNumber + 1⟩
      slowTimer := .running 500, requestTimer := .running 2000 }

/-- The oldest queued unit in flight, where R115 has it issued. -/
def Slot.writesOn (c : Slot) : Slot :=
  if (c.state = .writing ∨ c.state = .closing) ∧ c.request = none then
    match c.queue with
    | [] => c
    | id :: rest => { c with queue := rest, inFlight := some id }.asked .unitWrite
  else c

/-- PART_CLOSE outstanding, where R120 has it issued. -/
def Slot.closesOn (c : Slot) : Slot :=
  if c.state = .closing ∧ c.request = none ∧ c.queue = [] ∧ c.inFlight = none ∧ c.part.isSome = true then
    c.asked .partClose
  else c

theorem Slot.writesOn_of_queued {c : Slot} {id : Nat} {rest : List Nat} (hstate : c.state = .writing ∨ c.state = .closing)
    (hrequest : c.request = none) (hqueue : c.queue = id :: rest) :
    c.writesOn = { c with queue := rest, inFlight := some id }.asked .unitWrite := by
  rw [Slot.writesOn, if_pos ⟨hstate, hrequest⟩, hqueue]

theorem Slot.writesOn_of_empty {c : Slot} (hqueue : c.queue = []) : c.writesOn = c := by
  rw [Slot.writesOn, hqueue]
  exact ite_self c

theorem Slot.writesOn_of_waiting {c : Slot} (h : ¬((c.state = .writing ∨ c.state = .closing) ∧ c.request = none)) :
    c.writesOn = c := if_neg h

/-- A slot with nothing outstanding goes on. -/
def Slot.goesOn (c : Slot) : Slot := c.writesOn.closesOn

theorem State.slot_setSlot_other (hy : y ≠ x) (c : Slot) : (s.setSlot x c).slot y = s.slot y := by
  cases x <;> cases y
  case a.a => exact absurd rfl hy
  case b.b => exact absurd rfl hy
  all_goals rfl

theorem State.slot_issue (s : State) (x : SlotId) (b : RequestBody) : (s.issue x b).slot x = (s.slot x).asked b.kind := by
  cases x <;> cases b <;> rfl

theorem State.slot_issueWrite (s : State) (x : SlotId) : (s.issueWrite x).slot x = (s.slot x).writesOn := by
  rw [State.issueWrite]
  split
  · next hstate hrequest hqueue =>
    rw [Slot.writesOn_of_queued (Or.inl hstate) hrequest hqueue, State.slot_issue, State.slot_setSlot]
    rfl
  · next hstate hrequest hqueue =>
    rw [Slot.writesOn_of_queued (Or.inr hstate) hrequest hqueue, State.slot_issue, State.slot_setSlot]
    rfl
  · next hwriting hclosing =>
    cases hqueue : (s.slot x).queue with
    | nil => rw [Slot.writesOn_of_empty hqueue]
    | cons id rest =>
      rw [Slot.writesOn_of_waiting]
      rintro ⟨hstate | hstate, hrequest⟩
      · exact hwriting id rest hstate hrequest hqueue
      · exact hclosing id rest hstate hrequest hqueue

theorem State.slot_issueClose (s : State) (x : SlotId) : (s.issueClose x).slot x = (s.slot x).closesOn := by
  rw [State.issueClose, Slot.closesOn]
  split
  · next hstate hrequest hqueue hflight hpart =>
    rw [if_pos ⟨hstate, hrequest, hqueue, hflight, by rw [hpart]; rfl⟩]
    exact State.slot_issue ..
  · next hother =>
    rw [if_neg]
    rintro ⟨hstate, hrequest, hqueue, hflight, hpart⟩
    obtain ⟨p, hp⟩ := Option.isSome_iff_exists.mp hpart
    exact hother p hstate hrequest hqueue hflight hp

theorem State.slot_continueSlot (s : State) (x : SlotId) : (s.continueSlot x).slot x = (s.slot x).goesOn := by
  rw [State.continueSlot, State.slot_issueClose, State.slot_issueWrite, Slot.goesOn]

/-! ### One slot: what going on leaves, and what it does -/

theorem Slot.goesOn_keeps (c : Slot) :
    c.goesOn.state = c.state ∧ c.goesOn.part = c.part ∧ c.goesOn.free = c.free ∧
    c.goesOn.reserved = c.reserved ∧ c.goesOn.recent = c.recent ∧ c.goesOn.hold = c.hold ∧
    c.goesOn.mediaError = c.mediaError ∧ c.goesOn.slowPresent = c.slowPresent := by
  have hwrite : c.writesOn.state = c.state ∧ c.writesOn.part = c.part ∧ c.writesOn.free = c.free ∧
      c.writesOn.reserved = c.reserved ∧ c.writesOn.recent = c.recent ∧ c.writesOn.hold = c.hold ∧
      c.writesOn.mediaError = c.mediaError ∧ c.writesOn.slowPresent = c.slowPresent := by
    rw [Slot.writesOn]
    split
    · split <;> exact ⟨rfl, rfl, rfl, rfl, rfl, rfl, rfl, rfl⟩
    · exact ⟨rfl, rfl, rfl, rfl, rfl, rfl, rfl, rfl⟩
  rw [Slot.goesOn, Slot.closesOn]
  split <;> exact hwrite

/-- With a request outstanding a slot waits. -/
theorem Slot.goesOn_of_waiting {c : Slot} (h : c.request ≠ none) : c.goesOn = c := by
  rw [Slot.goesOn, Slot.writesOn_of_waiting fun hw => h hw.2]
  exact if_neg fun hc => h hc.2.1

/-- With units queued the oldest is issued (R115). -/
theorem Slot.goesOn_of_queued {c : Slot} {id : Nat} {rest : List Nat} (hstate : c.state = .writing ∨ c.state = .closing)
    (hrequest : c.request = none) (hqueue : c.queue = id :: rest) :
    c.goesOn = { c with queue := rest, inFlight := some id }.asked .unitWrite := by
  rw [Slot.goesOn, Slot.writesOn_of_queued hstate hrequest hqueue]
  exact if_neg fun hc => nomatch hc.2.1

/-- With the queue drained the part closes (R120). -/
theorem Slot.goesOn_of_drained {c : Slot} (hstate : c.state = .closing) (hrequest : c.request = none)
    (hqueue : c.queue = []) (hflight : c.inFlight = none) (hpart : c.part.isSome = true) :
    c.goesOn = c.asked .partClose := by
  rw [Slot.goesOn, Slot.writesOn_of_empty hqueue]
  exact if_pos ⟨hstate, hrequest, hqueue, hflight, hpart⟩

/-- A slot that is not closing and has no units queued stays as it is. -/
theorem Slot.goesOn_of_idle {c : Slot} (hstate : c.state ≠ .closing) (hqueue : c.queue = []) : c.goesOn = c := by
  rw [Slot.goesOn, Slot.writesOn_of_empty hqueue]
  exact if_neg fun hc => hstate hc.1

/-! ### One slot: a part that begins to close (R119) -/

/-- The counts and flags of the slot part. -/
def Slot.counted (c : Slot) (f : SlotPart → SlotPart) : Slot := { c with part := c.part.map f }

/-- A slot whose open part begins to close. -/
def Slot.beginsClose (c : Slot) (reason : CloseReason) : Slot :=
  let d := c.counted fun p => { p with closeReason := reason }
  if c.state = .writing then { d with state := .closing }.goesOn else d

theorem Slot.beginsClose_of_not_writing {c : Slot} (h : c.state ≠ .writing) (reason : CloseReason) :
    c.beginsClose reason = c.counted fun p => { p with closeReason := reason } := if_neg h

theorem Slot.beginsClose_keeps (c : Slot) (reason : CloseReason) :
    (c.beginsClose reason).state = (if c.state = .writing then .closing else c.state) ∧
    (c.beginsClose reason).part = c.part.map (fun p => { p with closeReason := reason }) := by
  rw [Slot.beginsClose]
  split
  · obtain ⟨hstate, hpart, -⟩ := Slot.goesOn_keeps { c.counted fun p => { p with closeReason := reason } with
      state := .closing }
    exact ⟨hstate, hpart⟩
  · exact ⟨rfl, rfl⟩

theorem State.slot_modifyCounts (s : State) (x : SlotId) (f : SlotPart → SlotPart) :
    (s.modifyCounts x f).slot x = (s.slot x).counted f :=
  State.slot_modifySlot ..

theorem State.slot_modifyPart (s : State) (x y : SlotId) (f : ClipPart → ClipPart) : (s.modifyPart x f).slot y = s.slot y := by
  cases y <;> rfl

theorem State.slot_slotTo (s : State) (x : SlotId) (st : SlotState) (r : SlotReason) :
    (s.slotTo x st r).slot x = { s.slot x with state := st } := by
  rw [State.slotTo_eq, State.slot_setSlot]

theorem State.phase_of_opened (h : s.partOpened x = true) : (s.recorder.partOn x).map ClipPart.phase = some .opened := by
  rw [State.partOpened] at h
  split at h
  · next p hp =>
    rw [hp]
    exact congrArg some (beq_iff_eq.mp h)
  · cases h

/-- The state in which the open part of a slot has begun to close, the slot itself still to follow. -/
def State.partClosing (s : State) (x : SlotId) (reason : CloseReason) : State :=
  (s.modifyPart x ClipPart.beginClosing).modifyCounts x (fun p => { p with closeReason := reason })

theorem State.beginClose_of_opened {s : State} {x : SlotId} (h : s.partOpened x = true) (reason : CloseReason) :
    s.beginClose x reason =
      if (s.slot x).state = .writing then
        ((s.partClosing x reason).slotTo x .closing reason.slotReason).continueSlot x
      else s.partClosing x reason := by
  have hstate : ((s.partClosing x reason).slot x).state = (s.slot x).state := by
    rw [State.partClosing, State.slot_modifyCounts, State.slot_modifyPart]
    rfl
  rw [← hstate]
  simp only [State.beginClose, State.phase_of_opened h]
  split
  · next hwriting => exact (if_pos hwriting).symm
  · next hother => exact (if_neg hother).symm

theorem State.slot_beginClose {s : State} {x : SlotId} (h : s.partOpened x = true) (reason : CloseReason) :
    (s.beginClose x reason).slot x = (s.slot x).beginsClose reason := by
  have hclosing : (s.partClosing x reason).slot x = (s.slot x).counted fun p => { p with closeReason := reason } := by
    rw [State.partClosing, State.slot_modifyCounts, State.slot_modifyPart]
  rw [State.beginClose_of_opened h, Slot.beginsClose]
  split
  · rw [State.slot_continueSlot, State.slot_slotTo, hclosing]
  · exact hclosing

theorem State.slot_beginClose_other {s : State} {x y : SlotId} (hy : y ≠ x) (reason : CloseReason) :
    (s.beginClose x reason).slot y = s.slot y := by
  cases x <;> cases y
  case a.a => exact absurd rfl hy
  case b.b => exact absurd rfl hy
  case a.b => exact (s.beginClose_sides reason).1
  case b.a => exact (s.beginClose_sides reason).2

/-! ### The parts open at a stop (R93, R119) -/

/-- The reason with which a slot's part closes at entry to STOPPING (R119). -/
def Slot.stopReason (c : Slot) : CloseReason :=
  match c.part with
  | some p => if p.spaceRefused then .full else .stop
  | none => .stop

/-- The slot `x` as every open part begins to close. -/
def State.stoppedSlot (s : State) (x : SlotId) : Slot :=
  if s.partOpened x = true then (s.slot x).beginsClose (s.slot x).stopReason else s.slot x

/-- Every open part begins to close, A first. -/
def State.closeOpen (s : State) : State := s.openSlots.foldl (fun s x => s.beginClose x (s.stopCloseReason x)) s

theorem State.partOpened_beginClose_other {s : State} {x y : SlotId} (hx : s.partOpened x = true) (hy : y ≠ x)
    (reason : CloseReason) : (s.beginClose x reason).partOpened y = s.partOpened y := by
  rw [State.partOpened_eq, State.beginClose_recorder hx, Recorder.closeNewest_newestOpen, if_neg hy]
  rfl

theorem State.slot_closeOpen (s : State) (x : SlotId) : s.closeOpen.slot x = s.stoppedSlot x := by
  rw [State.stoppedSlot, State.closeOpen, State.openSlots]
  cases ha : s.partOpened .a <;> cases hb : s.partOpened .b <;>
    simp only [List.filter_cons, List.filter_nil, ha, hb, if_true, Bool.false_eq_true, if_false, List.foldl_cons,
      List.foldl_nil]
  case false.false => cases x <;> simp only [ha, hb, Bool.false_eq_true, if_false]
  case false.true =>
    cases x with
    | a => simp only [ha, Bool.false_eq_true, if_false]; exact State.slot_beginClose_other (by decide) _
    | b => simp only [hb, if_true]; exact State.slot_beginClose hb _
  case true.false =>
    cases x with
    | a => simp only [ha, if_true]; exact State.slot_beginClose ha _
    | b => simp only [hb, Bool.false_eq_true, if_false]; exact State.slot_beginClose_other (by decide) _
  case true.true =>
    let u := s.beginClose .a (s.stopCloseReason .a)
    have hopen : u.partOpened .b = true := (State.partOpened_beginClose_other ha (by decide) _).trans hb
    have hslot : u.slot .b = s.slot .b := State.slot_beginClose_other (by decide) _
    cases x with
    | a =>
      simp only [ha, if_true]
      exact (State.slot_beginClose_other (s := u) (by decide) _).trans (State.slot_beginClose ha _)
    | b =>
      simp only [hb, if_true]
      rw [← hslot]
      exact State.slot_beginClose hopen _

/-! ### A stop, for every reason (R93) -/

/-- The recorder as it enters STOPPING, every open part beginning to close. -/
def Recorder.toStopping (r : Recorder) (reason : RecReason) : Recorder :=
  ({ r with
    pendingStop := none, stopReason := some reason, state := .stopping, lamp := .blink }.closeNewest .a).closeNewest .b

theorem Recorder.toStopping_eq (r : Recorder) (reason : RecReason) :
    r.toStopping reason =
      { r with
        pendingStop := none, stopReason := some reason, state := .stopping, lamp := .blink
        parts := (r.toStopping reason).parts } := by
  simp only [Recorder.toStopping]
  rw [Recorder.closeNewest_eq, Recorder.closeNewest_eq]

/-- The recorder at a stop entered at once (R93, R94). -/
def Recorder.stopAtOnce (r : Recorder) (it : RecItems) (reason : RecReason) : Recorder :=
  if (r.toStopping reason).allEnded = true then (r.toStopping reason).rested it else r.toStopping reason

/-- The recorder at a stop asked for (R93). -/
def Recorder.stopAsked (r : Recorder) (it : RecItems) (reason : RecReason) : Recorder :=
  if r.canStop = true then
    if r.openFrame.isSome = true then { r with pendingStop := some reason } else r.stopAtOnce it reason
  else r

theorem State.enterStopping_eq (s : State) (reason : RecReason) :
    s.enterStopping reason =
      ({ s with recorder := { s.recorder with pendingStop := none, stopReason := some reason } }.setRecState
        .stopping reason).closeOpen.afterPartEnd := rfl

theorem State.enterStopping_recorder_eq (s : State) (reason : RecReason) :
    (s.enterStopping reason).recorder = s.recorder.stopAtOnce s.items.record reason := by
  let u : State := { s with
    recorder := { s.recorder with pendingStop := none, stopReason := some reason } }.setRecState .stopping reason
  have hitems : u.closeOpen.items = s.items := by simp [State.closeOpen, u]
  have hrecorder : u.closeOpen.recorder = s.recorder.toStopping reason := by
    rw [State.closeOpen, State.closeOpen_recorder, State.setRecState_recorder]
    rfl
  have hkept := s.recorder.toStopping_eq reason
  have hstate : u.closeOpen.recorder.state = .stopping := by rw [hrecorder, hkept]
  have hreason : u.closeOpen.recorder.stopReason = some reason := by rw [hrecorder, hkept]
  have hsame : { u.closeOpen.recorder with pendingStop := none, stopReason := some reason } = u.closeOpen.recorder := by
    rw [hrecorder, hkept]
  rw [State.enterStopping_eq, State.afterPartEnd_eq, Recorder.stopAtOnce, ← hrecorder, hstate, hreason]
  by_cases hended : u.closeOpen.recorder.allEnded = true
  · rw [if_pos ⟨hended, rfl⟩, if_pos hended, State.endRecording_recorder, hitems]
    exact congrArg (Recorder.rested · s.items.record) hsame
  · rw [if_neg fun h => hended h.1, if_neg hended]

theorem State.slot_eq_of_sides {s t : State} (ha : t.slotA = s.slotA) (hb : t.slotB = s.slotB) (x : SlotId) :
    t.slot x = s.slot x := by
  cases x with
  | a => exact ha
  | b => exact hb

theorem State.slot_afterPartEnd (s : State) (x : SlotId) : s.afterPartEnd.slot x = s.slot x :=
  State.slot_eq_of_sides (by simp) (by simp) x

theorem State.slot_enterStopping (s : State) (reason : RecReason) (x : SlotId) :
    (s.enterStopping reason).slot x = s.stoppedSlot x := by
  let u : State := { s with
    recorder := { s.recorder with pendingStop := none, stopReason := some reason } }.setRecState .stopping reason
  have hslot : u.slot x = s.slot x := State.slot_eq_of_sides (by simp [u]) (by simp [u]) x
  have hopen : u.partOpened x = s.partOpened x := by
    rw [State.partOpened_eq, State.setRecState_recorder]
    rfl
  rw [State.enterStopping_eq, State.slot_afterPartEnd, State.slot_closeOpen, State.stoppedSlot, hslot, hopen]
  rfl

theorem State.requestStop_eq (s : State) (reason : RecReason) :
    s.requestStop reason =
      if s.recorder.canStop = true then
        if s.recorder.openFrame.isSome = true then { s with recorder := { s.recorder with pendingStop := some reason } }
        else s.enterStopping reason
      else s := by
  rw [State.requestStop]
  dsimp only
  split
  · split
    · next f hframe => rw [if_pos (by rw [hframe]; rfl)]
    · next hframe =>
      rw [if_neg (by rw [hframe]; exact Bool.false_ne_true)]
      rfl
  · rfl

theorem State.requestStop_recorder_eq (s : State) (reason : RecReason) :
    (s.requestStop reason).recorder = s.recorder.stopAsked s.items.record reason := by
  rw [State.requestStop_eq, Recorder.stopAsked]
  split
  · split
    · rfl
    · exact State.enterStopping_recorder_eq ..
  · rfl

/-- A stop asked for reaches the slots only where STOPPING is entered at once (R93). -/
theorem State.slot_requestStop (s : State) (reason : RecReason) (x : SlotId) :
    (s.requestStop reason).slot x =
      if s.recorder.canStop = true ∧ s.recorder.openFrame = none then s.stoppedSlot x else s.slot x := by
  rw [State.requestStop_eq]
  by_cases hcan : s.recorder.canStop = true
  · rw [if_pos hcan]
    by_cases hframe : s.recorder.openFrame = none
    · rw [if_neg (by rw [hframe]; exact Bool.false_ne_true), if_pos ⟨hcan, hframe⟩]
      exact State.slot_enterStopping ..
    · rw [if_pos (Option.isSome_iff_ne_none.mpr hframe), if_neg fun h => hframe h.2]
      cases x <;> rfl
  · rw [if_neg hcan, if_neg fun h => hcan h.1]

end Sys2Proof.Machine
end

section
/-! PROOF. Completions on the slot ports, and the end of a part (R92, R94, R105, R106, R120). -/

namespace Sys2Proof.Machine

variable {s : State} {x y : SlotId}

/-! ### The end of a recording, with the whole next state (R92, R94) -/

theorem RecItems.restState_lamp (it : RecItems) : lampOf it.restState = .off := by
  rw [RecItems.restState]
  split <;> rfl

theorem State.endRecording_eq (s : State) (reason : RecReason) :
    s.endRecording reason =
      { s with
        recorder := { s.recorder with pendingStop := none, stopReason := some reason }.rested s.items.record
        body := s.body.hand (.notice (.record s.items.record.restState s.recorder.clipCounter reason))
        head := if s.recorder.lamp = .off then s.head else s.head.hand (.tally .off) } := by
  rw [State.endRecording, State.setRecState_eq, Recorder.rested, RecItems.restState_lamp]
  dsimp only
  split
  · next hidle => rw [if_pos hidle]
  · next hother => rw [if_neg hother]

/-- The reason with which a recording ends once every part has ended (R92, R94). -/
def Recorder.endReason (r : Recorder) : RecReason :=
  match r.state with
  | .starting => r.pendingStop.getD .openFailed
  | .recording => r.pendingStop.getD .mediaLost
  | _ => r.stopReason.getD .operator

/-- The recorder after a part has ended: at rest where every part has (R92, R94). -/
def Recorder.judged (r : Recorder) (it : RecItems) : Recorder :=
  if r.allEnded = true ∧ r.state.recording? = true then
    { r with pendingStop := none, stopReason := some r.endReason }.rested it
  else r

theorem State.afterPartEnd_told (s : State) :
    s.afterPartEnd =
      if s.recorder.allEnded = true ∧ s.recorder.state.recording? = true then s.endRecording s.recorder.endReason
      else s := State.afterPartEnd_eq s

theorem State.afterPartEnd_recorder (s : State) :
    s.afterPartEnd.recorder = s.recorder.judged s.items.record := by
  rw [State.afterPartEnd_told, Recorder.judged, apply_ite State.recorder, State.endRecording_recorder]

theorem Recorder.judged_parts (r : Recorder) (it : RecItems) : (r.judged it).parts = r.parts := by
  rw [Recorder.judged]
  split
  · exact (Recorder.rested_keeps ..).2.2.2.1
  · rfl

/-! ### Parts by slot -/

theorem Recorder.partOn_modifyPart (r : Recorder) (x : SlotId) {f : ClipPart → ClipPart} (hf : ∀ p, (f p).slot = p.slot) :
    (r.modifyPart x f).partOn x = (r.partOn x).map f :=
  find?_modifyFirst_same (fun p => by rw [hf]) _

theorem Recorder.partOn_modifyPart_other (r : Recorder) (hxy : y ≠ x) {f : ClipPart → ClipPart}
    (hf : ∀ p, (f p).slot = p.slot) : (r.modifyPart x f).partOn y = r.partOn y :=
  find?_modifyFirst_other (fun p => by rw [hf]) (fun p hp => by simp [beq_iff_eq.mp hp, hxy.symm]) _

theorem Recorder.partOn_of_parts {r q : Recorder} (h : q.parts = r.parts) (x : SlotId) : q.partOn x = r.partOn x :=
  congrArg (List.find? _) h

def ClipPart.endNow (p : ClipPart) : ClipPart := { p with phase := .ended }

theorem State.endPart_eq (s : State) (x : SlotId) : s.endPart x = (s.modifyPart x ClipPart.endNow).afterPartEnd := rfl

theorem State.endPart_recorder (s : State) (x : SlotId) :
    (s.endPart x).recorder = (s.recorder.modifyPart x ClipPart.endNow).judged s.items.record := by
  rw [State.endPart_eq, State.afterPartEnd_recorder]
  rfl

theorem State.endPart_partOn (s : State) (x : SlotId) :
    (s.endPart x).recorder.partOn x = (s.recorder.partOn x).map ClipPart.endNow := by
  rw [State.endPart_recorder, Recorder.partOn_of_parts (Recorder.judged_parts ..)]
  exact Recorder.partOn_modifyPart _ _ fun _ => rfl

theorem State.endPart_partOn_other (s : State) (hxy : y ≠ x) :
    (s.endPart x).recorder.partOn y = s.recorder.partOn y := by
  rw [State.endPart_recorder, Recorder.partOn_of_parts (Recorder.judged_parts ..)]
  exact Recorder.partOn_modifyPart_other _ hxy fun _ => rfl

theorem State.slot_endPart (s : State) (x y : SlotId) : (s.endPart x).slot y = s.slot y := by
  rw [State.endPart_eq, State.slot_afterPartEnd, State.slot_modifyPart]

/-! ### PART_CLOSE completed (R120) -/

/-- The slot as its PART_CLOSE has ended. -/
def Slot.closed (c : Slot) (ok : Bool) : Slot :=
  let d : Slot :=
    { c.endRequest with
      free := if ok then c.free - 1 else c.free
      mediaError := c.mediaError || !ok
      hold := c.hold || c.part.map SlotPart.closeReason == some CloseReason.abort
      part := c.part.map fun p => { p with damaged := p.damaged || !ok } }
  { d with state := d.restState }

theorem State.modifySlot_modifySlot (s : State) (x : SlotId) (f g : Slot → Slot) :
    (s.modifySlot x f).modifySlot x g = s.modifySlot x (fun c => g (f c)) := by
  cases x <;> rfl

theorem SlotPart.map_undamaged (o : Option SlotPart) : o.map (fun p => { p with damaged := p.damaged || !true }) = o := by
  cases o <;> simp

theorem SlotPart.map_damaged (o : Option SlotPart) :
    o.map (fun p => { p with damaged := p.damaged || !false }) = o.map fun p => { p with damaged := true } := by
  cases o <;> simp

theorem State.partCloseEnd_eq (s : State) (x : SlotId) (ok : Bool) :
    s.partCloseEnd x ok =
      ({ s with
        body := s.body.hand (.notice (.slot x ((s.slot x).closed ok).state
          (closeEndReason ((s.slot x).part.map SlotPart.closeReason == some CloseReason.abort) ok))) }.setSlot x
            ((s.slot x).closed ok)).endPart x := by
  rw [State.partCloseEnd]
  cases ok with
  | true =>
    simp only [if_true, State.slotTo_modifySlot, Slot.closed, SlotPart.map_undamaged, State.slot_modifySlot]
    rfl
  | false =>
    simp only [Bool.false_eq_true, if_false, State.damagePart, State.modifyCounts, State.modifySlot_modifySlot,
      State.slotTo_modifySlot, Slot.closed, SlotPart.map_damaged, State.slot_modifySlot]
    rfl

theorem closeEndReason_eq (p : SlotPart) (ok : Bool) :
    closeEndReason ((some p).map SlotPart.closeReason == some CloseReason.abort) ok =
      if p.closeReason = .abort then .aborted else if ok = true then .closed else .closeFailed := by
  rw [closeEndReason, Option.map_some]
  cases p.closeReason <;> rfl

/-- The unit store once the recording has come to rest (R85). -/
def Recorder.restedStore (r : Recorder) (home : RecState) : UnitStore :=
  match home, r.assembly with
  | .idle, some id => r.store.release id
  | _, _ => r.store

theorem Recorder.rested_eq (r : Recorder) (it : RecItems) :
    r.rested it =
      { r with
        state := it.restState
        lamp := .off
        assembly := if it.restState = .idle then none else r.assembly
        store := r.restedStore it.restState } := by
  rw [Recorder.rested, RecItems.restState_lamp]
  by_cases hidle : it.restState = .idle
  · cases hr : r.assembly <;> simp only [hidle, if_true, Recorder.releaseAssembly, Recorder.restedStore, hr]
  · rw [if_neg hidle, if_neg hidle, Recorder.restedStore]
    exact fun id h => absurd h hidle

/-- Settles O45. -/
theorem partCloseEnds : Obligations.PartCloseEnds := by
  intro s x number ok p hreset hrequest hpart free left said home reason
  let c := s.slot x
  have hclosed : c.closed ok =
      { c with
        state := left, free := free, hold := c.hold || decide (p.closeReason = .abort)
        part := some { p with damaged := p.damaged || !ok }, mediaError := c.mediaError || !ok
        request := none, slowTimer := .stopped, requestTimer := .stopped, mountTimer := .stopped
        slowPresent := false } := by
    have habort : (some p.closeReason == some CloseReason.abort) = decide (p.closeReason = .abort) := by
      cases p.closeReason <;> rfl
    rw [Slot.closed, hpart, ← habort]
    rfl
  let u : State := { s with out := [], body := said }.setSlot x (c.closed ok)
  have hu : s.begin.partCloseEnd x ok = u.endPart x := by
    rw [State.partCloseEnd_eq, State.slot_begin, hpart, closeEndReason_eq]
    rfl
  have hrecorder : u.recorder = s.recorder := by cases x <;> rfl
  have hslot : (u.endPart x).slot x = c.closed ok := by rw [State.slot_endPart, State.slot_setSlot]
  refine ⟨u.endPart x, ?_, hslot.trans hclosed, ?_, ?_, ?_, ?_⟩
  · exact congrArg Host.Outcome.next ((State.complete_of_request hreset hrequest _).trans hu)
  · intro q hq
    rw [State.endPart_partOn, hrecorder, hq]
    rfl
  · rw [State.endPart_partOn_other _ (by cases x <;> decide), hrecorder]
  · rw [hslot, State.endPart_eq, State.afterPartEnd_told, State.endRecording_eq]
    split <;> cases x <;> rfl
  · have hparts : (u.endPart x).recorder.parts = (s.recorder.modifyPart x ClipPart.endNow).parts := by
      rw [State.endPart_recorder, Recorder.judged_parts, hrecorder]
    let v : State := u.modifyPart x ClipPart.endNow
    have hv : v.recorder = s.recorder.modifyPart x ClipPart.endNow := by cases x <;> rfl
    rw [hparts]
    split
    · next hall =>
      have hends : s.recorder.state.recording? = true ∧ (s.recorder.modifyPart x ClipPart.endNow).allEnded = true :=
        ⟨hall.1, (Recorder.allEnded_iff _).mpr hall.2⟩
      have hrest : u.endPart x = v.endRecording reason := by
        have hreason : v.recorder.endReason = reason := (congrArg Recorder.endReason hv :)
        rw [← hreason, State.endPart_eq]
        exact (State.afterPartEnd_told v).trans (if_pos (by rw [hv]; exact hends.symm))
      rw [hrest, State.endRecording_eq]
      refine ⟨(Recorder.rested_eq ..).trans ?_, ?_, ?_⟩
      all_goals cases x <;> rfl
    · next hgoes =>
      have hstays : u.endPart x = v := by
        rw [State.endPart_eq]
        refine (State.afterPartEnd_told v).trans (if_neg fun h => hgoes ?_)
        rw [hv, Recorder.allEnded_iff] at h
        exact h.symm
      rw [hstays]
      cases x <;> exact ⟨rfl, rfl, rfl⟩

/-! ### Units lost with their part (R112, R118, R121) -/

/-- The slot as the units of its write queue are lost. -/
def Slot.queueLost (c : Slot) : Slot :=
  { c.counted fun p => { p with lost := p.lost + c.queue.length } with queue := [], reserved := 0 }

/-- The slot as the unit in flight, if there is one, is lost. -/
def Slot.flightLost (c : Slot) : Slot :=
  { c.counted fun p => { p with lost := p.lost + (if c.inFlight.isSome = true then 1 else 0) } with inFlight := none }

/-- The unit in flight, if there is one, is released. -/
def UnitStore.releaseFlight (st : UnitStore) : Option Nat → UnitStore
  | none => st
  | some id => st.release id

theorem Slot.flightLost_of_none {c : Slot} (h : c.inFlight = none) : c.flightLost = c := by
  have hpart : ∀ o : Option SlotPart,
      o.map (fun p => { p with lost := p.lost + (if (none : Option Nat).isSome = true then 1 else 0) }) = o := fun o => by
    cases o <;> rfl
  rw [Slot.flightLost, Slot.counted, h, hpart]
  cases c
  cases h
  rfl

theorem State.slot_damagePart (s : State) (x : SlotId) :
    (s.damagePart x).slot x = (s.slot x).counted fun p => { p with damaged := true } := State.slot_modifyCounts ..

theorem State.slot_releaseQueue (s : State) (x : SlotId) : (s.releaseQueue x).slot x = (s.slot x).queueLost := by
  rw [State.releaseQueue, State.slot_modifySlot, State.slot_modifyCounts]
  cases x <;> rfl

theorem State.slot_loseInFlight (s : State) (x : SlotId) : (s.loseInFlight x).slot x = (s.slot x).flightLost := by
  rw [State.loseInFlight]
  split
  · next h => exact (Slot.flightLost_of_none h).symm
  · next id h =>
    rw [State.slot_modifySlot, State.slot_modifyCounts, Slot.flightLost, h]
    cases x <;> rfl

theorem State.damagePart_recorder (s : State) (x : SlotId) : (s.damagePart x).recorder = s.recorder := by
  cases x <;> rfl

theorem State.releaseQueue_recorder (s : State) (x : SlotId) :
    (s.releaseQueue x).recorder = { s.recorder with store := s.recorder.store.releaseAll (s.slot x).queue } := by
  cases x <;> rfl

theorem State.loseInFlight_recorder (s : State) (x : SlotId) :
    (s.loseInFlight x).recorder =
      { s.recorder with store := s.recorder.store.releaseFlight (s.slot x).inFlight } := by
  rw [State.loseInFlight]
  split
  · next h => rw [h]; rfl
  · next id h => rw [h]; cases x <;> rfl

theorem State.slotTo_recorder (s : State) (x : SlotId) (st : SlotState) (r : SlotReason) :
    (s.slotTo x st r).recorder = s.recorder := by
  rw [State.slotTo_eq]
  cases x <;> rfl

/-! ### A part lost: what becomes of the recording (R92 to R94, R121, R123) -/

/-- The recorder gives up the unit under assembly, or leaves it and the unit store as they are. -/
def Recorder.GivesUp (r q : Recorder) : Prop :=
  q.assembly = r.assembly ∧ q.store = r.store ∨ q.assembly = none ∧ r.assembly ≠ none

theorem Recorder.rested_givesUp (r : Recorder) (it : RecItems) : r.GivesUp (r.rested it) := by
  rw [Recorder.rested_eq, Recorder.GivesUp]
  by_cases hidle : it.restState = .idle
  · cases hr : r.assembly with
    | none => exact .inl ⟨if_pos hidle, by simp only [Recorder.restedStore, hidle, hr]⟩
    | some id => exact .inr ⟨if_pos hidle, Option.some_ne_none id⟩
  · refine .inl ⟨if_neg hidle, ?_⟩
    rw [Recorder.restedStore]
    exact fun id h => absurd h hidle

theorem Recorder.judged_givesUp (r : Recorder) (it : RecItems) : r.GivesUp (r.judged it) := by
  rw [Recorder.judged]
  split
  · exact Recorder.rested_givesUp ..
  · exact .inl ⟨rfl, rfl⟩

theorem Recorder.stopAsked_givesUp (r : Recorder) (it : RecItems) (reason : RecReason) :
    r.GivesUp (r.stopAsked it reason) := by
  have hkept := r.toStopping_eq reason
  have hassembly : (r.toStopping reason).assembly = r.assembly := by rw [hkept]
  have hstore : (r.toStopping reason).store = r.store := by rw [hkept]
  rw [Recorder.stopAsked, Recorder.stopAtOnce]
  split
  · split
    · exact .inl ⟨rfl, rfl⟩
    · split
      · have hgives := (r.toStopping reason).rested_givesUp it
        rw [Recorder.GivesUp, hassembly, hstore] at hgives
        exact hgives
      · exact .inl ⟨hassembly, hstore⟩
  · exact .inl ⟨rfl, rfl⟩

theorem Recorder.closeNewest_partOn_ended (r : Recorder) (x y : SlotId) :
    ((r.closeNewest y).partOn x).map ClipPart.endNow = (r.partOn x).map ClipPart.endNow := by
  rw [Recorder.closeNewest]
  split
  · by_cases hxy : x = y
    · subst hxy
      rw [Recorder.partOn_modifyPart (f := ClipPart.beginClosing) _ _ fun _ => rfl, Option.map_map]
      rfl
    · rw [Recorder.partOn_modifyPart_other (f := ClipPart.beginClosing) _ hxy fun _ => rfl]
  · rfl

theorem Recorder.toStopping_partOn_ended (r : Recorder) (reason : RecReason) (x : SlotId) :
    ((r.toStopping reason).partOn x).map ClipPart.endNow = (r.partOn x).map ClipPart.endNow := by
  rw [Recorder.toStopping, Recorder.closeNewest_partOn_ended, Recorder.closeNewest_partOn_ended]
  rfl

theorem Recorder.stopAsked_partOn_ended (r : Recorder) (it : RecItems) (reason : RecReason) (x : SlotId) :
    ((r.stopAsked it reason).partOn x).map ClipPart.endNow = (r.partOn x).map ClipPart.endNow := by
  rw [Recorder.stopAsked, Recorder.stopAtOnce]
  split
  · split
    · rfl
    · split
      · rw [Recorder.partOn_of_parts (Recorder.rested_keeps ..).2.2.2.1, Recorder.toStopping_partOn_ended]
      · exact Recorder.toStopping_partOn_ended ..
  · rfl

/-- The recorder as the part on a slot is lost, its units' holders gone with it. -/
def Recorder.partLost (r : Recorder) (x : SlotId) (it : RecItems) (st : UnitStore) : Recorder :=
  ({ r with store := st }.modifyPart x ClipPart.endNow).judged it

theorem Recorder.partLost_partOn (r : Recorder) (x : SlotId) (it : RecItems) (st : UnitStore) :
    (r.partLost x it st).partOn x = (r.partOn x).map ClipPart.endNow := by
  rw [Recorder.partLost, Recorder.partOn_of_parts (Recorder.judged_parts ..)]
  exact Recorder.partOn_modifyPart _ _ fun _ => rfl

theorem Recorder.partLost_givesUp {r : Recorder} {x : SlotId} {it : RecItems} {st : UnitStore} :
    { r with store := st }.GivesUp (r.partLost x it st) := by
  have hgives := ({ r with store := st }.modifyPart x ClipPart.endNow).judged_givesUp it
  exact hgives

theorem Recorder.judged_of_ended {r : Recorder} {it : RecItems} (hall : ∀ q ∈ r.parts, q.phase = .ended)
    (hrec : r.state.recording? = true) :
    (r.judged it).state = (if it.preRecSeconds = 0 then .idle else .standby) ∧ (r.judged it).lamp = .off ∧
    (r.judged it).pendingStop = none ∧ (r.judged it).stopReason = some r.endReason := by
  rw [Recorder.judged, if_pos ⟨(Recorder.allEnded_iff r).mpr hall, hrec⟩, Recorder.rested_eq]
  exact ⟨rfl, rfl, rfl, rfl⟩

theorem Recorder.judged_of_going {r : Recorder} {it : RecItems} (h : ¬∀ q ∈ r.parts, q.phase = .ended) :
    r.judged it = r := if_neg fun hends => h ((Recorder.allEnded_iff r).mp hends.1)

theorem Recorder.judged_of_rest {r : Recorder} {it : RecItems} (h : r.state.recording? = false) :
    r.judged it = r := if_neg fun hends => by rw [h] at hends; exact Bool.false_ne_true hends.2

/-- What becomes of a recording that loses a part, where `ex` says that this is the second relay failure. -/
def Recorder.AfterLoss (r t : Recorder) (it : RecItems) (ex : Prop) [Decidable ex] : Prop :=
  if ∀ q ∈ t.parts, q.phase = .ended then
    t.state = (if it.preRecSeconds = 0 then .idle else .standby) ∧ t.lamp = .off ∧ t.pendingStop = none ∧
    t.stopReason = some (if ex then .relayExhausted else r.endReason)
  else if ¬ex then t.state = r.state ∧ t.pendingStop = r.pendingStop
  else if r.openFrame.isSome = true then t.state = r.state ∧ t.pendingStop = some .relayExhausted
  else t.state = .stopping ∧ t.stopReason = some .relayExhausted

/-- A recorder judged after a part has ended, from what it was before. -/
theorem Recorder.afterLoss_of_judged {r u : Recorder} {it : RecItems} {ex : Prop} [Decidable ex]
    (hrec : u.state.recording? = true)
    (hreason : u.endReason = if ex then .relayExhausted else r.endReason)
    (hkept : if ¬ex then u.state = r.state ∧ u.pendingStop = r.pendingStop
      else if r.openFrame.isSome = true then u.state = r.state ∧ u.pendingStop = some .relayExhausted
      else u.state = .stopping ∧ u.stopReason = some .relayExhausted) :
    r.AfterLoss (u.judged it) it ex := by
  rw [Recorder.AfterLoss]
  split
  · next hall =>
    rw [Recorder.judged_parts] at hall
    rw [← hreason]
    exact Recorder.judged_of_ended hall hrec
  · next hgoing =>
    rw [Recorder.judged_parts] at hgoing
    rw [Recorder.judged_of_going hgoing]
    exact hkept

theorem RecItems.restState_rests (it : RecItems) : it.restState.recording? = false := by
  rw [RecItems.restState]
  split <;> rfl

theorem Recorder.endReason_of_pending {r : Recorder} {reason : RecReason} (hstate : r.state = .starting ∨ r.state = .recording)
    (h : r.pendingStop = some reason) : r.endReason = reason := by
  rw [Recorder.endReason, h]
  obtain hstate | hstate := hstate <;> rw [hstate] <;> rfl

theorem Recorder.endReason_of_stopping {r : Recorder} {reason : RecReason} (hstate : r.state = .stopping)
    (h : r.stopReason = some reason) : r.endReason = reason := by
  rw [Recorder.endReason, hstate, h]
  rfl

theorem forall_modifyFirst {α : Type} {P : α → Prop} {p : α → Bool} {f : α → α} (hf : ∀ a, P (f a)) {xs : List α}
    (h : ∀ a ∈ xs, P a) : ∀ a ∈ modifyFirst p f xs, P a := by
  induction xs with
  | nil => exact h
  | cons b xs ih =>
    obtain ⟨hb, hxs⟩ := List.forall_mem_cons.mp h
    rw [modifyFirst]
    split
    · exact List.forall_mem_cons.mpr ⟨hf b, hxs⟩
    · exact List.forall_mem_cons.mpr ⟨hb, ih hxs⟩

/-- What a recording becomes that loses the part on a slot, the loss stopping it where it is the second relay
failure. -/
theorem Recorder.partLost_afterLoss {r u : Recorder} {x : SlotId} {it : RecItems} {st : UnitStore} {ex : Prop} [Decidable ex]
    (hrec : r.state.recording? = true) (hyes : ex → r.canStop = true ∧ u = r.stopAsked it .relayExhausted)
    (hno : ¬ex → u = r) : r.AfterLoss (u.partLost x it st) it ex := by
  let v : Recorder := { u with store := st }.modifyPart x ClipPart.endNow
  by_cases hex : ex
  · obtain ⟨hcan, hu⟩ := hyes hex
    have hstate : r.state = .starting ∨ r.state = .recording := ((Recorder.canStop_iff r).mp hcan).1
    rw [Recorder.stopAsked, if_pos hcan] at hu
    by_cases hframe : r.openFrame.isSome = true
    · rw [if_pos hframe] at hu
      have hv : v.state = r.state ∧ v.pendingStop = some .relayExhausted := by subst hu; exact ⟨rfl, rfl⟩
      have hreason : v.endReason = .relayExhausted := Recorder.endReason_of_pending (hv.1 ▸ hstate) hv.2
      refine Recorder.afterLoss_of_judged (u := v) (hv.1 ▸ hrec) (by rw [if_pos hex, hreason]) ?_
      rw [if_neg (not_not_intro hex), if_pos hframe]
      exact hv
    · rw [if_neg hframe, Recorder.stopAtOnce] at hu
      have hkept := r.toStopping_eq .relayExhausted
      split at hu
      · next hended =>
        have hrests : v.state.recording? = false := by
          subst hu
          exact (congrArg RecState.recording? (Recorder.rested_keeps ..).1).trans (RecItems.restState_rests it)
        have hall : ∀ q ∈ v.parts, q.phase = .ended := by
          have hparts : u.parts = (r.toStopping .relayExhausted).parts := by
            subst hu
            exact (Recorder.rested_keeps ..).2.2.2.1
          refine forall_modifyFirst (P := fun q => q.phase = .ended) (f := ClipPart.endNow) (fun _ => rfl) fun q hq => ?_
          exact (Recorder.allEnded_iff _).mp hended q (hparts ▸ hq)
        have hlost : u.partLost x it st = v := Recorder.judged_of_rest hrests
        rw [hlost, Recorder.AfterLoss, if_pos hall, if_pos hex]
        have hv : v.state = it.restState ∧ v.lamp = .off ∧ v.pendingStop = none ∧ v.stopReason = some .relayExhausted := by
          subst hu
          simp only [v, Recorder.rested_eq]
          rw [hkept]
          exact ⟨rfl, rfl, rfl, rfl⟩
        exact hv
      · have hv : v.state = .stopping ∧ v.stopReason = some .relayExhausted := by
          subst hu
          simp only [v]
          rw [hkept]
          exact ⟨rfl, rfl⟩
        have hreason : v.endReason = .relayExhausted := Recorder.endReason_of_stopping hv.1 hv.2
        refine Recorder.afterLoss_of_judged (u := v) (by rw [hv.1]; rfl) (by rw [if_pos hex, hreason]) ?_
        rw [if_neg (not_not_intro hex), if_neg hframe]
        exact hv
  · have hu := hno hex
    subst hu
    refine Recorder.afterLoss_of_judged (u := v) hrec (if_neg hex).symm ?_
    rw [if_pos hex]
    exact ⟨rfl, rfl⟩

/-- The second relay failure, where the part on a slot is a continuation (R123). -/
def State.relayEnds (s : State) (x : SlotId) : State :=
  if (s.slot x).onContinuation then s.requestStop .relayExhausted else s

theorem Slot.onContinuation_iff (c : Slot) : c.onContinuation = true ↔ 1 < (c.part.map SlotPart.number).getD 0 := by
  rw [Slot.onContinuation]
  cases c.part with
  | none => simp
  | some p => simp

/-- A slot whose part stays as it is, its close reason aside. -/
def Slot.closeReasonOf (c : Slot) (now : Prop) [Decidable now] : Slot :=
  c.counted fun p =>
    { p with closeReason := if now then if p.spaceRefused = true then .full else .stop else p.closeReason }

theorem Slot.closeReasonOf_of_not {c : Slot} {now : Prop} [Decidable now] (h : ¬now) : c.closeReasonOf now = c := by
  rw [Slot.closeReasonOf, Slot.counted]
  cases c with
  | mk =>
    simp only [if_neg h]
    rw [Option.map_id']

theorem Slot.closeReasonOf_of {c : Slot} {now : Prop} [Decidable now] (h : now) :
    c.closeReasonOf now = c.counted fun p => { p with closeReason := c.stopReason } := by
  rw [Slot.closeReasonOf, Slot.counted, Slot.counted, Slot.stopReason]
  cases c.part with
  | none => rfl
  | some p => simp only [if_pos h, Option.map_some]

/-- A slot that waits for a completion keeps all but its state and the close reason as its part begins to close. -/
theorem Slot.beginsClose_of_waiting {c : Slot} (h : c.request ≠ none ∨ c.state ≠ .writing) (reason : CloseReason) :
    ∃ st, c.beginsClose reason = { c.counted (fun p => { p with closeReason := reason }) with state := st } := by
  rw [Slot.beginsClose]
  split
  · next hwriting =>
    have hwaits : c.request ≠ none := h.resolve_right (not_not_intro hwriting)
    exact ⟨_, Slot.goesOn_of_waiting hwaits⟩
  · exact ⟨c.state, rfl⟩

theorem State.slot_relayEnds {s : State} {x : SlotId} {now : Prop} [Decidable now]
    (hnow : now ↔ 1 < ((s.slot x).part.map SlotPart.number).getD 0 ∧ s.recorder.canStop = true ∧
      s.recorder.openFrame = none ∧ s.partOpened x = true)
    (h : (s.slot x).request ≠ none ∨ (s.slot x).state ≠ .writing) :
    ∃ st, (s.relayEnds x).slot x = { (s.slot x).closeReasonOf now with state := st } := by
  rw [State.relayEnds]
  split
  · next hcont =>
    rw [State.slot_requestStop]
    split
    · next hstop =>
      rw [State.stoppedSlot]
      split
      · next hopen =>
        have hyes : now := hnow.mpr ⟨(Slot.onContinuation_iff _).mp hcont, hstop.1, hstop.2, hopen⟩
        obtain ⟨st, hst⟩ := Slot.beginsClose_of_waiting h (s.slot x).stopReason
        exact ⟨st, by rw [hst, Slot.closeReasonOf_of hyes]⟩
      · next hopen =>
        exact ⟨_, by rw [Slot.closeReasonOf_of_not fun hyes => hopen (hnow.mp hyes).2.2.2]⟩
    · next hstop =>
      have hno : ¬now := fun hyes => hstop ⟨(hnow.mp hyes).2.1, (hnow.mp hyes).2.2.1⟩
      exact ⟨_, by rw [Slot.closeReasonOf_of_not hno]⟩
  · next hcont =>
    have hno : ¬now := fun hyes => hcont ((Slot.onContinuation_iff _).mpr (hnow.mp hyes).1)
    exact ⟨_, by rw [Slot.closeReasonOf_of_not hno]⟩

theorem State.relayEnds_recorder (s : State) (x : SlotId) :
    (s.relayEnds x).recorder =
      if (s.slot x).onContinuation = true then s.recorder.stopAsked s.items.record .relayExhausted
      else s.recorder := by
  rw [State.relayEnds, apply_ite State.recorder, State.requestStop_recorder_eq]

theorem State.relayEnds_items (s : State) (x : SlotId) : (s.relayEnds x).items = s.items := by
  rw [State.relayEnds]
  split <;> simp

theorem State.partOpenError_recorder (s : State) (x : SlotId) :
    (s.partOpenError x).recorder =
      (s.relayEnds x).recorder.partLost x s.items.record
        ((s.relayEnds x).recorder.store.releaseAll ((s.relayEnds x).slot x).queue) := by
  have hitems := s.relayEnds_items x
  change (State.endPart _ x).recorder = _
  rw [State.endPart_recorder, State.slotTo_recorder, State.releaseQueue_recorder, State.damagePart_recorder,
    State.slot_damagePart, State.slot_modifySlot]
  rw [← hitems]
  cases x <;> rfl

theorem State.slot_partOpenError (s : State) (x : SlotId) :
    (s.partOpenError x).slot x =
      { ({ ((s.relayEnds x).slot x).endRequest with mediaError := true }.counted fun p =>
        { p with damaged := true }).queueLost with state := .ready } := by
  change (State.endPart _ x).slot x = _
  rw [State.slot_endPart, State.slot_slotTo, State.slot_releaseQueue, State.slot_damagePart, State.slot_modifySlot]
  rfl

theorem Recorder.store_of_givesUp {r u t : Recorder} {st : UnitStore} {f : UnitStore → UnitStore} (hu : r.GivesUp u)
    (ht : { u with store := st }.GivesUp t) (hst : st = f u.store) (h : t.assembly = r.assembly) :
    t.store = f r.store := by
  rcases ht with ⟨hassembly, hstore⟩ | ⟨hnone, hsome⟩
  · rcases hu with ⟨-, hsame⟩ | ⟨hnone, hsome⟩
    · rw [hstore, ← hsame]
      exact hst
    · exact absurd (h.symm.trans (hassembly.trans hnone)) hsome
  · rcases hu with ⟨hassembly, -⟩ | ⟨-, hsome⟩
    · exact absurd (hassembly.trans (h.symm.trans hnone)) hsome
    · exact absurd (h.symm.trans hnone) hsome

theorem State.relayEnds_givesUp (s : State) (x : SlotId) : s.recorder.GivesUp (s.relayEnds x).recorder := by
  rw [State.relayEnds_recorder]
  split
  · exact Recorder.stopAsked_givesUp ..
  · exact .inl ⟨rfl, rfl⟩

theorem State.relayEnds_partOn_ended (s : State) (x y : SlotId) :
    ((s.relayEnds x).recorder.partOn y).map ClipPart.endNow = (s.recorder.partOn y).map ClipPart.endNow := by
  rw [State.relayEnds_recorder]
  split
  · exact Recorder.stopAsked_partOn_ended ..
  · rfl

theorem State.partOpened_of_ended {s t : State} {x : SlotId}
    (h : t.recorder.partOn x = (s.recorder.partOn x).map ClipPart.endNow) : t.partOpened x = false := by
  rw [State.partOpened, h]
  cases s.recorder.partOn x <;> rfl

theorem Recorder.stopAsked_of_not {r : Recorder} {it : RecItems} {reason : RecReason} (h : ¬r.canStop = true) :
    r.stopAsked it reason = r := if_neg h

/-- The recorder where the second relay failure is `ex`. -/
theorem State.relayEnds_told {s : State} {x : SlotId} {ex : Prop}
    (hex : ex ↔ 1 < ((s.slot x).part.map SlotPart.number).getD 0 ∧ s.recorder.canStop = true) :
    (ex → s.recorder.canStop = true ∧
      (s.relayEnds x).recorder = s.recorder.stopAsked s.items.record .relayExhausted) ∧
    (¬ex → (s.relayEnds x).recorder = s.recorder) := by
  rw [State.relayEnds_recorder]
  refine ⟨fun h => ⟨(hex.mp h).2, if_pos ((Slot.onContinuation_iff _).mpr (hex.mp h).1)⟩, fun h => ?_⟩
  split
  · next hcont => exact Recorder.stopAsked_of_not fun hcan => h (hex.mpr ⟨(Slot.onContinuation_iff _).mp hcont, hcan⟩)
  · rfl

/-! ### PART_OPEN completed (R112) -/

theorem State.reportOpened_recorder (s : State) :
    s.reportOpened.recorder =
      if s.recorder.state = .starting then { s.recorder with state := .recording, lamp := .on, lossCount := 0 }
      else s.recorder := by
  rw [State.reportOpened]
  split
  · next h =>
    rw [if_pos h, State.setRecState_eq]
    rfl
  · next h => rw [if_neg h]

theorem State.slot_reportOpened (s : State) (x : SlotId) : s.reportOpened.slot x = s.slot x := by
  rw [State.reportOpened]
  split
  · rw [State.setRecState_eq]
    cases x <;> rfl
  · rfl

theorem State.reportOpened_partOpened (s : State) (x : SlotId) : s.reportOpened.partOpened x = s.partOpened x := by
  rw [State.partOpened_eq, State.reportOpened_recorder]
  split <;> rfl

theorem State.continueSlot_recorder (s : State) (x : SlotId) : (s.continueSlot x).recorder = s.recorder := by
  simp

/-- The slot as its PART_OPEN has succeeded, before it goes on. -/
def Slot.openedOk (c : Slot) (opened : Bool) : Slot :=
  { c.endRequest with free := c.free - 1, state := if opened = true then .writing else .closing }

theorem State.partOpenOk_recorder (s : State) (x : SlotId) :
    (s.partOpenOk x).recorder =
      if s.recorder.state = .starting then { s.recorder with state := .recording, lamp := .on, lossCount := 0 }
      else s.recorder := by
  rw [State.partOpenOk, State.continueSlot_recorder, State.slotTo_recorder, State.reportOpened_recorder]
  cases x <;> rfl

theorem State.slot_partOpenOk (s : State) (x : SlotId) :
    (s.partOpenOk x).slot x = ((s.slot x).openedOk (s.partOpened x)).goesOn := by
  rw [State.partOpenOk, State.slot_continueSlot, State.slot_slotTo, State.reportOpened_partOpened,
    State.slot_reportOpened, State.slot_modifySlot]
  cases x <;> rfl

/-- Settles O43. -/
theorem partOpenEnds : Obligations.PartOpenEnds := by
  intro s x number hreset hrequest c
  refine ⟨⟨s.begin.partOpenOk x, congrArg Host.Outcome.next (State.complete_of_request hreset hrequest _), ?_⟩,
    s.begin.partOpenError x, congrArg Host.Outcome.next (State.complete_of_request hreset hrequest _), ?_⟩
  · have hslot : (s.begin.partOpenOk x).slot x = (c.openedOk (s.partOpened x)).goesOn := by
      rw [State.slot_partOpenOk, State.slot_begin]
      rfl
    have hrecorder := State.partOpenOk_recorder s.begin x
    obtain ⟨hstate, -, hfree, -, -, -, -, hslow⟩ := Slot.goesOn_keeps (c.openedOk (s.partOpened x))
    rw [hslot]
    refine ⟨hstate, hfree, hslow, fun hstarting => ?_, fun hother => ?_, fun id rest hqueue => ?_, fun hqueue hflight hpart => ?_⟩
    · rw [hrecorder.trans (if_pos hstarting)]
      exact ⟨rfl, rfl, rfl⟩
    · exact hrecorder.trans (if_neg hother)
    · have hactive : (c.openedOk (s.partOpened x)).state = .writing ∨ (c.openedOk (s.partOpened x)).state = .closing := by
        cases s.partOpened x
        · exact .inr rfl
        · exact .inl rfl
      rw [Slot.goesOn_of_queued hactive rfl hqueue]
      exact ⟨rfl, rfl, rfl⟩
    · cases hopen : s.partOpened x with
      | true => rw [Slot.goesOn_of_idle (c := c.openedOk true) (by exact SlotState.noConfusion) hqueue]; rfl
      | false => rw [Slot.goesOn_of_drained (c := c.openedOk false) rfl rfl hqueue hflight hpart]; rfl
  · intro exhausted
    have hcan := Recorder.canStop_iff s.recorder
    have hex : exhausted ↔ 1 < ((s.begin.slot x).part.map SlotPart.number).getD 0 ∧ s.begin.recorder.canStop = true := by
      rw [State.slot_begin]
      exact and_congr_right' hcan.symm
    have hnow : exhausted ∧ s.recorder.openFrame = none ∧ s.partOpened x = true ↔
        1 < ((s.begin.slot x).part.map SlotPart.number).getD 0 ∧ s.begin.recorder.canStop = true ∧
        s.begin.recorder.openFrame = none ∧ s.begin.partOpened x = true := by
      rw [hex, and_assoc]
      rfl
    obtain ⟨hyes, hno⟩ := State.relayEnds_told hex
    obtain ⟨st, hslot⟩ := State.slot_relayEnds hnow (by rw [State.slot_begin, hrequest]; exact .inl (Option.some_ne_none _))
    rw [State.slot_begin] at hslot
    have hqueue : ((s.begin.relayEnds x).slot x).queue = c.queue := by rw [hslot]; rfl
    have hrecorder := State.partOpenError_recorder s.begin x
    have hparts : (s.begin.partOpenError x).recorder.partOn x = (s.recorder.partOn x).map ClipPart.endNow := by
      rw [hrecorder, Recorder.partLost_partOn, State.relayEnds_partOn_ended]
      rfl
    refine ⟨?_, State.partOpened_of_ended hparts, fun q hq => by rw [hparts, hq]; rfl, fun hassembly => ?_, fun hrec => ?_⟩
    · rw [State.slot_partOpenError, hslot]
      simp only [Slot.queueLost, Slot.counted, Slot.closeReasonOf, Slot.endRequest, Option.map_map]
      rfl
    · have hlost : { (s.begin.relayEnds x).recorder with
          store := (s.begin.relayEnds x).recorder.store.releaseAll c.queue }.GivesUp
            (s.begin.partOpenError x).recorder := by
        rw [hrecorder, hqueue]
        exact Recorder.partLost_givesUp
      exact Recorder.store_of_givesUp (f := fun st => st.releaseAll c.queue) (s.begin.relayEnds_givesUp x) hlost rfl
        hassembly
    · rw [hrecorder]
      exact Recorder.partLost_afterLoss hrec hyes hno

end Sys2Proof.Machine
end

section
/-! PROOF. Card insertion and removal (R109, R121, R123), and completions that come late or not at all (R105,
R106). -/

namespace Sys2Proof.Machine

variable {s : State} {x : SlotId}

/-! ### A removal while the part on the slot is active (R121) -/

theorem State.removeActive_recorder (s : State) (x : SlotId) :
    (s.removeActive x).recorder =
      s.recorder.partLost x s.items.record
        ((s.recorder.store.releaseFlight (s.slot x).inFlight).releaseAll (s.slot x).queue) := by
  have hqueue : (((s.modifySlot x fun c => { c.removed with hold := true }).loseInFlight x).damagePart x).slot x =
      ({ (s.slot x).removed with hold := true }.flightLost).counted fun p => { p with damaged := true } := by
    rw [State.slot_damagePart, State.slot_loseInFlight, State.slot_modifySlot]
  have hitems : ((s.modifySlot x fun c => { c.removed with hold := true }).loseInFlight x).items = s.items := by simp
  change (State.endPart _ x).recorder = _
  rw [State.endPart_recorder, State.slotTo_recorder, State.releaseQueue_recorder, hqueue, State.damagePart_recorder,
    State.loseInFlight_recorder, State.slot_modifySlot, ← hitems]
  cases x <;> rfl

theorem State.slot_removeActive (s : State) (x : SlotId) :
    (s.removeActive x).slot x =
      { ({ (s.slot x).removed with hold := true }.flightLost.counted fun p => { p with damaged := true }).queueLost with
        state := .empty } := by
  change (State.endPart _ x).slot x = _
  rw [State.slot_endPart, State.slot_slotTo, State.slot_releaseQueue, State.slot_damagePart, State.slot_loseInFlight,
    State.slot_modifySlot]

theorem UnitStore.releaseFlight_eq (st : UnitStore) (o : Option Nat) :
    st.releaseFlight o =
      match o with
      | some id => st.release id
      | none => st := by
  cases o <;> rfl

/-- The slot whose card is gone, its presence line with it. -/
def Slot.gone (c : Slot) : Slot := { c.removed with line := false, state := .empty }

/-- What a removal makes of a slot whose part is active, and of the recording, where `ex` says that it is the second
relay failure and `now` that it stops the recording at once. -/
theorem State.removeActive_told {s u : State} {x : SlotId} {ex now : Prop} [Decidable ex] [Decidable now] {st : SlotState}
    (hslot : u.slot x = { { s.slot x with line := false }.closeReasonOf now with state := st })
    (hgives : s.recorder.GivesUp u.recorder) (hitems : u.items = s.items)
    (hended : (u.recorder.partOn x).map ClipPart.endNow = (s.recorder.partOn x).map ClipPart.endNow)
    (hyes : ex → s.recorder.canStop = true ∧ u.recorder = s.recorder.stopAsked s.items.record .relayExhausted)
    (hno : ¬ex → u.recorder = s.recorder) :
    let t := u.removeActive x
    t.slot x =
      { (s.slot x).gone with
        hold := true, queue := [], reserved := 0, inFlight := none
        part := (s.slot x).part.map (fun p =>
          { p with
            damaged := true
            lost := p.lost + (s.slot x).queue.length + (if (s.slot x).inFlight.isSome = true then 1 else 0)
            closeReason := if now then if p.spaceRefused = true then .full else .stop else p.closeReason }) } ∧
    t.partOpened x = false ∧
    (∀ q, s.recorder.partOn x = some q → t.recorder.partOn x = some { q with phase := .ended }) ∧
    (t.recorder.assembly = s.recorder.assembly →
      t.recorder.store = (s.recorder.store.releaseFlight (s.slot x).inFlight).releaseAll (s.slot x).queue) ∧
    (s.recorder.state.recording? = true → s.recorder.AfterLoss t.recorder s.items.record ex) := by
  have hrecorder := u.removeActive_recorder x
  have hqueue : (u.slot x).queue = (s.slot x).queue := by rw [hslot]; rfl
  have hflight : (u.slot x).inFlight = (s.slot x).inFlight := by rw [hslot]; rfl
  rw [hqueue, hflight, hitems] at hrecorder
  have hparts : (u.removeActive x).recorder.partOn x = (s.recorder.partOn x).map ClipPart.endNow := by
    rw [hrecorder, Recorder.partLost_partOn, hended]
  refine ⟨?_, State.partOpened_of_ended hparts, fun q hq => by rw [hparts, hq]; rfl, fun hassembly => ?_, fun hrec => ?_⟩
  · rw [State.slot_removeActive, hslot]
    simp only [Slot.gone, Slot.removed, Slot.queueLost, Slot.flightLost, Slot.counted, Slot.closeReasonOf, Slot.endRequest,
      Option.map_map]
    refine congrArg (fun o => Slot.mk _ _ _ _ _ o _ _ _ _ _ _ _ _ _ _ _ _) (congrArg (fun f => Option.map f _) ?_)
    funext p
    simp only [Function.comp_apply, Nat.add_right_comm]
    rfl
  · refine Recorder.store_of_givesUp (u := u.recorder)
      (st := (u.recorder.store.releaseFlight (s.slot x).inFlight).releaseAll (s.slot x).queue)
      (f := fun st => (st.releaseFlight (s.slot x).inFlight).releaseAll (s.slot x).queue) hgives ?_ rfl hassembly
    rw [hrecorder]
    exact Recorder.partLost_givesUp
  · rw [hrecorder]
    exact Recorder.partLost_afterLoss hrec hyes hno

/-! ### The presence line -/

theorem exec_cardInsertion_of_held (h : (s.slot x).line = true) :
    exec (.cardInsertion x) s = .next { s with out := [] } := congrArg Host.Outcome.next (if_pos h)

theorem exec_cardRemoval_of_held (h : (s.slot x).line = false) :
    exec (.cardRemoval x) s = .next { s with out := [] } := congrArg Host.Outcome.next (if_neg (by rw [h]; decide))

theorem exec_cardInsertion_of_change (hreset : s.inReset = false) (h : (s.slot x).line = false) :
    exec (.cardInsertion x) s = .next ((s.begin.setLine x true).takeInsertion x) := by
  have hin : (s.begin.setLine x true).inReset = false := by cases x <;> exact hreset
  refine congrArg Host.Outcome.next ((if_neg (by rw [h]; decide)).trans ?_)
  simp only [State.unlessReset, hin, Bool.false_eq_true, if_false]

theorem exec_cardRemoval_of_change (hreset : s.inReset = false) (h : (s.slot x).line = true) :
    exec (.cardRemoval x) s = .next ((s.begin.setLine x false).takeRemoval x) := by
  have hin : (s.begin.setLine x false).inReset = false := by cases x <;> exact hreset
  refine congrArg Host.Outcome.next ((if_pos h).trans ?_)
  simp only [State.unlessReset, hin, Bool.false_eq_true, if_false]

theorem State.slot_setLine (s : State) (x : SlotId) (level : Bool) :
    (s.begin.setLine x level).slot x = { s.slot x with line := level } := by
  cases x <;> rfl

theorem State.setLine_recorder (s : State) (x : SlotId) (level : Bool) :
    (s.begin.setLine x level).recorder = s.recorder ∧ (s.begin.setLine x level).items = s.items := by
  cases x <;> exact ⟨rfl, rfl⟩

theorem State.takeRemoval_of_opening (h : (s.slot x).state = .opening) :
    s.takeRemoval x = (s.relayEnds x).removeActive x := by
  simp only [State.takeRemoval, h]
  rfl

theorem State.takeRemoval_of_active (h : (s.slot x).state = .writing ∨ (s.slot x).state = .closing) :
    s.takeRemoval x = s.removeActive x := by
  obtain h | h := h <;> simp only [State.takeRemoval, h]

theorem State.takeRemoval_of_inactive
    (h : (s.slot x).state = .mounting ∨ (s.slot x).state = .ready ∨ (s.slot x).state = .full) :
    s.takeRemoval x = (s.modifySlot x Slot.removed).slotTo x .empty .removed := by
  obtain h | h | h := h <;> simp only [State.takeRemoval, h]

/-- A removal while the part on the slot is active (R121, R123): the form in which the statement puts it. -/
theorem State.takeRemoval_told (hactive : (s.slot x).state = .opening ∨ (s.slot x).state = .writing ∨
      (s.slot x).state = .closing) :
    let c := s.slot x
    let exhausted : Prop := c.state = .opening ∧ 1 < (c.part.map SlotPart.number).getD 0 ∧
      (s.recorder.state = .starting ∨ s.recorder.state = .recording) ∧ s.recorder.pendingStop = none
    let t := (s.begin.setLine x false).takeRemoval x
    t.slot x =
      { c.gone with
        hold := true, queue := [], reserved := 0, inFlight := none
        part := c.part.map (fun p =>
          { p with
            damaged := true
            lost := p.lost + c.queue.length + (if c.inFlight.isSome = true then 1 else 0)
            closeReason :=
              if exhausted ∧ s.recorder.openFrame = none ∧ s.partOpened x = true then
                if p.spaceRefused = true then .full else .stop
              else p.closeReason }) } ∧
    t.partOpened x = false ∧
    (∀ q, s.recorder.partOn x = some q → t.recorder.partOn x = some { q with phase := .ended }) ∧
    (t.recorder.assembly = s.recorder.assembly →
      t.recorder.store =
        (match c.inFlight with
          | some id => s.recorder.store.release id
          | none => s.recorder.store).releaseAll c.queue) ∧
    (s.recorder.state.recording? = true → s.recorder.AfterLoss t.recorder s.items.record exhausted) := by
  intro c exhausted t
  rw [← UnitStore.releaseFlight_eq]
  let u : State := s.begin.setLine x false
  have hslot : u.slot x = { c with line := false } := s.slot_setLine x false
  obtain ⟨hrecorder, hitems⟩ := s.setLine_recorder x false
  by_cases hopening : c.state = .opening
  · have hcan := Recorder.canStop_iff s.recorder
    have hpart : (u.slot x).part = c.part := by rw [hslot]
    have hex : exhausted ↔ 1 < ((u.slot x).part.map SlotPart.number).getD 0 ∧ u.recorder.canStop = true := by
      rw [hpart, hrecorder, hcan]
      exact and_iff_right hopening
    have hnow : exhausted ∧ s.recorder.openFrame = none ∧ s.partOpened x = true ↔
        1 < ((u.slot x).part.map SlotPart.number).getD 0 ∧ u.recorder.canStop = true ∧
        u.recorder.openFrame = none ∧ u.partOpened x = true := by
      have hopened : u.partOpened x = s.partOpened x := congrArg (Recorder.newestOpen · x) hrecorder
      rw [hopened, hex, hrecorder, and_assoc]
    obtain ⟨hyes, hno⟩ := State.relayEnds_told hex
    obtain ⟨st, hends⟩ := State.slot_relayEnds hnow (.inr (by rw [hslot]; exact hopening ▸ SlotState.noConfusion))
    rw [hslot] at hends
    rw [hrecorder, hitems] at hyes
    rw [hrecorder] at hno
    have htaken : t = (u.relayEnds x).removeActive x := State.takeRemoval_of_opening (by rw [hslot]; exact hopening)
    rw [htaken]
    refine State.removeActive_told hends (hrecorder ▸ u.relayEnds_givesUp x) ((u.relayEnds_items x).trans hitems) ?_ hyes hno
    rw [State.relayEnds_partOn_ended, hrecorder]
  · have hno : ¬exhausted := fun h => hopening h.1
    have htaken : t = u.removeActive x :=
      State.takeRemoval_of_active (by rw [hslot]; exact hactive.resolve_left hopening)
    have hends : u.slot x = { { c with line := false }.closeReasonOf
        (exhausted ∧ s.recorder.openFrame = none ∧ s.partOpened x = true) with state := c.state } := by
      rw [hslot, Slot.closeReasonOf_of_not fun h => hno h.1]
    rw [htaken]
    exact State.removeActive_told hends (hrecorder ▸ .inl ⟨rfl, rfl⟩) hitems (by rw [hrecorder]) (fun h => absurd h hno)
      fun _ => hrecorder

/-- Settles O41. -/
theorem cardLines : Obligations.CardLines := by
  intro s x hreset c
  have hslot : ∀ level, (s.begin.setLine x level).slot x = { c with line := level } := s.slot_setLine x
  refine ⟨exec_cardInsertion_of_held, exec_cardRemoval_of_held, fun hline hempty => ?_, fun hline => ?_⟩
  · have hstate : ((s.begin.setLine x true).slot x).state = .empty := by rw [hslot]; exact hempty
    rw [exec_cardInsertion_of_change hreset hline, State.takeInsertion, hstate]
    refine congrArg Host.Outcome.next ((State.startMount_modifySlot ..).trans ?_)
    rw [hslot]
    cases x <;> rfl
  · rw [exec_cardRemoval_of_change hreset hline]
    dsimp only
    have hinactive : c.state = .mounting ∨ c.state = .ready ∨ c.state = .full →
        (s.begin.setLine x false).takeRemoval x =
          { s with out := [], body := s.body.hand (.notice (.slot x .empty .removed)) }.setSlot x c.gone := by
      intro h
      rw [State.takeRemoval_of_inactive (by rw [hslot]; exact h), State.slotTo_modifySlot, hslot]
      cases x <;> rfl
    split
    · next hempty =>
      have hstate : ((s.begin.setLine x false).slot x).state = .empty := by rw [hslot]; exact hempty
      have hgone : { c with line := false }.removed = c.gone := by
        rw [Slot.gone, ← hempty]
        rfl
      simp only [State.takeRemoval, hstate]
      refine congrArg Host.Outcome.next ?_
      rw [State.modifySlot, hslot, hgone]
      cases x <;> rfl
    · next h => exact congrArg Host.Outcome.next (hinactive (.inl h))
    · next h => exact congrArg Host.Outcome.next (hinactive (.inr (.inl h)))
    · next h => exact congrArg Host.Outcome.next (hinactive (.inr (.inr h)))
    · next h => exact ⟨_, rfl, State.takeRemoval_told (.inl h)⟩
    · next h => exact ⟨_, rfl, State.takeRemoval_told (.inr (.inl h))⟩
    · next h => exact ⟨_, rfl, State.takeRemoval_told (.inr (.inr h))⟩

end Sys2Proof.Machine
end

section
/-! PROOF. UNIT_WRITE completed (R113, R115 to R119), and completions that come late or not at all (R105, R106). -/

namespace Sys2Proof.Machine

variable {s : State} {x : SlotId} {id : Nat}

/-! ### What a slot with nothing outstanding does next (R115, R120) -/

theorem Slot.goesOn_told {c : Slot} (hstate : c.state = .writing ∨ c.state = .closing) (hrequest : c.request = none)
    (hflight : c.inFlight = none) (hpart : c.part.isSome = true) :
    c.goesOn.inFlight = c.queue.head? ∧ c.goesOn.queue = c.queue.tail ∧
    c.goesOn.request =
      (if c.queue ≠ [] then some ⟨.unitWrite, c.requestNumber + 1⟩
       else if c.state = .closing then some ⟨.partClose, c.requestNumber + 1⟩
       else none) := by
  cases hqueue : c.queue with
  | cons id rest =>
    rw [Slot.goesOn_of_queued hstate hrequest hqueue]
    exact ⟨rfl, rfl, rfl⟩
  | nil =>
    by_cases hclosing : c.state = .closing
    · rw [Slot.goesOn_of_drained hclosing hrequest hqueue hflight hpart, if_neg (not_not_intro rfl), if_pos hclosing]
      exact ⟨hflight, hqueue, rfl⟩
    · rw [Slot.goesOn_of_idle hclosing hqueue, if_neg (not_not_intro rfl), if_neg hclosing]
      exact ⟨hflight, hqueue, hrequest⟩

/-! ### A write that succeeds, and one that is skipped (R116, R117) -/

/-- The slot as its write has succeeded, before it goes on. -/
def Slot.wrote (c : Slot) (size frame : Nat) : Slot :=
  { c.endRequest.counted fun p =>
      { p with
        written := p.written + 1, firstFrame := some (p.firstFrame.getD frame), lastFrame := some frame } with
    free := c.free - size, reserved := c.reserved - size, inFlight := none
    recent := keepLast 64 (c.recent ++ [size]) }

/-- The slot as its write has failed and is skipped, before it goes on. -/
def Slot.skips (c : Slot) (size : Nat) : Slot :=
  { c.counted fun p => { p with skipped := p.skipped + 1 } with reserved := c.reserved - size, inFlight := none }

theorem State.unitWriteOk_of_flight (h : (s.slot x).inFlight = some id) :
    (s.unitWriteOk x).slot x =
      ((s.slot x).wrote (s.recorder.store.sizeOf id) (s.recorder.store.frameOf id)).goesOn ∧
    (s.unitWriteOk x).recorder = { s.recorder with store := s.recorder.store.release id } := by
  have hflight : ((s.modifySlot x Slot.endRequest).slot x).inFlight = some id := by rw [State.slot_modifySlot]; exact h
  simp only [State.unitWriteOk, hflight]
  rw [State.slot_continueSlot, State.continueSlot_recorder]
  cases x <;> exact ⟨rfl, rfl⟩

theorem State.writeSkip_of_flight (h : (s.slot x).inFlight = some id) :
    (s.writeSkip x).slot x = ((s.slot x).skips (s.recorder.store.sizeOf id)).goesOn ∧
    (s.writeSkip x).recorder =
      { s.recorder.modifyPart x (fun p => p.recordSkip x (s.recorder.store.frameOf id)) with
        store := s.recorder.store.release id } := by
  simp only [State.writeSkip, h]
  rw [State.slot_continueSlot, State.continueSlot_recorder]
  cases x <;> exact ⟨rfl, rfl⟩

/-! ### WRITE_SKIP marks (R113) -/

theorem modifyFirst_append {α : Type} {p : α → Bool} {f : α → α} {before later : List α} {b : α}
    (hbefore : ∀ a ∈ before, p a = false) (hb : p b = true) :
    modifyFirst p f (before ++ b :: later) = before ++ f b :: later := by
  induction before with
  | nil => exact if_pos hb
  | cons a before ih =>
    obtain ⟨ha, hrest⟩ := List.forall_mem_cons.mp hbefore
    exact (if_neg (by rw [ha]; exact Bool.false_ne_true)).trans (congrArg (a :: ·) (ih hrest))

/-- A mark continues a run that frame `f` follows exactly where it is a WRITE_SKIP of the slot that ends there. -/
theorem continuesSkip_iff (x : SlotId) (f : Nat) (m : ClipMark) :
    continuesSkip x f m = true ↔ ∃ j, m.kind = .writeSkip j x ∧ m.frame + j = f := by
  rw [continuesSkip]
  split
  · next count y h =>
    rw [decide_eq_true_iff, h]
    constructor
    · rintro ⟨rfl, hf⟩
      exact ⟨count, rfl, hf⟩
    · rintro ⟨j, hj, hf⟩
      cases hj
      exact ⟨rfl, hf⟩
  · next hother => exact ⟨fun h => absurd h Bool.false_ne_true, fun ⟨j, hj, _⟩ => absurd hj (hother j x)⟩

theorem continuesSkip_eq_false {x : SlotId} {f : Nat} {m : ClipMark}
    (h : ∀ j, m.kind = .writeSkip j x → m.frame + j ≠ f) : continuesSkip x f m = false := by
  refine Bool.eq_false_iff.mpr fun hc => ?_
  obtain ⟨j, hj, hf⟩ := (continuesSkip_iff x f m).mp hc
  exact h j hj hf

theorem ClipPart.recordSkip_of_run {q : ClipPart} {x : SlotId} {frame g k : Nat} {before later : List ClipMark}
    (hmarks : q.marks = before ++ ⟨.writeSkip k x, g⟩ :: later) (hrun : g + k = frame)
    (hbefore : ∀ h ∈ before, ∀ j, h.kind = .writeSkip j x → h.frame + j ≠ frame) :
    q.recordSkip x frame = { q with marks := before ++ ⟨.writeSkip (min (k + 1) 65535) x, g⟩ :: later } := by
  have hcontinues : continuesSkip x frame ⟨.writeSkip k x, g⟩ = true := (continuesSkip_iff ..).mpr ⟨k, rfl, hrun⟩
  have hany : q.marks.any (continuesSkip x frame) = true := by
    rw [hmarks]
    exact List.any_eq_true.mpr ⟨_, by simp, hcontinues⟩
  rw [ClipPart.recordSkip, if_pos hany, hmarks,
    modifyFirst_append (fun m hm => continuesSkip_eq_false (hbefore m hm)) hcontinues]
  rfl

theorem ClipPart.recordSkip_of_none {q : ClipPart} {x : SlotId} {frame : Nat}
    (h : ∀ h ∈ q.marks, ∀ j, h.kind = .writeSkip j x → h.frame + j ≠ frame) :
    q.recordSkip x frame = q.addMark ⟨.writeSkip 1 x, frame⟩ := by
  refine if_neg fun hany => ?_
  obtain ⟨m, hm, hc⟩ := List.any_eq_true.mp hany
  exact Bool.false_ne_true ((continuesSkip_eq_false (h m hm)).symm.trans hc)

theorem ClipPart.recordSkip_slot (q : ClipPart) (x : SlotId) (frame : Nat) : (q.recordSkip x frame).slot = q.slot := by
  rw [ClipPart.recordSkip]
  split
  · rfl
  · rw [ClipPart.addMark]
    split
    · rfl
    · split <;> rfl

/-! ### A write that aborts its part (R118, R119) -/

/-- The slot as its write has failed and the part is given up, before PART_CLOSE. -/
def Slot.aborts (c : Slot) : Slot :=
  ((c.flightLost.counted fun p => { p with damaged := true }).queueLost).counted fun p => { p with closeReason := .abort }

theorem Slot.aborts_keeps (c : Slot) :
    c.aborts.free = c.free ∧ c.aborts.reserved = 0 ∧ c.aborts.queue = [] ∧ c.aborts.inFlight = none ∧
    c.aborts.request = c.request ∧ c.aborts.mediaError = c.mediaError ∧ c.aborts.requestNumber = c.requestNumber :=
  ⟨rfl, rfl, rfl, rfl, rfl, rfl, rfl⟩

theorem Slot.asked_close {c : Slot} {n : Byte} (h : c.requestNumber = n) :
    ({ c with state := .closing }.asked .partClose).state = .closing ∧
    ({ c with state := .closing }.asked .partClose).request = some ⟨.partClose, n + 1⟩ := by
  subst h
  exact ⟨rfl, rfl⟩

theorem Slot.aborts_part {c : Slot} {p : SlotPart} {id : Nat} (hpart : c.part = some p) (hflight : c.inFlight = some id) :
    c.aborts.part = some
      { p with damaged := true, closeReason := .abort, lost := p.lost + 1 + c.queue.length } := by
  simp only [Slot.aborts, Slot.counted, Slot.flightLost, Slot.queueLost, hpart, hflight, Option.map_some]
  rfl

theorem Slot.aborts_state (c : Slot) : c.aborts.state = c.state := rfl

/-- The state in which a part is given up, its close still to begin. -/
def State.aborting (s : State) (x : SlotId) : State :=
  (((s.loseInFlight x).damagePart x).releaseQueue x).modifyCounts x (fun p => { p with closeReason := .abort })

theorem State.writeAbort_eq (s : State) (x : SlotId) :
    s.writeAbort x = ((s.aborting x).beginClose x .abort).continueSlot x := rfl

theorem State.slot_aborting (s : State) (x : SlotId) : (s.aborting x).slot x = (s.slot x).aborts := by
  rw [State.aborting, State.slot_modifyCounts, State.slot_releaseQueue, State.slot_damagePart, State.slot_loseInFlight]
  rfl

theorem State.aborting_recorder (s : State) (x : SlotId) :
    (s.aborting x).recorder =
      { s.recorder with
        store := (s.recorder.store.releaseFlight (s.slot x).inFlight).releaseAll (s.slot x).queue } := by
  have hmodify : ∀ (t : State) f, (t.modifyCounts x f).recorder = t.recorder := fun t f => by cases x <;> rfl
  rw [State.aborting, hmodify, State.releaseQueue_recorder, State.damagePart_recorder, State.loseInFlight_recorder,
    State.slot_damagePart, State.slot_loseInFlight]
  rfl

/-- A slot with nothing left to write, whose part is given up. -/
structure Slot.GivenUp (c : Slot) : Prop where
  queue : c.queue = []
  inFlight : c.inFlight = none
  request : c.request = none
  part : ∃ p, c.part = some p ∧ p.closeReason = .abort

theorem Slot.counted_of_givenUp {c : Slot} (h : c.GivenUp) : c.counted (fun p => { p with closeReason := .abort }) = c := by
  obtain ⟨p, hpart, habort⟩ := h.part
  have hsame : c.part.map (fun p => { p with closeReason := .abort }) = c.part := by
    rw [hpart, Option.map_some, ← habort]
  rw [Slot.counted, hsame]

/-- Where the part was open, or the slot CLOSING, PART_CLOSE is issued (R119, R120). -/
theorem Slot.goesOn_of_givenUp {c : Slot} (h : c.GivenUp) (hstate : c.state = .writing ∨ c.state = .closing) (opened : Prop)
    [Decidable opened] :
    (if opened then c.beginsClose .abort else c).goesOn =
      if opened ∨ c.state = .closing then { c with state := .closing }.asked .partClose else c := by
  obtain ⟨p, hpart, -⟩ := h.part
  have hsome : c.part.isSome = true := by rw [hpart]; rfl
  have hdrains : { c with state := .closing }.goesOn = { c with state := .closing }.asked .partClose :=
    Slot.goesOn_of_drained rfl h.request h.queue h.inFlight hsome
  have hclosing : c.state = .closing → c.goesOn = { c with state := .closing }.asked .partClose := fun hc => by
    rw [← hdrains, ← hc]
  by_cases hopened : opened
  · rw [if_pos hopened, if_pos (.inl hopened)]
    obtain hwriting | hclosed := hstate
    · rw [Slot.beginsClose, if_pos hwriting, Slot.counted_of_givenUp h, hdrains]
      exact Slot.goesOn_of_waiting (Option.some_ne_none _)
    · rw [Slot.beginsClose_of_not_writing (by rw [hclosed]; exact SlotState.noConfusion), Slot.counted_of_givenUp h]
      exact hclosing hclosed
  · rw [if_neg hopened]
    by_cases hclosed : c.state = .closing
    · rw [if_pos (.inr hclosed)]
      exact hclosing hclosed
    · rw [if_neg (not_or.mpr ⟨hopened, hclosed⟩)]
      exact Slot.goesOn_of_idle hclosed h.queue

/-- The close of a part that is not open leaves the recorder, and a part given up too (R119). -/
theorem State.beginClose_of_not_opened (h : ¬s.partOpened x = true) (hgiven : (s.slot x).GivenUp) :
    (s.beginClose x .abort).slot x = s.slot x ∧ (s.beginClose x .abort).recorder = s.recorder := by
  rw [State.beginClose]
  split
  · next hphase =>
    refine absurd ?_ h
    obtain ⟨q, hq, hopened⟩ := Option.map_eq_some_iff.mp hphase
    simp only [State.partOpened, hq, hopened]
    rfl
  · refine ⟨(State.slot_modifyCounts ..).trans (Slot.counted_of_givenUp hgiven), ?_⟩
    cases x <;> rfl
  · exact ⟨rfl, rfl⟩

theorem State.slot_writeAbort (hgiven : (s.slot x).aborts.GivenUp)
    (hstate : (s.slot x).state = .writing ∨ (s.slot x).state = .closing) :
    (s.writeAbort x).slot x =
      if s.partOpened x = true ∨ (s.slot x).state = .closing then
        { (s.slot x).aborts with state := .closing }.asked .partClose
      else (s.slot x).aborts := by
  have hopened : (s.aborting x).partOpened x = s.partOpened x := by
    rw [State.partOpened_eq, State.aborting_recorder]
    rfl
  have hslot := s.slot_aborting x
  rw [← Slot.aborts_state] at hstate
  rw [← Slot.aborts_state (s.slot x), ← Slot.goesOn_of_givenUp hgiven hstate (s.partOpened x = true)]
  rw [State.writeAbort_eq, State.slot_continueSlot, ← hslot, ← hopened]
  refine congrArg Slot.goesOn ?_
  split
  · next hopen => exact State.slot_beginClose hopen _
  · next hopen => exact (State.beginClose_of_not_opened hopen (hslot ▸ hgiven)).1

theorem State.writeAbort_recorder (hgiven : (s.slot x).aborts.GivenUp) :
    (s.writeAbort x).recorder =
      { s.recorder with
        store := (s.recorder.store.releaseFlight (s.slot x).inFlight).releaseAll (s.slot x).queue }.closeNewest x := by
  have hslot := s.slot_aborting x
  rw [State.writeAbort_eq, State.continueSlot_recorder, ← State.aborting_recorder]
  by_cases hopen : (s.aborting x).partOpened x = true
  · exact State.beginClose_recorder hopen _
  · rw [(State.beginClose_of_not_opened hopen (hslot ▸ hgiven)).2, Recorder.closeNewest]
    exact (if_neg hopen).symm

theorem Recorder.closeNewest_partOn (r : Recorder) (x : SlotId) :
    (r.closeNewest x).partOn x =
      (r.partOn x).map fun q => { q with phase := if q.phase = .opened then .closing else q.phase } := by
  rw [Recorder.closeNewest]
  cases hq : r.partOn x with
  | none => rw [Recorder.newestOpen, hq, if_neg Bool.false_ne_true, hq]; rfl
  | some q =>
    have hopen : r.newestOpen x = true ↔ q.phase = .opened := by simp only [Recorder.newestOpen, hq, beq_iff_eq]
    by_cases h : q.phase = .opened
    · rw [if_pos (hopen.mpr h), Recorder.partOn_modifyPart (f := ClipPart.beginClosing) _ _ fun _ => rfl, hq,
        Option.map_some, Option.map_some, if_pos h]
      rfl
    · rw [if_neg fun hyes => h (hopen.mp hyes), hq, Option.map_some, if_neg h]

theorem State.unitWriteError_of_skip (h : s.items.slots.policy x = .skip) :
    s.unitWriteError x = (s.modifySlot x fun c => { c.endRequest with mediaError := true }).writeSkip x := by
  simp only [State.unitWriteError]
  split
  · rfl
  · next habort => cases x <;> exact absurd (h.symm.trans habort) (by decide)

theorem State.unitWriteError_of_abort (h : s.items.slots.policy x ≠ .skip) :
    s.unitWriteError x = (s.modifySlot x fun c => { c.endRequest with mediaError := true }).writeAbort x := by
  simp only [State.unitWriteError]
  split
  · next hskip => cases x <;> exact absurd hskip h
  · rfl

/-- Settles O44. -/
theorem unitWriteEnds : Obligations.UnitWriteEnds := by
  intro s x number id p hreset hrequest hflight hpart hstate c size frame goesOn
  have hslot : s.begin.slot x = c := s.slot_begin x
  have hok : exec (.unitWriteCompletion x number true) s = .next (s.begin.unitWriteOk x) :=
    congrArg Host.Outcome.next (State.complete_of_request hreset hrequest _)
  have herror : exec (.unitWriteCompletion x number false) s = .next (s.begin.unitWriteError x) :=
    congrArg Host.Outcome.next (State.complete_of_request hreset hrequest _)
  let v : State := s.begin.modifySlot x fun c => { c.endRequest with mediaError := true }
  have hv : v.slot x = { c.endRequest with mediaError := true } := by rw [State.slot_modifySlot, hslot]
  have hvrecorder : v.recorder = s.recorder := by cases x <;> rfl
  have hvflight : (v.slot x).inFlight = some id := by rw [hv]; exact hflight
  have hnext : ∀ (t : State) (d : Slot), t.slot x = d.goesOn → d.state = c.state → d.request = none →
      d.inFlight = none → d.part.isSome = true → d.queue = c.queue → d.requestNumber = c.requestNumber →
      t.recorder.store = s.recorder.store.release id → goesOn t := by
    intro t d hends hdstate hdrequest hdflight hdpart hdqueue hdnumber hstore
    obtain ⟨hnflight, hnqueue, hnrequest⟩ := Slot.goesOn_told (by rw [hdstate]; exact hstate) hdrequest hdflight hdpart
    rw [hdqueue] at hnflight hnqueue
    rw [hdqueue, hdnumber, hdstate] at hnrequest
    exact ⟨by rw [hends, d.goesOn_keeps.1, hdstate], by rw [hends, hnflight], by rw [hends, hnqueue],
      by rw [hends, hnrequest], hstore⟩
  refine ⟨⟨_, hok, ?_⟩, ?_⟩
  · obtain ⟨hends, hrecorder⟩ := State.unitWriteOk_of_flight (s := s.begin) (by rw [hslot]; exact hflight)
    rw [hslot] at hends
    have hpart' : (c.wrote size frame).part = some
        { p with
          written := p.written + 1, firstFrame := some (p.firstFrame.getD frame), lastFrame := some frame } :=
      congrArg (Option.map _) hpart
    obtain ⟨-, hkpart, hkfree, hkreserved, hkrecent, -⟩ := Slot.goesOn_keeps (c.wrote size frame)
    have hsome : (c.wrote size frame).part.isSome = true := by rw [hpart']; rfl
    refine ⟨hnext _ (c.wrote size frame) hends rfl rfl rfl hsome rfl rfl (by rw [hrecorder]; rfl),
      (congrArg Slot.free hends).trans hkfree, (congrArg Slot.reserved hends).trans hkreserved,
      (congrArg Slot.part hends).trans (hkpart.trans hpart'), (congrArg Slot.recent hends).trans (hkrecent.trans ?_),
      by rw [hrecorder]; rfl⟩
    have hlength : (c.recent ++ [size]).length - 64 = c.recent.length - 63 := by
      rw [List.length_append, List.length_singleton]
      omega
    exact (congrArg (fun n => (c.recent ++ [size]).drop n) hlength :)
  · split
    · next hskip =>
      obtain ⟨hends, hrecorder⟩ := State.writeSkip_of_flight hvflight
      have hpolicy : s.begin.items.slots.policy x = .skip := hskip
      rw [hv, hvrecorder] at hends
      have hpart' : (({ c.endRequest with mediaError := true } : Slot).skips size).part =
          some { p with skipped := p.skipped + 1 } := congrArg (Option.map _) hpart
      obtain ⟨-, hkpart, hkfree, hkreserved, -, -, hkerror, -⟩ :=
        Slot.goesOn_keeps (({ c.endRequest with mediaError := true } : Slot).skips size)
      rw [herror, State.unitWriteError_of_skip hpolicy]
      refine ⟨_, rfl, hnext _ (Slot.skips _ size) hends rfl rfl rfl (by rw [hpart']; rfl) rfl rfl
          (by rw [hrecorder, hvrecorder]),
        (congrArg Slot.free hends).trans hkfree, (congrArg Slot.reserved hends).trans hkreserved,
        (congrArg Slot.part hends).trans (hkpart.trans hpart'), (congrArg Slot.mediaError hends).trans hkerror,
        fun q hq => ?_⟩
      have hpartOn : (v.writeSkip x).recorder.partOn x = some (q.recordSkip x frame) := by
        rw [hrecorder, hvrecorder]
        exact (Recorder.partOn_modifyPart (f := fun p => p.recordSkip x frame) _ _
          fun p => p.recordSkip_slot x frame).trans (congrArg (Option.map _) hq)
      refine ⟨fun before later g k hmarks hrun hbefore => ?_, fun hnone => ?_⟩
      · rw [← ClipPart.recordSkip_of_run hmarks hrun hbefore]
        exact hpartOn
      · rw [← ClipPart.recordSkip_of_none hnone]
        exact hpartOn
    · next habort =>
      have hpolicy : s.begin.items.slots.policy x ≠ .skip := habort
      let e : Slot := { c.endRequest with mediaError := true }
      have hdpart : e.aborts.part = some
          { p with damaged := true, closeReason := .abort, lost := p.lost + 1 + c.queue.length } :=
        Slot.aborts_part (c := e) hpart hflight
      obtain ⟨hfree, hreserved, hqueue, hnoflight, hrequested, hmedia, hnumber⟩ := e.aborts_keeps
      have hgiven : (v.slot x).aborts.GivenUp := by
        rw [hv]
        exact ⟨hqueue, hnoflight, hrequested, _, hdpart, rfl⟩
      have hends := State.slot_writeAbort hgiven (by rw [hv]; exact hstate)
      have hrecorder := State.writeAbort_recorder hgiven
      have hcflight : c.endRequest.inFlight = some id := hflight
      have hopened : v.partOpened x = s.partOpened x := congrArg (Recorder.newestOpen · x) hvrecorder
      rw [hv, hvrecorder, hcflight] at hrecorder
      rw [hv, hopened] at hends
      have hkeeps : ((v.writeAbort x).slot x).free = e.aborts.free ∧ ((v.writeAbort x).slot x).reserved = e.aborts.reserved ∧
          ((v.writeAbort x).slot x).queue = e.aborts.queue ∧ ((v.writeAbort x).slot x).inFlight = e.aborts.inFlight ∧
          ((v.writeAbort x).slot x).mediaError = e.aborts.mediaError ∧ ((v.writeAbort x).slot x).part = e.aborts.part := by
        rw [hends]
        split <;> exact ⟨rfl, rfl, rfl, rfl, rfl, rfl⟩
      obtain ⟨hkfree, hkreserved, hkqueue, hkflight, hkerror, hkpart⟩ := hkeeps
      have hexec : exec (.unitWriteCompletion x number false) s = .next (v.writeAbort x) :=
        herror.trans (congrArg Host.Outcome.next (State.unitWriteError_of_abort hpolicy))
      refine ⟨v.writeAbort x, hexec, hkfree.trans hfree, hkreserved.trans hreserved, hkqueue.trans hqueue,
        hkflight.trans hnoflight, hkerror.trans hmedia, hkpart.trans hdpart, ?_, ?_, ?_, ?_⟩
      · exact (congrArg Recorder.store hrecorder).trans (by rw [Recorder.closeNewest_eq]; rfl)
      · refine (congrArg (Recorder.newestOpen · x) hrecorder).trans ?_
        exact (Recorder.closeNewest_newestOpen ..).trans (if_pos rfl)
      · intro q hq
        refine (congrArg (Recorder.partOn · x) hrecorder).trans ((Recorder.closeNewest_partOn ..).trans ?_)
        exact congrArg (Option.map _) hq
      · intro hcloses
        rw [if_pos (show s.partOpened x = true ∨ e.state = .closing from hcloses.symm)] at hends
        rw [hends]
        exact Slot.asked_close hnumber

/-! ### MEDIA_ERROR after a write error (R124) -/

theorem State.slot_mediaError {t u : State} (h : t.mediaErrors = u.mediaErrors) (x : SlotId) :
    (t.slot x).mediaError = (u.slot x).mediaError := by
  obtain ⟨ha, hb⟩ := Prod.mk.inj h
  cases x with
  | a => exact ha
  | b => exact hb

theorem State.writeSkip_mediaErrors (s : State) (x : SlotId) : (s.writeSkip x).mediaErrors = s.mediaErrors := by
  rw [State.writeSkip]
  split
  · exact State.continueSlot_mediaErrors ..
  · refine (State.continueSlot_mediaErrors ..).trans ?_
    cases x <;> rfl

theorem State.loseInFlight_mediaErrors (s : State) (x : SlotId) : (s.loseInFlight x).mediaErrors = s.mediaErrors := by
  rw [State.loseInFlight]
  split
  · rfl
  · cases x <;> rfl

theorem State.writeAbort_mediaErrors (s : State) (x : SlotId) : (s.writeAbort x).mediaErrors = s.mediaErrors := by
  have hqueue : ∀ t : State, (t.releaseQueue x).mediaErrors = t.mediaErrors := fun t => by cases x <;> rfl
  rw [State.writeAbort_eq, State.continueSlot_mediaErrors, State.beginClose_mediaErrors, State.aborting,
    State.modifyCounts_mediaErrors, hqueue, State.damagePart, State.modifyCounts_mediaErrors,
    State.loseInFlight_mediaErrors]

theorem State.unitWriteError_mediaError (s : State) (x : SlotId) : ((s.unitWriteError x).slot x).mediaError = true := by
  let v : State := s.modifySlot x fun c => { c.endRequest with mediaError := true }
  have hv : (v.slot x).mediaError = true := by rw [State.slot_modifySlot]
  refine (State.slot_mediaError (u := v) ?_ x).trans hv
  by_cases hskip : s.items.slots.policy x = .skip
  · rw [State.unitWriteError_of_skip hskip, State.writeSkip_mediaErrors]
  · rw [State.unitWriteError_of_abort hskip, State.writeAbort_mediaErrors]

theorem State.partOpenError_mediaError (s : State) (x : SlotId) : ((s.partOpenError x).slot x).mediaError = true := by
  rw [State.slot_partOpenError]
  rfl

theorem State.partCloseEnd_mediaError (s : State) (x : SlotId) :
    ((s.partCloseEnd x false).slot x).mediaError = true := by
  rw [State.partCloseEnd_eq, State.slot_endPart, State.slot_setSlot]
  exact Bool.or_true _

/-! ### Late completions, and none (R105, R106) -/

/-- A completion that answers no outstanding request is discarded and counted. -/
theorem State.complete_of_stale {kind : RequestKind} {number : Byte} (hreset : s.inReset = false)
    (h : (s.slot x).request ≠ some ⟨kind, number⟩) (act : State → State) :
    s.begin.complete x kind number act =
      { s with out := [] }.setSlot x { s.slot x with stale := sat16 ((s.slot x).stale + 1) } := by
  have hmatches : (s.slot x).matchesRequest kind number = false := by simp [Slot.matchesRequest, h]
  have hin : s.begin.inReset = false := hreset
  simp only [State.complete, State.unlessReset, hin, State.slot_begin, hmatches, Bool.false_eq_true, if_false]
  cases x <;> rfl

theorem exec_requestTimeout_of_running {ms : Nat} (h : (s.slot x).requestTimer = .running ms) :
    exec (.requestTimeout x) s = .next (s.begin.requestError x) :=
  congrArg Host.Outcome.next (if_pos (by rw [h]; rfl))

theorem State.requestError_of_partOpen {number : Byte} (h : (s.slot x).request = some ⟨.partOpen, number⟩) :
    s.begin.requestError x = s.begin.partOpenError x := by
  simp only [State.requestError, State.slot_begin, h, Option.map_some]

theorem State.requestError_of_unitWrite {number : Byte} (h : (s.slot x).request = some ⟨.unitWrite, number⟩) :
    s.begin.requestError x = s.begin.unitWriteError x := by
  simp only [State.requestError, State.slot_begin, h, Option.map_some]

theorem State.requestError_of_partClose {number : Byte} (h : (s.slot x).request = some ⟨.partClose, number⟩) :
    s.begin.requestError x = s.begin.partCloseEnd x false := by
  simp only [State.requestError, State.slot_begin, h, Option.map_some]

/-- Settles O46. -/
theorem staleAndTimeouts : Obligations.StaleAndTimeouts := by
  intro s x stale
  refine ⟨fun number ok free hreset => ⟨fun h => ?_, fun h => ?_, fun h => ?_, fun h => ?_⟩,
    fun ms => ⟨fun hslow => ?_, fun htimer hreset number => ?_⟩⟩
  iterate 4 exact congrArg Host.Outcome.next (State.complete_of_stale hreset h _)
  · refine congrArg Host.Outcome.next ((if_pos (by rw [hslow]; rfl)).trans ?_)
    cases x <;> rfl
  · have htimeout := exec_requestTimeout_of_running htimer
    refine ⟨fun h => ?_, fun h => ?_, fun h => ?_⟩
    · exact ⟨_, htimeout.trans (congrArg _ (State.requestError_of_partOpen h)),
        congrArg Host.Outcome.next (State.complete_of_request hreset h _), State.partOpenError_mediaError ..⟩
    · exact ⟨_, htimeout.trans (congrArg _ (State.requestError_of_unitWrite h)),
        congrArg Host.Outcome.next (State.complete_of_request hreset h _), State.unitWriteError_mediaError ..⟩
    · exact ⟨_, htimeout.trans (congrArg _ (State.requestError_of_partClose h)),
        congrArg Host.Outcome.next (State.complete_of_request hreset h _), State.partCloseEnd_mediaError ..⟩

end Sys2Proof.Machine
end

section
/-! PROOF. The record stop (R93, R94, R119) and the marks placed by hand (R99, R100). -/

namespace Sys2Proof.Machine

variable {s : State}

/-! ### A stop entered at once (R93) -/

theorem Recorder.closeNewest_partOn_other (r : Recorder) {x y : SlotId} (h : x ≠ y) :
    (r.closeNewest y).partOn x = r.partOn x := by
  rw [Recorder.closeNewest]
  split
  · exact Recorder.partOn_modifyPart_other (f := ClipPart.beginClosing) _ h fun _ => rfl
  · rfl

theorem Recorder.toStopping_partOn (r : Recorder) (reason : RecReason) (x : SlotId) :
    (r.toStopping reason).partOn x =
      (r.partOn x).map fun q => { q with phase := if q.phase = .opened then .closing else q.phase } := by
  rw [Recorder.toStopping]
  cases x with
  | a =>
    rw [Recorder.closeNewest_partOn_other _ (by decide), Recorder.closeNewest_partOn]
    rfl
  | b =>
    rw [Recorder.closeNewest_partOn, Recorder.closeNewest_partOn_other _ (by decide)]
    rfl

theorem Recorder.closeNewest_allEnded (r : Recorder) (x : SlotId) : (r.closeNewest x).allEnded = r.allEnded := by
  rw [Recorder.closeNewest]
  by_cases hopen : r.newestOpen x = true
  · rw [if_pos hopen, Recorder.newestOpen] at *
    cases hq : r.partOn x with
    | none => simp [hq] at hopen
    | some q =>
      rw [hq] at hopen
      have hmem : q ∈ r.parts := List.mem_of_find?_eq_some hq
      have hopened : q.phase = .opened := beq_iff_eq.mp hopen
      have hafter : (r.modifyPart x ClipPart.beginClosing).partOn x = some q.beginClosing :=
        (Recorder.partOn_modifyPart (f := ClipPart.beginClosing) _ _ fun _ => rfl).trans (congrArg (Option.map _) hq)
      have hmem' : q.beginClosing ∈ (r.modifyPart x ClipPart.beginClosing).parts := List.mem_of_find?_eq_some hafter
      have hbefore : r.allEnded = false := Bool.eq_false_iff.mpr fun hall => by
        have := (Recorder.allEnded_iff r).mp hall q hmem
        rw [hopened] at this
        exact Phase.noConfusion this
      rw [hbefore]
      exact Bool.eq_false_iff.mpr fun hall => Phase.noConfusion ((Recorder.allEnded_iff _).mp hall _ hmem')
  · rw [if_neg hopen]

theorem Recorder.toStopping_allEnded (r : Recorder) (reason : RecReason) : (r.toStopping reason).allEnded = r.allEnded := by
  rw [Recorder.toStopping, Recorder.closeNewest_allEnded, Recorder.closeNewest_allEnded]
  rfl

/-- The recorder at a stop entered at once, field by field. -/
theorem Recorder.stopAtOnce_told (r : Recorder) (it : RecItems) (reason : RecReason) :
    let t := r.stopAtOnce it reason
    t.stopReason = some reason ∧ t.pendingStop = none ∧
    t.state = (if r.parts.all (fun p => p.phase == .ended) then if it.preRecSeconds = 0 then .idle else .standby
      else .stopping) ∧
    (t.state = .stopping → t.lamp = .blink) ∧ (t.state ≠ .stopping → t.lamp = .off) ∧
    (∀ x q, r.partOn x = some q → t.partOn x = some (if q.phase = .opened then { q with phase := .closing } else q)) ∧
    t.recButton = r.recButton := by
  have hkept := r.toStopping_eq reason
  have hparts : ∀ x q, r.partOn x = some q →
      (r.toStopping reason).partOn x = some (if q.phase = .opened then { q with phase := .closing } else q) := by
    intro x q hq
    rw [Recorder.toStopping_partOn, hq, Option.map_some]
    split <;> rfl
  rw [Recorder.stopAtOnce, Recorder.toStopping_allEnded]
  intro t
  by_cases hall : r.allEnded = true
  · have ht : t = (r.toStopping reason).rested it := if_pos hall
    have hrest : t.state = if it.preRecSeconds = 0 then .idle else .standby := by
      rw [ht, Recorder.rested_eq]
      rfl
    have hnot : t.state ≠ .stopping := by
      rw [hrest]
      split <;> exact RecState.noConfusion
    refine ⟨?_, ?_, hrest.trans (if_pos hall).symm, fun h => absurd h hnot, fun _ => ?_, fun x q hq => ?_, ?_⟩
    · rw [ht, Recorder.rested_eq, hkept]
    · rw [ht, Recorder.rested_eq, hkept]
    · rw [ht, Recorder.rested_eq]
    · rw [ht, Recorder.partOn_of_parts (Recorder.rested_keeps ..).2.2.2.1]
      exact hparts x q hq
    · rw [ht, Recorder.rested_eq, hkept]
  · have ht : t = r.toStopping reason := if_neg hall
    have hstate : t.state = .stopping := by rw [ht, hkept]
    refine ⟨?_, ?_, hstate.trans (if_neg hall).symm, fun _ => ?_, fun h => absurd hstate h, fun x q hq => ?_, ?_⟩
    · rw [ht, hkept]
    · rw [ht, hkept]
    · rw [ht, hkept]
    · rw [ht]
      exact hparts x q hq
    · rw [ht, hkept]

/-- The slot of an open part at a stop entered at once: it goes on CLOSING where it was WRITING, FULL where the part
was refused for space and STOP otherwise (R119). -/
theorem State.stoppedSlot_told {x : SlotId} (hopen : s.partOpened x = true) :
    ((s.slot x).state = .writing → (s.stoppedSlot x).state = .closing) ∧
    ∀ p, (s.slot x).part = some p →
      (s.stoppedSlot x).part = some { p with closeReason := if p.spaceRefused = true then .full else .stop } := by
  rw [State.stoppedSlot, if_pos hopen]
  obtain ⟨hstate, hpart⟩ := (s.slot x).beginsClose_keeps (s.slot x).stopReason
  refine ⟨fun hwriting => by rw [hstate, if_pos hwriting], fun p hp => ?_⟩
  rw [hpart, hp, Slot.stopReason, hp]
  rfl

/-! ### What a PANEL's other owners leave (R174) -/

/-- The state in which the record assembler has its part of a PANEL, the kept levels already taken. -/
def State.panelReached (s : State) (d : Int) (buttons : Byte) : State :=
  let v := (s.panelZoom d (buttons.getLsbD 3) (buttons.getLsbD 4)).panelStab (buttons.getLsbD 2)
  { v with
    recorder := { v.recorder with recButton := levelOf (buttons.getLsbD 0), markButton := levelOf (buttons.getLsbD 1) } }

theorem State.panelReached_keeps (s : State) (d : Int) (buttons : Byte) :
    (s.panelReached d buttons).recorder =
      { s.recorder with recButton := levelOf (buttons.getLsbD 0), markButton := levelOf (buttons.getLsbD 1) } ∧
    (∀ x, (s.panelReached d buttons).slot x = s.slot x) ∧ (s.panelReached d buttons).items = s.items ∧
    (s.panelReached d buttons).scene = s.scene ∧ (s.panelReached d buttons).out = s.out := by
  let v := (s.panelZoom d (buttons.getLsbD 3) (buttons.getLsbD 4)).panelStab (buttons.getLsbD 2)
  obtain ⟨hv, ha, hb, hi, hscene, hout⟩ : v.recorder = s.recorder ∧ v.slotA = s.slotA ∧ v.slotB = s.slotB ∧
      v.items = s.items ∧ v.scene = s.scene ∧ v.out = s.out := by simp [v]
  refine ⟨?_, fun x => ?_, hi, hscene, hout⟩
  · rw [← hv]
    rfl
  · exact State.slot_eq_of_sides ha hb x

theorem State.takePanel_eq (s : State) (d : Int) (buttons : Byte) :
    s.takePanel d buttons =
      let w := s.panelReached d buttons
      let e := if risingEdge s.recorder.recButton (buttons.getLsbD 0) = true then w.recEdge else w
      if risingEdge s.recorder.markButton (buttons.getLsbD 1) = true then (e.placeMark .shot).1 else e := by
  have hv : ((s.panelZoom d (buttons.getLsbD 3) (buttons.getLsbD 4)).panelStab (buttons.getLsbD 2)).recorder =
      s.recorder := by simp
  rw [← congrArg Recorder.recButton hv, ← congrArg Recorder.markButton hv]
  rfl

/-- A PANEL with a rising edge of REC and MARK released. -/
theorem State.takePanel_of_recEdge (d : Int) {buttons : Byte} (hkept : s.recorder.recButton = .released)
    (hrec : buttons.getLsbD 0 = true) (hmark : buttons.getLsbD 1 = false) :
    s.takePanel d buttons = (s.panelReached d buttons).recEdge := by
  have hedge : risingEdge s.recorder.recButton (buttons.getLsbD 0) = true := by rw [hrec]; exact (risingEdge_iff ..).mpr ⟨hkept, rfl⟩
  have hnone : ¬risingEdge s.recorder.markButton (buttons.getLsbD 1) = true := fun h => by
    rw [risingEdge_iff, hmark] at h
    exact Bool.false_ne_true h.2
  rw [State.takePanel_eq]
  dsimp only
  rw [if_pos hedge, if_neg hnone]

/-! ### The links at a packet taken -/

theorem State.takes_aligned {k : InKind} {seq : Byte} {n : Nat} (h : s.takes k seq n = true) :
    (s.link k.link).state = .aligned := by
  simp only [State.takes, Bool.and_eq_true, decide_eq_true_eq] at h
  exact h.1.2

theorem LinkCtl.hand_notice_outSeq (c : LinkCtl) (n : Notice) : (c.hand (.notice n)).outSeq.q1 = c.outSeq.q1 := by
  rw [LinkCtl.hand]
  split
  · rfl
  · dsimp only
    split <;> rfl

theorem LinkCtl.handNotices_outSeq (c : LinkCtl) (ns : List Notice) : (c.handNotices ns).outSeq.q1 = c.outSeq.q1 := by
  induction ns generalizing c with
  | nil => rfl
  | cons n ns ih => exact (ih _).trans (c.hand_notice_outSeq n)

theorem LinkCtl.HearsOthers.keeps {c d : LinkCtl} (h : c.HearsOthers d) :
    d.state = c.state ∧ d.outSeq.q1 = c.outSeq.q1 := by
  obtain ⟨ns, rfl, -⟩ := h
  exact ⟨(c.handNotices_keeps ns).1, c.handNotices_outSeq ns⟩

/-! ### REC_STOP -/

theorem State.recStop_of_recording (h : s.recorder.state = .recording) (hp : s.recorder.pendingStop = none) :
    s.recStop = (s.requestStop .operator, .ok) ∧ s.recEdge = s.requestStop .operator := by
  simp only [State.recStop, State.recEdge, h, hp, Option.isSome_none, Bool.false_eq_true, if_false, and_self]

theorem Recorder.canStop_of_recording {r : Recorder} (h : r.state = .recording) (hp : r.pendingStop = none) :
    r.canStop = true := (Recorder.canStop_iff r).mpr ⟨.inr h, hp⟩

/-- Settles O38. -/
theorem recordStop : Obligations.RecordStop := by
  intro s hstate hpending stopped
  have hcan := Recorder.canStop_of_recording hstate hpending
  have hstopped : ∀ (w t : State) (a b : Level), w.recorder = { s.recorder with recButton := a, markButton := b } →
      (∀ x, w.slot x = s.slot x) → t.recorder = w.recorder.stopAtOnce s.items.record .operator →
      (∀ x, t.slot x = w.stoppedSlot x) → stopped t ∧ t.recorder.recButton = a := by
    intro w t a b hw hslot hrecorder hslots
    have hopen : ∀ x, w.partOpened x = s.partOpened x := fun x => by
      rw [State.partOpened_eq, hw]
      rfl
    obtain ⟨hreason, hnone, hends, hblink, hoff, hparts, hbutton⟩ :=
      w.recorder.stopAtOnce_told s.items.record .operator
    rw [← hrecorder] at hreason hnone hends hblink hoff hparts hbutton
    rw [hw] at hends hparts hbutton
    refine ⟨⟨hreason, hnone, hends, hblink, hoff, hparts, fun x hx hwriting => ?_, fun x p hx hp => ?_⟩, hbutton⟩
    · rw [hslots]
      exact (State.stoppedSlot_told ((hopen x).trans hx)).1 (by rw [hslot]; exact hwriting)
    · rw [hslots]
      exact (State.stoppedSlot_told ((hopen x).trans hx)).2 p (by rw [hslot]; exact hp)
  refine ⟨fun seq src tag n h => ?_, fun seq rocker buttons n h hkept hrec hmark => ?_⟩
  · intro u
    obtain ⟨hu, -, -⟩ := s.taken_recording .command seq n
    have hexec : exec (.recStop seq src tag) s = .next ((u.requestStop .operator).reply tag .ok []) := by
      rw [exec_recStop_of_takes tag h, (State.recStop_of_recording (hu ▸ hstate) (hu ▸ hpending)).1]
    have hucan : u.recorder.canStop = true := by rw [hu]; exact hcan
    refine ⟨fun f hframe => ?_, fun hframe => ?_⟩
    · have hstops : u.requestStop .operator = { u with recorder := { s.recorder with pendingStop := some .operator } } := by
        rw [State.requestStop_eq, if_pos hucan, hu, if_pos (by rw [hframe]; rfl)]
      rw [hexec, hstops, State.reply_eq]
      rfl
    · have huitems : u.items = s.items := by simp [u, State.taken]
      refine ⟨_, hexec, (hstopped u _ s.recorder.recButton s.recorder.markButton hu (fun x => (s.taken_slot ..).1) ?_ ?_).1,
        (u.requestStop .operator).body, by rw [State.reply_eq]; rfl, ?_⟩
      · rw [State.reply_eq]
        refine (State.requestStop_recorder_eq ..).trans ?_
        rw [Recorder.stopAsked, if_pos hucan, hu, if_neg (by rw [hframe]; exact Bool.false_ne_true), huitems]
      · intro x
        rw [State.reply_eq]
        refine Eq.trans ?_ ((State.slot_requestStop u .operator x).trans (if_pos ⟨hucan, by rw [hu]; exact hframe⟩))
        cases x <;> rfl
      · obtain ⟨hbody, hseq⟩ := (u.requestStop_hears .operator).keeps
        have haligned : (s.link (InKind.command.link)).state = .aligned := State.takes_aligned (Bool.and_eq_true_iff.mp h).1
        exact ⟨hbody.trans haligned, hseq⟩
  · let u : State := s.taken .panel seq n
    obtain ⟨hu, -, -⟩ := s.taken_recording .panel seq n
    let w : State := u.panelReached rocker.toInt buttons
    obtain ⟨hw, hslot, hitems, -, -⟩ := u.panelReached_keeps rocker.toInt buttons
    rw [hrec, hmark, hu] at hw
    have hslots : ∀ x, w.slot x = s.slot x := fun x => (hslot x).trans (s.taken_slot ..).1
    have hwitems : w.items = s.items := hitems.trans (by simp [u, State.taken])
    have hwcan : w.recorder.canStop = true := by rw [hw]; exact hcan
    have hexec : exec (.panel seq rocker buttons) s = .next (w.requestStop .operator) := by
      rw [exec_panel_of_takes rocker buttons h, State.takePanel_of_recEdge _ (hu ▸ hkept) hrec hmark]
      exact congrArg _ (State.recStop_of_recording (by rw [hw]; exact hstate) (by rw [hw]; exact hpending)).2
    refine ⟨_, hexec, fun hframe => ?_, fun hframe => ?_⟩
    · have hstops : w.requestStop .operator = { w with recorder := { w.recorder with pendingStop := some .operator } } := by
        rw [State.requestStop_eq, if_pos hwcan, if_pos (by rw [hw]; exact hframe)]
      rw [hstops]
      exact ⟨by rw [hw]; rfl, hslots .a, hslots .b⟩
    · refine hstopped w _ .pressed .released hw hslots ?_ fun x => ?_
      · refine (State.requestStop_recorder_eq ..).trans ?_
        rw [Recorder.stopAsked, if_pos hwcan, if_neg (by rw [hw, hframe]; exact Bool.false_ne_true), hwitems]
      · exact (State.slot_requestStop w .operator x).trans (if_pos ⟨hwcan, by rw [hw]; exact hframe⟩)

/-! ### A mark placed (R99, R100) -/

/-- The parts once a mark is in the list of every open one. -/
def Recorder.shotParts (r : Recorder) (m : OpenFrame) : List ClipPart :=
  r.parts.map (fun p => if p.phase = .opened then p.addMark ⟨.shot, m.frame⟩ else p)

theorem Recorder.anyOpen_iff (r : Recorder) : r.anyOpen = true ↔ ∃ p ∈ r.parts, p.phase = .opened := by
  simp [Recorder.anyOpen]

theorem State.placeMark_of_open {m : OpenFrame} (hm : s.recorder.lastMark = some m)
    (hopen : ∃ p ∈ s.recorder.parts, p.phase = .opened) :
    s.placeMark .shot = ({ s with recorder := { s.recorder with parts := s.recorder.shotParts m } }, true) := by
  rw [State.placeMark]
  split
  · next hnone => exact absurd (hm.symm.trans hnone) (Option.some_ne_none m)
  · next m' hm' =>
    obtain rfl : m = m' := Option.some.inj (hm.symm.trans hm')
    exact if_pos ((Recorder.anyOpen_iff _).mpr hopen)

theorem State.placeMark_of_nowhere (h : s.recorder.lastMark = none ∨ ∀ p ∈ s.recorder.parts, p.phase ≠ .opened)
    (k : MarkKind) : s.placeMark k = (s, false) := by
  rw [State.placeMark]
  split
  · rfl
  · next m hm =>
    refine if_neg fun hany => ?_
    obtain ⟨p, hp, hopened⟩ := (Recorder.anyOpen_iff _).mp hany
    rcases h with hnone | hnone
    · exact Option.some_ne_none m (hm.symm.trans hnone)
    · exact hnone p hp hopened

theorem Recorder.shotParts_of_none {r : Recorder} (h : ∀ p ∈ r.parts, p.phase ≠ .opened) (m : OpenFrame) :
    r.shotParts m = r.parts := by
  refine (List.map_congr_left fun p hp => if_neg (h p hp)).trans (List.map_id' _)

theorem exec_mark_of_takes {seq : Byte} {src : Source} {n : Nat} (tag : Byte)
    (h : s.takesCommand seq src [139] n = true) :
    exec (.mark seq src tag) s =
      .next (((s.taken .command seq n).placeMark .shot).1.reply tag
        (if ((s.taken .command seq n).placeMark .shot).2 then .ok else .refusedState) []) :=
  congrArg Host.Outcome.next (State.action_of_takes h)

/-! ### The list of a part (R99) -/

theorem markRefused_iff (marks : List ClipMark) (m : ClipMark) :
    markRefused marks m = true ↔
      (match m.kind with
        | .shot | .fault _ => true
        | .gap _ | .relay _ | .writeSkip _ _ => false) = true ∧ m ∈ marks := by
  rw [markRefused]
  cases m.kind <;> simp

/-- In a list in order, what follows the place of a mark comes later. -/
theorem forall_mem_dropWhile_lt {marks : List ClipMark} (n : Nat)
    (hsorted : marks.Pairwise (fun a b => a.frame ≤ b.frame)) :
    ∀ k ∈ marks.dropWhile (fun k => decide (k.frame ≤ n)), n < k.frame := by
  induction hsorted with
  | nil => exact fun k hk => absurd hk List.not_mem_nil
  | @cons a marks ha _ ih =>
    by_cases hle : a.frame ≤ n
    · rw [List.dropWhile_cons, if_pos (decide_eq_true hle)]
      exact ih
    · rw [List.dropWhile_cons, if_neg (by simpa using hle)]
      exact List.forall_mem_cons.mpr ⟨Nat.lt_of_not_le hle, fun k hk => Nat.lt_of_lt_of_le (Nat.lt_of_not_le hle) (ha k hk)⟩

/-- A mark that is neither refused nor lost joins the list in frame order. -/
theorem ClipPart.addMark_placed {p : ClipPart} {m : ClipMark} (hnew : ¬markRefused p.marks m = true)
    (hroom : p.marks.length < 64) :
    ∃ before later, p.marks = before ++ later ∧ p.addMark m = { p with marks := before ++ m :: later } ∧
      (∀ k ∈ before, k.frame ≤ m.frame) ∧
      (p.marks.Pairwise (fun a b => a.frame ≤ b.frame) → ∀ k ∈ later, m.frame < k.frame) := by
  refine ⟨p.marks.takeWhile (fun k => decide (k.frame ≤ m.frame)), p.marks.dropWhile (fun k => decide (k.frame ≤ m.frame)),
    List.takeWhile_append_dropWhile.symm, ?_, fun k hk => ?_, forall_mem_dropWhile_lt m.frame⟩
  · exact (if_neg hnew).trans (if_neg (Nat.not_le_of_lt hroom))
  · have hle := List.mem_takeWhile_imp hk
    exact of_decide_eq_true hle

/-- Settles O39. -/
theorem markPlaced : Obligations.MarkPlaced := by
  intro s marked nowhere
  refine ⟨fun seq src tag n h => ?_, fun seq rocker buttons n h => ?_, fun p m => ?_⟩
  · intro u
    obtain ⟨hu, -, -⟩ := s.taken_recording .command seq n
    rw [exec_mark_of_takes tag h]
    refine ⟨fun m hm hopen => ?_, fun hno => ?_⟩
    · rw [State.placeMark_of_open (s := u) (by rw [hu]; exact hm) (by rw [hu]; exact hopen), State.reply_eq, hu]
      rfl
    · rw [State.placeMark_of_nowhere (s := u) (by rw [hu]; exact hno), State.reply_eq]
      rfl
  · intro recEdge markEdge hnoedge
    let u : State := s.taken .panel seq n
    obtain ⟨hu, -, -⟩ := s.taken_recording .panel seq n
    let w : State := u.panelReached rocker.toInt buttons
    obtain ⟨hw, hslot, -, hscene, -⟩ := u.panelReached_keeps rocker.toInt buttons
    rw [hu] at hw
    have hrec : ¬risingEdge u.recorder.recButton (buttons.getLsbD 0) = true := by
      rw [hu, risingEdge_iff]
      exact hnoedge
    have hmark : risingEdge u.recorder.markButton (buttons.getLsbD 1) = true ↔ markEdge := by
      rw [hu, risingEdge_iff]
    have hexec : exec (.panel seq rocker buttons) s =
        .next (if risingEdge u.recorder.markButton (buttons.getLsbD 1) = true then (w.placeMark .shot).1 else w) := by
      rw [exec_panel_of_takes rocker buttons h, State.takePanel_eq]
      dsimp only
      rw [if_neg hrec]
    have hends : ∀ t : State, (markEdge → t = (w.placeMark .shot).1) → (¬markEdge → t = w) →
        t.recorder = { w.recorder with parts := t.recorder.parts } ∧ (∀ x, t.slot x = w.slot x) ∧ t.scene = w.scene := by
      intro t hyes hno
      by_cases hedge : markEdge
      · rw [hyes hedge]
        refine ⟨State.placeMark_recorder .., fun x => ?_, ?_⟩
        · exact State.slot_eq_of_sides (by simp) (by simp) x
        · simp
      · rw [hno hedge]
        exact ⟨rfl, fun _ => rfl, rfl⟩
    refine ⟨_, hexec, ?_⟩
    generalize ht : (if risingEdge u.recorder.markButton (buttons.getLsbD 1) = true then (w.placeMark .shot).1 else w) = t
    have hyes : markEdge → t = (w.placeMark .shot).1 := fun hedge => ht.symm.trans (if_pos (hmark.mpr hedge))
    have hno : ¬markEdge → t = w := fun hedge => ht.symm.trans (if_neg fun hr => hedge (hmark.mp hr))
    obtain ⟨hrecorder, hslots, hsame⟩ := hends t hyes hno
    have hnowhere : nowhere → (w.placeMark .shot).1 = w := fun h => by
      rw [State.placeMark_of_nowhere (by rw [hw]; exact h)]
    refine ⟨(hslots .a).trans ((hslot .a).trans (s.taken_slot ..).1), (hslots .b).trans ((hslot .b).trans (s.taken_slot ..).1),
      (hsame.trans hscene).trans (by simp [u, State.taken]), hrecorder.trans (by rw [hw]; rfl), fun m hedge hm => ?_,
      fun hnone => ?_⟩
    · rw [hyes hedge]
      by_cases hopen : ∃ p ∈ s.recorder.parts, p.phase = .opened
      · rw [State.placeMark_of_open (by rw [hw]; exact hm) (by rw [hw]; exact hopen), hw]
        rfl
      · have hclosed : ∀ p ∈ s.recorder.parts, p.phase ≠ .opened := fun p hp h => hopen ⟨p, hp, h⟩
        rw [hnowhere (.inr hclosed), hw]
        exact (Recorder.shotParts_of_none hclosed m).symm
    · have hstays : t = w := by
        by_cases hedge : markEdge
        · exact (hyes hedge).trans (hnowhere (hnone.resolve_left (not_not_intro hedge)))
        · exact hno hedge
      rw [hstays, hw]
  · intro once
    have hrefused : markRefused p.marks m = true ↔ once = true ∧ m ∈ p.marks := markRefused_iff p.marks m
    refine ⟨fun h => if_pos (hrefused.mpr h), fun h => ⟨fun hfull => ?_, ClipPart.addMark_placed (mt hrefused.mp h)⟩⟩
    exact (if_neg (mt hrefused.mp h)).trans (if_pos hfull)

end Sys2Proof.Machine
end

section
/-! PROOF. The record start (R90, R91, R97, R198). -/

namespace Sys2Proof.Machine

variable {s : State}

/-! ### The participating slots (R90) -/

/-- A slot takes part in a start requested now. -/
@[reducible] def State.joins (s : State) (x : SlotId) : Prop :=
  ((s.slot x).state = .ready ∧ (s.slot x).hold = false) ∧ (s.items.record.mode = .dual ∨ x = s.items.record.activeSlot)

theorem Slot.isReady_iff (c : Slot) : c.isReady = true ↔ c.state = .ready ∧ c.hold = false := by
  simp [Slot.isReady]

theorem State.startSlots_eq (s : State) : s.startSlots = [SlotId.a, .b].filter (fun x => decide (s.joins x)) := by
  have hready : ∀ x, decide (s.joins x) =
      ((s.slot x).isReady && decide (s.items.record.mode = .dual ∨ x = s.items.record.activeSlot)) := fun x => by
    rw [Bool.eq_iff_iff, decide_eq_true_iff, Bool.and_eq_true, decide_eq_true_iff, Slot.isReady_iff]
  have halone : s.items.record.mode ≠ .dual →
      [s.items.record.activeSlot].filter (fun x => (s.slot x).isReady) =
        [SlotId.a, .b].filter (fun x => decide (s.joins x)) := fun hmode => by
    simp only [List.filter_cons, List.filter_nil, hready, hmode, false_or]
    cases s.items.record.activeSlot <;> simp <;> rfl
  rw [State.startSlots]
  split
  · next hmode => exact halone (by rw [hmode]; exact RecMode.noConfusion)
  · next hmode => exact halone (by rw [hmode]; exact RecMode.noConfusion)
  · next hmode => simp only [hready, hmode, true_or, decide_true, Bool.and_true]

/-! ### Steps 1 to 3 of a start (R91) -/

/-- The slot after steps 1 to 3. -/
def State.startedSlot (s : State) (x : SlotId) : Slot :=
  let c := s.slot x
  if s.joins x then
    { c with
      state := .opening
      part := some ⟨nextClip s.recorder.clipCounter, 1, 0, 0, 0, false, false, .stop, none, none⟩
      requestNumber := c.requestNumber + 1
      request := some ⟨.partOpen, c.requestNumber + 1⟩
      slowTimer := .running 500
      requestTimer := .running 2000 }
  else { c with part := none }

def State.startedRequest (s : State) (x : SlotId) : List Emission :=
  if s.joins x then
    [.slotRequest x ((s.slot x).requestNumber + 1) (.partOpen (nextClip s.recorder.clipCounter) 1)]
  else []

def State.startedPart (s : State) (x : SlotId) : List ClipPart :=
  if s.joins x then [⟨nextClip s.recorder.clipCounter, 1, x, .opened, 0, [], 0⟩] else []

def State.startedTold (s : State) (x : SlotId) (b : LinkCtl) : LinkCtl :=
  if s.joins x then b.hand (.notice (.slot x .opening .partOpen)) else b

/-- The state after steps 1 to 3, the units of the ring about to pass. -/
def State.begun (s : State) : State :=
  { s with
    slotA := s.startedSlot .a
    slotB := s.startedSlot .b
    out := s.out ++ s.startedRequest .a ++ s.startedRequest .b
    recorder :=
      { s.recorder with
        clipCounter := nextClip s.recorder.clipCounter, parts := s.startedPart .b ++ s.startedPart .a, ring := []
        state := .starting, lamp := .blink }
    scene :=
      { s.scene with
        cell := if s.scene.cellWrite = none then none else s.scene.cell
        cellWrite := if s.scene.cellWrite = none then some (nextClip s.recorder.clipCounter) else s.scene.cellWrite
        cellPending := if s.scene.cellWrite = none then s.scene.cellPending else some (nextClip s.recorder.clipCounter)
        op := s.scene.op.noteStart }
    body := (s.startedTold .b (s.startedTold .a s.body)).hand
      (.notice (.record .starting (nextClip s.recorder.clipCounter) .start))
    head := if s.recorder.lamp = .blink then s.head else s.head.hand (.tally .blink) }

theorem SceneMemory.handClip_eq (m : SceneMemory) (n : Nat) :
    m.handClip n =
      { m with
        cell := if m.cellWrite = none then none else m.cell
        cellWrite := if m.cellWrite = none then some n else m.cellWrite
        cellPending := if m.cellWrite = none then m.cellPending else some n } := by
  rw [SceneMemory.handClip]
  split
  · next h => rw [if_pos h, if_pos h, if_pos h]
  · next k h =>
    have hnot : ¬m.cellWrite = none := by rw [h]; exact Option.some_ne_none k
    rw [if_neg hnot, if_neg hnot, if_neg hnot]

theorem State.createPart_eq (s : State) (x : SlotId) (clip number : Nat) :
    s.createPart x clip number =
      { s with
        recorder := { s.recorder with parts := ⟨clip, number, x, .opened, 0, [], 0⟩ :: s.recorder.parts }
        out := s.out ++ [Emission.slotRequest x ((s.slot x).requestNumber + 1) (.partOpen clip number)]
        body := s.body.hand (.notice (.slot x .opening .partOpen)) }.setSlot x
        { s.slot x with
          state := .opening
          part := some ⟨clip, number, 0, 0, 0, false, false, .stop, none, none⟩
          requestNumber := (s.slot x).requestNumber + 1
          request := some ⟨.partOpen, (s.slot x).requestNumber + 1⟩
          slowTimer := .running 500
          requestTimer := .running 2000 } := by
  rw [State.createPart, State.slotTo_eq]
  cases x <;> rfl

theorem State.advanceClip_eq (s : State) :
    s.advanceClip.discardParts =
      { s with
        recorder := { s.recorder with clipCounter := nextClip s.recorder.clipCounter, parts := [] }
        slotA := { s.slotA with part := none }
        slotB := { s.slotB with part := none }
        scene :=
          { s.scene.handClip (nextClip s.recorder.clipCounter) with
            op := (s.scene.handClip (nextClip s.recorder.clipCounter)).op.noteStart } } := rfl

theorem filter_slots (p : SlotId → Bool) (i j : Bool) (ha : p .a = i) (hb : p .b = j) :
    [SlotId.a, .b].filter p = (if i = true then [.a] else []) ++ (if j = true then [.b] else []) := by
  cases i <;> cases j <;> simp [ha, hb]

/-- A start taken: steps 1 to 3, then the units of the ring one by one. -/
theorem State.takeStart_begun (h : s.joins .a ∨ s.joins .b) :
    s.takeStart s.startSlots = s.recorder.ring.foldl State.passRingUnit s.begun := by
  rw [State.startSlots_eq]
  have hpass : ∀ u : State, u.recorder.ring = s.recorder.ring →
      (u.setRecState .starting .start).passRing =
        s.recorder.ring.foldl State.passRingUnit
          { u.setRecState .starting .start with recorder := { u.recorder with ring := [], state := .starting, lamp := .blink } } := by
    intro u hu
    rw [State.passRing, State.setRecState_eq, ← hu]
    rfl
  by_cases ha : s.joins .a
  · by_cases hb : s.joins .b
    · rw [filter_slots _ true true (decide_eq_true ha) (decide_eq_true hb), if_pos rfl, if_pos rfl, List.singleton_append,
        State.takeStart, List.foldl_cons, List.foldl_cons, List.foldl_nil, hpass]
      · refine congrArg (fun u => s.recorder.ring.foldl State.passRingUnit u) ?_
        simp only [State.begun, State.startedSlot, State.startedRequest, State.startedPart, State.startedTold, if_pos ha,
          if_pos hb, State.setRecState_eq, State.createPart_eq, State.advanceClip_eq, SceneMemory.handClip_eq]
        rfl
      · rw [State.createPart_eq, State.createPart_eq]
        rfl
    · rw [filter_slots _ true false (decide_eq_true ha) (decide_eq_false hb), if_pos rfl, if_neg Bool.false_ne_true,
        List.append_nil, State.takeStart, List.foldl_cons, List.foldl_nil, hpass]
      · refine congrArg (fun u => s.recorder.ring.foldl State.passRingUnit u) ?_
        simp only [State.begun, State.startedSlot, State.startedRequest, State.startedPart, State.startedTold, if_pos ha,
          if_neg hb, State.setRecState_eq, State.createPart_eq, State.advanceClip_eq, SceneMemory.handClip_eq,
          List.append_nil]
        rfl
      · rw [State.createPart_eq]
        rfl
  · have hb : s.joins .b := h.resolve_left ha
    rw [filter_slots _ false true (decide_eq_false ha) (decide_eq_true hb), if_neg Bool.false_ne_true, if_pos rfl,
      List.nil_append, State.takeStart, List.foldl_cons, List.foldl_nil, hpass]
    · refine congrArg (fun u => s.recorder.ring.foldl State.passRingUnit u) ?_
      simp only [State.begun, State.startedSlot, State.startedRequest, State.startedPart, State.startedTold, if_neg ha,
        if_pos hb, State.setRecState_eq, State.createPart_eq, State.advanceClip_eq, SceneMemory.handClip_eq,
        List.append_nil]
      rfl
    · rw [State.createPart_eq]
      rfl

/-! ### The triggers at rest (R90) -/

theorem State.startSlots_of_none (h : ¬s.joins .a ∧ ¬s.joins .b) : s.startSlots = [] := by
  rw [State.startSlots_eq, filter_slots _ false false (decide_eq_false h.1) (decide_eq_false h.2)]
  rfl

theorem State.startSlots_ne_nil (h : s.joins .a ∨ s.joins .b) : s.startSlots ≠ [] := by
  rw [State.startSlots_eq]
  obtain h | h := h
  · exact List.ne_nil_of_mem (List.mem_filter.mpr ⟨List.mem_cons_self, decide_eq_true h⟩)
  · exact List.ne_nil_of_mem (List.mem_filter.mpr ⟨List.mem_cons_of_mem _ List.mem_cons_self, decide_eq_true h⟩)

theorem State.triggers_of_no_slot (hrest : s.recorder.state = .idle ∨ s.recorder.state = .standby)
    (h : ¬s.joins .a ∧ ¬s.joins .b) :
    s.recStart = (s, .refusedState) ∧
    s.recEdge = s.notify (.record s.recorder.state s.recorder.clipCounter .noMedia) := by
  have hnone := State.startSlots_of_none h
  obtain hstate | hstate := hrest <;> simp only [State.recStart, State.recEdge, hstate, hnone, and_self]

theorem State.triggers_of_slots (hrest : s.recorder.state = .idle ∨ s.recorder.state = .standby)
    (h : s.joins .a ∨ s.joins .b) :
    s.recStart = (s.recorder.ring.foldl State.passRingUnit s.begun, .ok) ∧
    s.recEdge = s.recorder.ring.foldl State.passRingUnit s.begun := by
  rw [← State.takeStart_begun h]
  obtain ⟨x, rest, hslots⟩ := List.exists_cons_of_ne_nil (State.startSlots_ne_nil h)
  obtain hstate | hstate := hrest <;> simp only [State.recStart, State.recEdge, hstate, hslots, and_self]

/-! ### What the passing of the ring's units keeps (R91 step 4) -/

/-- The ring is empty, and the clip counter and scene memory are these. -/
def State.startKept (n : Nat) (m : SceneMemory) (t : State) : Prop :=
  t.recorder.ring = [] ∧ t.recorder.clipCounter = n ∧ t.scene = m

theorem startKept_closed (n : Nat) (m : SceneMemory) : RecordClosed (State.startKept n m) where
  hand := by
    intro u msg hu
    simpa [State.startKept] using hu
  frame := by
    rintro u v ⟨-, -, -, -, hring, -, hclip, hscene⟩ ⟨huring, huclip, huscene⟩
    exact ⟨hring.trans huring, hclip.trans huclip, hscene.trans huscene⟩
  store := by
    rintro u r hstep ⟨huring, huclip, huscene⟩
    cases hstep with
    | releaseAssembly => exact ⟨by rw [← huring, Recorder.releaseAssembly]; split <;> rfl,
        (Recorder.releaseAssembly_clipCounter _).trans huclip, huscene⟩
    | trimRing k => exact ⟨by simp [Recorder.trimRing, keepLast, huring], huclip, huscene⟩
    | clearRing => exact ⟨rfl, huclip, huscene⟩
    | _ => exact ⟨huring, huclip, huscene⟩

theorem State.passRing_startKept {n : Nat} {m : SceneMemory} (ids : List Nat) {t : State} (h : t.startKept n m) :
    (ids.foldl State.passRingUnit t).startKept n m :=
  foldl_holds (fun _ id hu => (startKept_closed n m).releaseUnit id ((startKept_closed n m).offerAll id hu)) ids h

/-- What the record assembler has before it at a PANEL: of the rest of the state, the zoom drive, the stabiliser and the
links alone are changed (R174). -/
theorem State.panelReached_eq {seq : Byte} {n : Nat} (d : Int) (buttons : Byte) :
    ∃ z st hd bd, (s.taken .panel seq n).panelReached d buttons =
      { s with
        zoom := z, stab := st, head := hd, body := bd, out := []
        recorder :=
          { s.recorder with recButton := levelOf (buttons.getLsbD 0), markButton := levelOf (buttons.getLsbD 1) } } := by
  let u : State := s.taken .panel seq n
  let v := (u.panelZoom d (buttons.getLsbD 3) (buttons.getLsbD 4)).panelStab (buttons.getLsbD 2)
  have hv : v = { s with zoom := v.zoom, stab := v.stab, head := v.head, body := v.body, out := [] } := by
    obtain ⟨haudio, hrecorder, ha, hb, hvf, hsup, hmgmt, hscene, hitems, hport, hin, hout, hpending⟩ :
        v.audio = s.audio ∧ v.recorder = s.recorder ∧ v.slotA = s.slotA ∧ v.slotB = s.slotB ∧ v.vf = s.vf ∧
        v.sup = s.sup ∧ v.mgmt = s.mgmt ∧ v.scene = s.scene ∧ v.items = s.items ∧ v.portSeq = s.portSeq ∧
        v.inReset = s.inReset ∧ v.out = [] ∧ v.pending = s.pending := by simp [v, u, State.taken]
    rw [← haudio, ← hrecorder, ← ha, ← hb, ← hvf, ← hsup, ← hmgmt, ← hscene, ← hitems, ← hport, ← hin, ← hout, ← hpending]
  refine ⟨v.zoom, v.stab, v.head, v.body, ?_⟩
  have hreached : u.panelReached d buttons =
      { v with
        recorder :=
          { v.recorder with recButton := levelOf (buttons.getLsbD 0), markButton := levelOf (buttons.getLsbD 1) } } := rfl
  rw [hreached, hv]

/-- Settles O37. -/
theorem recordStart : Obligations.RecordStart := by
  intro s hrest ready joins clip opened request part told begun started kept
  have hkept : ∀ u : State, kept u := fun u =>
    State.passRing_startKept (n := clip) (m := (begun u).scene) s.recorder.ring ⟨rfl, rfl, rfl⟩
  refine ⟨fun seq src tag n h => ?_, fun seq rocker buttons n h hbutton hrec hmark => ?_⟩
  · intro u
    have hbegun : u.begun = begun u := rfl
    rw [exec_recStart_of_takes tag h]
    split
    · next hnone =>
      rw [(State.triggers_of_no_slot (s := u) hrest hnone).1, State.reply_eq]
      rfl
    · next hsome =>
      have hjoins : u.joins .a ∨ u.joins .b := or_iff_not_and_not.mpr hsome
      rw [(State.triggers_of_slots (s := u) hrest hjoins).1, State.reply_eq, hbegun]
      exact ⟨rfl, hkept u⟩
  · obtain ⟨z, st, hd, bd, hw⟩ := State.panelReached_eq (s := s) (seq := seq) (n := n) rocker.toInt buttons
    rw [hrec, hmark] at hw
    let u : State := { s with
      zoom := z, stab := st, head := hd, body := bd, out := []
      recorder := { s.recorder with recButton := .pressed, markButton := .released } }
    have hexec : exec (.panel seq rocker buttons) s = .next u.recEdge := by
      rw [exec_panel_of_takes rocker buttons h, State.takePanel_of_recEdge (s := s.taken .panel seq n) _ hbutton hrec hmark,
        hw]
      rfl
    have hbegun : u.begun = begun u := rfl
    refine ⟨u, rfl, ?_⟩
    rw [hexec]
    split
    · next hnone =>
      rw [(State.triggers_of_no_slot (s := u) hrest hnone).2, State.notify_eq]
    · next hsome =>
      rw [(State.triggers_of_slots (s := u) hrest (or_iff_not_and_not.mpr hsome)).2, hbegun]
      exact ⟨rfl, hkept u⟩

end Sys2Proof.Machine
end

section
/-! PROOF. Units offered to parts (R77, R98, R113, R114, R122, R123). -/

namespace Sys2Proof.Machine

variable {s : State} {x y : SlotId} {id : Nat}

/-! ### A holder leaves (R77) -/

theorem UnitStore.find_modify (st : UnitStore) (i j : Nat) {f : RecordUnit → RecordUnit} (hf : ∀ u, (f u).id = u.id) :
    (st.modify i f).find j = (st.find j).map (fun u => if u.id = i then f u else u) := by
  have hid : ∀ u : RecordUnit, (if u.id = i then f u else u).id = u.id := fun u => by split <;> simp [hf]
  rw [UnitStore.find, UnitStore.modify, UnitStore.find, List.find?_map]
  exact congrArg (fun p => (st.units.find? p).map _) (funext fun u => by simp [hid])

theorem UnitStore.find_modify_same {st : UnitStore} {i : Nat} {u : RecordUnit} {f : RecordUnit → RecordUnit}
    (hf : ∀ u, (f u).id = u.id) (h : st.find i = some u) : (st.modify i f).find i = some (f u) := by
  rw [UnitStore.find_modify st i i hf, h, Option.map_some, if_pos (UnitStore.find_id h)]

theorem UnitStore.find_modify_other {st : UnitStore} {i j : Nat} {f : RecordUnit → RecordUnit}
    (hf : ∀ u, (f u).id = u.id) (hj : j ≠ i) : (st.modify i f).find j = st.find j := by
  rw [UnitStore.find_modify st i j hf]
  cases h : st.find j with
  | none => rfl
  | some u => rw [Option.map_some, if_neg (by rw [UnitStore.find_id h]; exact hj)]

/-- The last holder gone, the unit ceases to exist and its blocks are free. -/
theorem UnitStore.release_of_last {st : UnitStore} {i : Nat} {u : RecordUnit} (h : st.find i = some u) (hlast : u.refs ≤ 1) :
    st.release i =
      { st with returned := st.returned ++ u.blocks, units := st.units.filter (fun v => v.id != i) } := by
  simp only [UnitStore.release, h, if_pos hlast]

theorem UnitStore.release_of_held {st : UnitStore} {i : Nat} {u : RecordUnit} (h : st.find i = some u)
    (hheld : ¬u.refs ≤ 1) : st.release i = st.modify i (fun v => { v with refs := v.refs - 1 }) := by
  simp only [UnitStore.release, h, if_neg hheld]

theorem find?_filter_ne {us : List RecordUnit} {i j : Nat} :
    (us.filter (fun v => v.id != i)).find? (fun v => v.id == j) =
      if j = i then none else us.find? (fun v => v.id == j) := by
  rw [List.find?_filter]
  split
  · next h =>
    subst h
    exact List.find?_eq_none.mpr fun v _ => by simp
  · next h =>
    refine congrArg (fun p => us.find? p) (funext fun v => ?_)
    by_cases hv : v.id = j <;> simp [hv, h]

/-- A release takes one holder, and the last one returns the unit's blocks (R77). -/
theorem UnitStore.release_told (st : UnitStore) (i : Nat) (u : RecordUnit) (h : st.find i = some u) :
    (st.release i).find i = (if u.refs ≤ 1 then none else some { u with refs := u.refs - 1 }) ∧
    (st.release i).freeCount = (if u.refs ≤ 1 then st.freeCount + u.blocks.length else st.freeCount) ∧
    ∀ j, j ≠ i → (st.release i).find j = st.find j := by
  by_cases hlast : u.refs ≤ 1
  · rw [UnitStore.release_of_last h hlast, if_pos hlast, if_pos hlast]
    refine ⟨find?_filter_ne.trans (if_pos rfl), ?_, fun j hj => find?_filter_ne.trans (if_neg hj)⟩
    simp only [UnitStore.freeCount, List.length_append]
    omega
  · rw [UnitStore.release_of_held h hlast, if_neg hlast, if_neg hlast]
    exact ⟨UnitStore.find_modify_same (fun _ => rfl) h, rfl, fun j hj => UnitStore.find_modify_other (fun _ => rfl) hj⟩

theorem UnitStore.frameOf_addRef (st : UnitStore) (i j : Nat) : (st.addRef i).frameOf j = st.frameOf j := by
  have hfind := UnitStore.find_modify st i j (f := fun u => { u with refs := u.refs + 1 }) fun _ => rfl
  rw [UnitStore.frameOf, UnitStore.frameOf, UnitStore.addRef, hfind, Option.map_map]
  refine congrArg (fun o : Option Nat => o.getD 0) (congrArg (fun f => (st.find j).map f) (funext fun u => ?_))
  simp only [Function.comp_apply]
  split <;> rfl

/-! ### A unit judged at a slot (R113) -/

def SlotPart.loses (p : SlotPart) : SlotPart := { p with lost := p.lost + 1 }

def SlotPart.refuses (p : SlotPart) : SlotPart := { p with lost := p.lost + 1, spaceRefused := true }

/-- The slot as a unit of this size joins its queue. -/
def Slot.queues (c : Slot) (id size : Nat) : Slot := { c with queue := c.queue ++ [id], reserved := c.reserved + size }

theorem Slot.hasRoom_iff (c : Slot) (size : Nat) : c.hasRoom size = true ↔ ¬c.free < c.reserved + size + 32 := by
  rw [Slot.hasRoom, decide_eq_true_iff, Nat.not_lt]
  rfl

variable {p : SlotPart}

theorem State.judgeUnit_of_refused (hpart : (s.slot x).part = some p) (h : p.spaceRefused = true) :
    s.judgeUnit x id = (s.modifyCounts x SlotPart.loses, false) := by
  simp only [State.judgeUnit, hpart, h, if_true]
  rfl

theorem State.judgeUnit_of_no_room (hpart : (s.slot x).part = some p) (h : p.spaceRefused = false)
    (hroom : (s.slot x).hasRoom (s.recorder.store.sizeOf id) = false) :
    s.judgeUnit x id = (s.modifyCounts x SlotPart.refuses, true) := by
  simp only [State.judgeUnit, hpart, h, hroom, Bool.false_eq_true, if_false, Bool.not_false, if_true]
  rfl

theorem State.judgeUnit_of_full (hpart : (s.slot x).part = some p) (h : p.spaceRefused = false)
    (hroom : (s.slot x).hasRoom (s.recorder.store.sizeOf id) = true) (hfull : 1024 ≤ (s.slot x).queue.length) :
    s.judgeUnit x id =
      ((s.modifyCounts x (fun p => { p with skipped := p.skipped + 1 })).modifyPart x
        (fun q => q.recordSkip x (s.recorder.store.frameOf id)), false) := by
  simp only [State.judgeUnit, hpart, h, hroom, Bool.false_eq_true, if_false, Bool.not_true]
  exact if_pos hfull

/-- The state in which a unit has joined the queue of a slot, which holds it too. -/
def State.queueing (s : State) (x : SlotId) (id : Nat) : State :=
  { s with recorder := { s.recorder with store := s.recorder.store.addRef id } }.modifySlot x
    (fun c => c.queues id (s.recorder.store.sizeOf id))

theorem State.slot_queueing (s : State) (x : SlotId) (id : Nat) :
    (s.queueing x id).slot x = (s.slot x).queues id (s.recorder.store.sizeOf id) := by
  cases x <;> rfl

theorem State.queueing_recorder (s : State) (x : SlotId) (id : Nat) :
    (s.queueing x id).recorder = { s.recorder with store := s.recorder.store.addRef id } := by
  cases x <;> rfl

theorem State.issueWrite_recorder (s : State) (x : SlotId) : (s.issueWrite x).recorder = s.recorder := by
  simp

theorem State.judgeUnit_of_room (hpart : (s.slot x).part = some p) (h : p.spaceRefused = false)
    (hroom : (s.slot x).hasRoom (s.recorder.store.sizeOf id) = true) (hfull : ¬1024 ≤ (s.slot x).queue.length) :
    s.judgeUnit x id = ((s.queueing x id).issueWrite x, false) := by
  simp only [State.judgeUnit, hpart, h, hroom, Bool.false_eq_true, if_false, Bool.not_true]
  exact if_neg hfull

/-- The units that a slot holds for its part: those queued and the one in flight. -/
def Slot.held (c : Slot) : Nat := c.queue.length + (if c.inFlight.isSome = true then 1 else 0)

/-- A unit that joins the queue is held, whether it waits there or goes out at once (R115). -/
theorem Slot.writesOn_held {c : Slot} (h : c.request = none → c.inFlight = none) : c.writesOn.held = c.held := by
  rw [Slot.writesOn]
  split
  · next hidle =>
    split
    · rfl
    · next id rest hqueue =>
      have hflight := h hidle.2
      rw [Slot.held, Slot.held, hqueue, hflight]
      rfl
  · rfl

theorem Slot.writesOn_keeps (c : Slot) :
    c.writesOn.state = c.state ∧ c.writesOn.part = c.part ∧ c.writesOn.reserved = c.reserved := by
  rw [Slot.writesOn]
  split
  · split <;> exact ⟨rfl, rfl, rfl⟩
  · exact ⟨rfl, rfl, rfl⟩

/-! ### A unit offered once (R98, R113) -/

def ClipPart.offers (q : ClipPart) : ClipPart := { q with offered := q.offered + 1 }

/-- The state in which the part on a slot counts one more unit offered. -/
def State.offering (s : State) (x : SlotId) : State := s.modifyPart x ClipPart.offers

theorem State.offerOnce_eq (s : State) (x : SlotId) (id : Nat) : s.offerOnce x id = (s.offering x).judgeUnit x id := rfl

theorem State.offering_partOn {q : ClipPart} (h : s.recorder.partOn x = some q) :
    (s.offering x).recorder.partOn x = some q.offers :=
  (Recorder.partOn_modifyPart (f := ClipPart.offers) _ _ fun _ => rfl).trans (congrArg (Option.map _) h)

theorem ClipPart.addMark_offered (q : ClipPart) (m : ClipMark) : (q.addMark m).offered = q.offered := by
  rw [ClipPart.addMark]
  split
  · rfl
  · split <;> rfl

theorem ClipPart.recordSkip_offered (q : ClipPart) (x : SlotId) (f : Nat) : (q.recordSkip x f).offered = q.offered := by
  rw [ClipPart.recordSkip]
  split
  · rfl
  · exact q.addMark_offered _

/-- A unit offered is counted once, as lost, skipped, queued or in flight. -/
theorem State.offerOnce_told {q : ClipPart} (hpart : (s.slot x).part = some p) (hpartOn : s.recorder.partOn x = some q)
    (hidle : (s.slot x).request = none → (s.slot x).inFlight = none) :
    let c := s.slot x
    let size := s.recorder.store.sizeOf id
    let t := (s.offerOnce x id).1
    let refused : Bool := p.spaceRefused || decide (c.free < c.reserved + size + 32)
    ∃ r o, (t.slot x).part = some r ∧ t.recorder.partOn x = some o ∧ o.offered = q.offered + 1 ∧
      r.written = p.written ∧ r.lost + r.skipped + (t.slot x).held = p.lost + p.skipped + c.held + 1 ∧
      r.spaceRefused = refused ∧ r.lost = p.lost + (if refused then 1 else 0) ∧
      (t.slot x).reserved = (if refused = false ∧ c.queue.length < 1024 then c.reserved + size else c.reserved) := by
  intro c size t refused
  have hslot : (s.offering x).slot x = c := State.slot_modifyPart ..
  have hpart' : ((s.offering x).slot x).part = some p := by rw [hslot]; exact hpart
  have hoffered := State.offering_partOn hpartOn
  have ht : t = ((s.offering x).judgeUnit x id).1 := rfl
  have hcounts : ∀ f, ((s.offering x).modifyCounts x f).recorder.partOn x = some q.offers := fun f =>
    Eq.trans (by cases x <;> rfl) hoffered
  by_cases hflag : p.spaceRefused = true
  · have hrefused : refused = true := Bool.or_eq_true_iff.mpr (.inl hflag)
    rw [ht, State.judgeUnit_of_refused hpart' hflag, State.slot_modifyCounts, hslot, hrefused]
    refine ⟨p.loses, q.offers, congrArg (Option.map _) hpart, hcounts _, rfl, rfl, ?_, hflag, rfl, rfl⟩
    change p.lost + 1 + p.skipped + c.held = _
    omega
  · have hflag' : p.spaceRefused = false := Bool.eq_false_iff.mpr hflag
    by_cases hroom : c.hasRoom size = true
    · have hrefused : refused = false := by
        rw [Slot.hasRoom_iff] at hroom
        exact Bool.or_eq_false_iff.mpr ⟨hflag', decide_eq_false hroom⟩
      have hroom' : ((s.offering x).slot x).hasRoom ((s.offering x).recorder.store.sizeOf id) = true := by
        rw [hslot]
        exact hroom
      by_cases hfull : 1024 ≤ c.queue.length
      · rw [ht, State.judgeUnit_of_full hpart' hflag' hroom' (by rw [hslot]; exact hfull), State.slot_modifyPart,
          State.slot_modifyCounts, hslot, hrefused]
        refine ⟨{ p with skipped := p.skipped + 1 }, _, congrArg (Option.map _) hpart,
          (Recorder.partOn_modifyPart (f := fun q => q.recordSkip x _) _ _ fun q => q.recordSkip_slot x _).trans
            (congrArg (Option.map _) (hcounts _)), q.offers.recordSkip_offered x _, rfl, ?_, hflag', rfl,
          (if_neg fun h => absurd h.2 (Nat.not_lt_of_le hfull)).symm⟩
        change p.lost + (p.skipped + 1) + c.held = _
        omega
      · have hidle' : (c.queues id size).request = none → (c.queues id size).inFlight = none := hidle
        have hqueued := Slot.writesOn_held hidle'
        obtain ⟨-, hkpart, hkreserved⟩ := (c.queues id size).writesOn_keeps
        have hlength : (c.queues id size).held = c.held + 1 := by
          change (c.queue ++ [id]).length + _ = c.queue.length + _ + 1
          rw [List.length_append, List.length_singleton, Nat.add_right_comm]
          rfl
        rw [ht, State.judgeUnit_of_room hpart' hflag' hroom' (by rw [hslot]; exact hfull), State.slot_issueWrite,
          State.slot_queueing, hslot, hrefused]
        refine ⟨p, q.offers, hkpart.trans hpart, ?_, rfl, rfl, ?_, hflag', rfl,
          hkreserved.trans (if_pos ⟨rfl, Nat.lt_of_not_le hfull⟩).symm⟩
        · rw [State.issueWrite_recorder, State.queueing_recorder]
          exact hoffered
        · refine (congrArg (p.lost + p.skipped + ·) (hqueued.trans hlength) :).trans ?_
          omega
    · have hrefused : refused = true := by
        rw [Slot.hasRoom_iff, not_not] at hroom
        exact Bool.or_eq_true_iff.mpr (.inr (decide_eq_true hroom))
      have hroom' : ((s.offering x).slot x).hasRoom ((s.offering x).recorder.store.sizeOf id) = false := by
        rw [hslot]
        exact Bool.eq_false_iff.mpr hroom
      rw [ht, State.judgeUnit_of_no_room hpart' hflag' hroom', State.slot_modifyCounts, hslot, hrefused]
      refine ⟨p.refuses, q.offers, congrArg (Option.map _) hpart, hcounts _, rfl, rfl, ?_, rfl, rfl, rfl⟩
      change p.lost + 1 + p.skipped + c.held = _
      omega

end Sys2Proof.Machine
end

section
/-! PROOF. A refusal for space and its outcome in SINGLE, DUAL and RELAY (R114, R122, R123). -/

namespace Sys2Proof.Machine

variable {s : State} {x y : SlotId} {id : Nat} {p : SlotPart} {q : ClipPart}

/-! ### A unit refused by the test of space -/

/-- The state in which a unit has been refused for space. -/
def State.refusing (s : State) (x : SlotId) : State := (s.offering x).modifyCounts x SlotPart.refuses

theorem State.refusing_told (s : State) (x : SlotId) :
    (s.refusing x).slot x = (s.slot x).counted SlotPart.refuses ∧
    (s.refusing x).slot x.other = s.slot x.other ∧
    (s.refusing x).recorder = s.recorder.modifyPart x ClipPart.offers ∧ (s.refusing x).items = s.items := by
  cases x <;> exact ⟨rfl, rfl, rfl, rfl⟩

theorem State.refusing_partOn (h : s.recorder.partOn x = some q) : (s.refusing x).recorder.partOn x = some q.offers := by
  rw [(s.refusing_told x).2.2.1]
  exact State.offering_partOn h

theorem State.partOpened_of_partOn (h : s.recorder.partOn x = some q) : s.partOpened x = true ↔ q.phase = .opened := by
  rw [State.partOpened, h]
  exact beq_iff_eq

theorem State.offer_of_opened (h : s.partOpened x = true) :
    s.offer id x =
      if (s.offerOnce x id).2 = true then (s.offerOnce x id).1.refusedForSpace x id else (s.offerOnce x id).1 := if_pos h

/-- A unit that the test of space does not refuse is offered once, and that is all. -/
theorem State.offer_of_taken (hopen : s.partOpened x = true) (hpart : (s.slot x).part = some p)
    (h : p.spaceRefused = true ∨ ¬(s.slot x).free < (s.slot x).reserved + s.recorder.store.sizeOf id + 32) :
    s.offer id x = (s.offerOnce x id).1 := by
  have hpart' : ((s.offering x).slot x).part = some p := by rw [State.offering, State.slot_modifyPart]; exact hpart
  rw [State.offer_of_opened hopen]
  refine if_neg (ne_true_of_eq_false ?_)
  rw [State.offerOnce_eq]
  by_cases hflag : p.spaceRefused = true
  · rw [State.judgeUnit_of_refused hpart' hflag]
  · have hflag' := Bool.eq_false_iff.mpr hflag
    have hroom : ((s.offering x).slot x).hasRoom ((s.offering x).recorder.store.sizeOf id) = true := by
      rw [State.offering, State.slot_modifyPart]
      exact (Slot.hasRoom_iff ..).mpr (h.resolve_left hflag)
    by_cases hfull : 1024 ≤ ((s.offering x).slot x).queue.length
    · rw [State.judgeUnit_of_full hpart' hflag' hroom hfull]
    · rw [State.judgeUnit_of_room hpart' hflag' hroom hfull]

/-- A unit that the test of space refuses has its outcome by REC_MODE. -/
theorem State.offer_of_no_room (hopen : s.partOpened x = true) (hpart : (s.slot x).part = some p)
    (hflag : p.spaceRefused = false)
    (hroom : (s.slot x).free < (s.slot x).reserved + s.recorder.store.sizeOf id + 32) :
    s.offer id x = (s.refusing x).refusedForSpace x id := by
  have hpart' : ((s.offering x).slot x).part = some p := by rw [State.offering, State.slot_modifyPart]; exact hpart
  have hnone : ((s.offering x).slot x).hasRoom ((s.offering x).recorder.store.sizeOf id) = false := by
    rw [State.offering, State.slot_modifyPart]
    exact Bool.eq_false_iff.mpr fun h => (Slot.hasRoom_iff ..).mp h hroom
  rw [State.offer_of_opened hopen, State.offerOnce_eq, State.judgeUnit_of_no_room hpart' hflag hnone]
  exact if_pos rfl

/-! ### A stop asked for, as the statement puts it (R93) -/

/-- What a stop asked for makes of the recording. -/
def Recorder.Asks (r t : Recorder) (reason : RecReason) : Prop :=
  if (r.state = .starting ∨ r.state = .recording) ∧ r.pendingStop = none then
    if r.openFrame.isSome = true then t.pendingStop = some reason ∧ t.state = r.state
    else t.stopReason = some reason ∧ t.pendingStop = none
  else t.pendingStop = r.pendingStop ∧ t.state = r.state

theorem Recorder.stopAsked_asks (r : Recorder) (it : RecItems) (reason : RecReason) :
    r.Asks (r.stopAsked it reason) reason := by
  rw [Recorder.Asks, Recorder.stopAsked]
  by_cases hcan : r.canStop = true
  · rw [if_pos hcan, if_pos ((Recorder.canStop_iff r).mp hcan)]
    split
    · exact ⟨rfl, rfl⟩
    · obtain ⟨hreason, hnone, -⟩ := r.stopAtOnce_told it reason
      exact ⟨hreason, hnone⟩
  · rw [if_neg hcan, if_neg fun h => hcan ((Recorder.canStop_iff r).mpr h)]
    exact ⟨rfl, rfl⟩

/-- Recorders alike in what a stop turns on. -/
theorem Recorder.Asks.of_same {r r' t : Recorder} {reason : RecReason} (h : r'.Asks t reason) (hstate : r'.state = r.state)
    (hpending : r'.pendingStop = r.pendingStop) (hframe : r'.openFrame = r.openFrame) : r.Asks t reason := by
  rw [Recorder.Asks, hstate, hpending, hframe] at h
  exact h

theorem Recorder.stopAsked_partOn_of_closed {r : Recorder} (h : r.partOn x = some q) (hq : q.phase ≠ .opened) (it : RecItems)
    (reason : RecReason) : (r.stopAsked it reason).partOn x = some q := by
  have hstopping : (r.toStopping reason).partOn x = some q := by
    rw [Recorder.toStopping_partOn, h, Option.map_some, if_neg hq]
  rw [Recorder.stopAsked, Recorder.stopAtOnce]
  split
  · split
    · exact h
    · split
      · rw [Recorder.partOn_of_parts (Recorder.rested_keeps ..).2.2.2.1]
        exact hstopping
      · exact hstopping
  · exact h

/-- A slot whose part is not open is not touched by a stop. -/
theorem State.slot_requestStop_of_closed (h : s.partOpened x = false) (reason : RecReason) :
    (s.requestStop reason).slot x = s.slot x := by
  rw [State.slot_requestStop, State.stoppedSlot, if_neg (ne_true_of_eq_false h), ite_self]

/-! ### SINGLE (R114) -/

theorem State.refuseSingle_told (hpart : (s.slot x).part = some p) (hflag : p.spaceRefused = true) (hopen : s.partOpened x = true) :
    ((s.refuseSingle x).slot x).part = some { p with closeReason := .full } ∧
    s.recorder.Asks (s.refuseSingle x).recorder .mediaFull ∧
    (s.recorder.openFrame.isSome = true →
      (s.refuseSingle x).recorder.partOn x = s.recorder.partOn x ∧ ((s.refuseSingle x).slot x).state = (s.slot x).state) := by
  let w : State := s.modifyCounts x (fun p => { p with closeReason := .full })
  have hw : w.slot x = (s.slot x).counted (fun p => { p with closeReason := .full }) := State.slot_modifyCounts ..
  have hwpart : (w.slot x).part = some { p with closeReason := .full } := by
    rw [hw]
    exact congrArg (Option.map _) hpart
  have hrecorder : w.recorder = s.recorder := by cases x <;> rfl
  have hwopen : w.partOpened x = true := by
    rw [State.partOpened_eq, hrecorder]
    exact hopen
  have ht : s.refuseSingle x = w.requestStop .mediaFull := rfl
  rw [ht]
  refine ⟨?_, ?_, fun hframe => ?_⟩
  · rw [State.slot_requestStop]
    split
    · refine ((State.stoppedSlot_told hwopen).2 _ hwpart).trans ?_
      rw [if_pos hflag]
    · exact hwpart
  · rw [State.requestStop_recorder_eq, hrecorder]
    exact Recorder.stopAsked_asks ..
  · refine ⟨?_, ?_⟩
    · rw [State.requestStop_recorder_eq, hrecorder, Recorder.stopAsked, if_pos hframe]
      split <;> rfl
    · rw [State.slot_requestStop, if_neg, hw]
      · rfl
      · rintro ⟨-, hnone⟩
        rw [hrecorder] at hnone
        rw [hnone] at hframe
        exact Bool.false_ne_true hframe

/-! ### A part that begins to close (R119) -/

/-- The part on a slot closes for want of space. -/
theorem State.beginClose_told (hpartOn : s.recorder.partOn x = some q) (hq : q.phase = .opened) (reason : CloseReason) :
    (s.beginClose x reason).recorder.partOn x = some { q with phase := .closing } ∧
    (∀ z, z ≠ x → (s.beginClose x reason).partOpened z = s.partOpened z ∧
      (s.beginClose x reason).slot z = s.slot z) ∧
    ((s.beginClose x reason).slot x).state = (if (s.slot x).state = .writing then .closing else (s.slot x).state) ∧
    ((s.beginClose x reason).slot x).part = (s.slot x).part.map (fun p => { p with closeReason := reason }) ∧
    (s.beginClose x reason).recorder = { s.recorder with parts := (s.beginClose x reason).recorder.parts } := by
  have hopen : s.partOpened x = true := (State.partOpened_of_partOn hpartOn).mpr hq
  have hrecorder := State.beginClose_recorder hopen reason
  obtain ⟨hstate, hpart⟩ := (s.slot x).beginsClose_keeps reason
  refine ⟨?_, fun z hz => ⟨?_, State.slot_beginClose_other hz reason⟩, ?_, ?_, ?_⟩
  · rw [hrecorder, Recorder.closeNewest_partOn, hpartOn, Option.map_some, if_pos hq]
  · exact State.partOpened_beginClose_other hopen hz reason
  · rw [State.slot_beginClose hopen, hstate]
  · rw [State.slot_beginClose hopen, hpart]
  · rw [hrecorder]
    exact Recorder.closeNewest_eq ..

/-! ### DUAL (R114) -/

theorem slotOther_ne (x : SlotId) : x.other ≠ x := by
  cases x <;> decide

theorem State.openSlots_isEmpty (s : State) (x : SlotId) :
    s.openSlots.isEmpty = (!s.partOpened x && !s.partOpened x.other) := by
  rw [State.openSlots, filter_slots _ (s.partOpened .a) (s.partOpened .b) rfl rfl]
  cases ha : s.partOpened .a <;> cases hb : s.partOpened .b <;> cases x <;> simp only [SlotId.other, ha, hb] <;> rfl

/-- The part refused closes, and the slot with it; what else is asked of the recording leaves them. -/
def State.Closes (s t : State) (x : SlotId) (p : SlotPart) (q : ClipPart) (reason : CloseReason) : Prop :=
  t.recorder.partOn x = some { q with phase := .closing } ∧
  (t.slot x).part = some { p with closeReason := reason } ∧
  (t.slot x).state = (if (s.slot x).state = .writing then .closing else (s.slot x).state)

theorem State.beginClose_closes (hpart : (s.slot x).part = some p) (hpartOn : s.recorder.partOn x = some q)
    (hq : q.phase = .opened) (reason : CloseReason) : s.Closes (s.beginClose x reason) x p q reason := by
  obtain ⟨hclosing, -, hstate, hcounts, -⟩ := State.beginClose_told hpartOn hq reason
  exact ⟨hclosing, hcounts.trans (congrArg (Option.map _) hpart), hstate⟩

/-- A stop asked for once the part closes leaves it. -/
theorem State.Closes.requestStop {w : State} {reason : CloseReason} (h : s.Closes w x p q reason) (r : RecReason) :
    s.Closes (w.requestStop r) x p q reason := by
  obtain ⟨hpartOn, hpart, hstate⟩ := h
  have hclosed : w.partOpened x = false :=
    Bool.eq_false_iff.mpr fun hopen => Phase.noConfusion ((State.partOpened_of_partOn hpartOn).mp hopen)
  rw [State.Closes, State.slot_requestStop_of_closed hclosed, State.requestStop_recorder_eq]
  exact ⟨Recorder.stopAsked_partOn_of_closed hpartOn Phase.noConfusion _ _, hpart, hstate⟩

theorem State.beginClose_asks (hpartOn : s.recorder.partOn x = some q) (hq : q.phase = .opened) (reason : CloseReason)
    (r : RecReason) : s.recorder.Asks ((s.beginClose x reason).requestStop r).recorder r := by
  obtain ⟨-, -, -, -, hrecorder⟩ := State.beginClose_told hpartOn hq reason
  rw [State.requestStop_recorder_eq]
  exact (Recorder.stopAsked_asks ..).of_same (by rw [hrecorder]) (by rw [hrecorder]) (by rw [hrecorder])

theorem State.refuseDual_told (hpart : (s.slot x).part = some p) (hpartOn : s.recorder.partOn x = some q)
    (hq : q.phase = .opened) :
    s.Closes (s.refuseDual x) x p q .full ∧
    if s.partOpened x.other = true then
      (s.refuseDual x).recorder.pendingStop = s.recorder.pendingStop ∧ (s.refuseDual x).recorder.state = s.recorder.state
    else s.recorder.Asks (s.refuseDual x).recorder .mediaFull := by
  obtain ⟨hclosing, hother, -, -, hrecorder⟩ := State.beginClose_told hpartOn hq .full
  have hcloses := State.beginClose_closes hpart hpartOn hq .full
  have hclosed : (s.beginClose x .full).partOpened x = false :=
    Bool.eq_false_iff.mpr fun hopen => Phase.noConfusion ((State.partOpened_of_partOn hclosing).mp hopen)
  have hempty : (s.beginClose x .full).openSlots.isEmpty = !s.partOpened x.other := by
    rw [State.openSlots_isEmpty _ x, hclosed, (hother _ (slotOther_ne x)).1]
    rfl
  rw [State.refuseDual]
  by_cases hopen : s.partOpened x.other = true
  · rw [if_neg (by rw [hempty, hopen]; exact Bool.false_ne_true), if_pos hopen]
    exact ⟨hcloses, by rw [hrecorder], by rw [hrecorder]⟩
  · rw [if_pos (by rw [hempty, Bool.eq_false_iff.mpr hopen]; rfl), if_neg hopen]
    exact ⟨hcloses.requestStop _, State.beginClose_asks hpartOn hq _ _⟩

/-! ### RELAY (R122, R123) -/

/-- What an offer to a part that has just been created leaves: the state of its slot, its request, the ports, the other
slot and its part, and the recording. -/
structure State.OfferKeeps (v t : State) (y : SlotId) : Prop where
  out : t.out = v.out
  state : (t.slot y).state = (v.slot y).state
  request : (t.slot y).request = (v.slot y).request
  slot : t.slot y.other = v.slot y.other
  partOn : t.recorder.partOn y.other = v.recorder.partOn y.other
  pending : t.recorder.pendingStop = v.recorder.pendingStop
  recording : t.recorder.state = v.recorder.state

theorem State.modifyPart_offerKeeps (v : State) (y : SlotId) {f : ClipPart → ClipPart} (hf : ∀ q, (f q).slot = q.slot) :
    v.OfferKeeps (v.modifyPart y f) y where
  out := rfl
  state := by rw [State.slot_modifyPart]
  request := by rw [State.slot_modifyPart]
  slot := State.slot_modifyPart ..
  partOn := Recorder.partOn_modifyPart_other _ (slotOther_ne y) hf
  pending := rfl
  recording := rfl

theorem State.OfferKeeps.trans {u v t : State} (h : u.OfferKeeps v y) (h' : v.OfferKeeps t y) : u.OfferKeeps t y where
  out := h'.out.trans h.out
  state := h'.state.trans h.state
  request := h'.request.trans h.request
  slot := h'.slot.trans h.slot
  partOn := h'.partOn.trans h.partOn
  pending := h'.pending.trans h.pending
  recording := h'.recording.trans h.recording

theorem State.modifyCounts_offerKeeps (v : State) (y : SlotId) (f : SlotPart → SlotPart) :
    v.OfferKeeps (v.modifyCounts y f) y := by
  cases y <;> exact ⟨rfl, rfl, rfl, rfl, rfl, rfl, rfl⟩

theorem State.queueing_offerKeeps (v : State) (y : SlotId) (id : Nat) : v.OfferKeeps (v.queueing y id) y := by
  cases y <;> exact ⟨rfl, rfl, rfl, rfl, rfl, rfl, rfl⟩

theorem State.issueWrite_of_opening {v : State} (h : (v.slot y).state = .opening) : v.issueWrite y = v := by
  rw [State.issueWrite]
  split
  · next hstate _ _ => rw [h] at hstate; exact SlotState.noConfusion hstate
  · next hstate _ _ => rw [h] at hstate; exact SlotState.noConfusion hstate
  · rfl

theorem State.offerOnce_offerKeeps {v : State} (hstate : (v.slot y).state = .opening) (hpart : (v.slot y).part = some p) (id : Nat) :
    v.OfferKeeps (v.offerOnce y id).1 y := by
  have hoffers : v.OfferKeeps (v.offering y) y := v.modifyPart_offerKeeps y fun _ => rfl
  have hslot : (v.offering y).slot y = v.slot y := State.slot_modifyPart ..
  have hpart' : ((v.offering y).slot y).part = some p := by rw [hslot]; exact hpart
  rw [State.offerOnce_eq]
  refine hoffers.trans ?_
  cases hflag : p.spaceRefused with
  | true =>
    rw [State.judgeUnit_of_refused hpart' hflag]
    exact State.modifyCounts_offerKeeps ..
  | false =>
    cases hroom : ((v.offering y).slot y).hasRoom ((v.offering y).recorder.store.sizeOf id) with
    | false =>
      rw [State.judgeUnit_of_no_room hpart' hflag hroom]
      exact State.modifyCounts_offerKeeps ..
    | true =>
      by_cases hfull : 1024 ≤ ((v.offering y).slot y).queue.length
      · rw [State.judgeUnit_of_full hpart' hflag hroom hfull]
        exact (State.modifyCounts_offerKeeps ..).trans (State.modifyPart_offerKeeps _ _ fun q => q.recordSkip_slot ..)
      · have hopening : (((v.offering y).queueing y id).slot y).state = .opening := by
          rw [State.slot_queueing, hslot]
          exact hstate
        rw [State.judgeUnit_of_room hpart' hflag hroom hfull, State.issueWrite_of_opening hopening]
        exact State.queueing_offerKeeps ..

/-- A part created on a slot, which the first unit then joins. -/
theorem State.createPart_told (w : State) (y : SlotId) (clip number : Nat) :
    let v := w.createPart y clip number
    (v.slot y).state = .opening ∧ (v.slot y).request = some ⟨.partOpen, (w.slot y).requestNumber + 1⟩ ∧
    (v.slot y).part = some ⟨clip, number, 0, 0, 0, false, false, .stop, none, none⟩ ∧
    (v.slot y).queue = (w.slot y).queue ∧ (v.slot y).reserved = (w.slot y).reserved ∧ (v.slot y).free = (w.slot y).free ∧
    v.slot y.other = w.slot y.other ∧
    v.recorder = { w.recorder with parts := ⟨clip, number, y, .opened, 0, [], 0⟩ :: w.recorder.parts } ∧
    .slotRequest y ((w.slot y).requestNumber + 1) (.partOpen clip number) ∈ v.out := by
  intro v
  have hv := State.createPart_eq w y clip number
  have hslot := State.slot_setSlot
  rw [show v = _ from hv]
  have hout : ∀ (u : State) c, (u.setSlot y c).out = u.out := fun u c => by cases y <;> rfl
  have hrecorder : ∀ (u : State) c, (u.setSlot y c).recorder = u.recorder := fun u c => by cases y <;> rfl
  rw [State.slot_setSlot, State.slot_setSlot_other (slotOther_ne y), hout, hrecorder]
  refine ⟨rfl, rfl, rfl, rfl, rfl, rfl, ?_, rfl, List.mem_append_right _ List.mem_cons_self⟩
  cases y <;> rfl

/-- The first unit of a part just created joins its queue where there is room (R122). -/
theorem State.offerOnce_of_created {v : State} {clip number : Nat} (hstate : (v.slot y).state = .opening)
    (hpart : (v.slot y).part = some ⟨clip, number, 0, 0, 0, false, false, .stop, none, none⟩)
    (hpartOn : v.recorder.partOn y = some ⟨clip, number, y, .opened, 0, [], 0⟩) (hqueue : (v.slot y).queue = [])
    (hroom : (v.slot y).reserved + v.recorder.store.sizeOf id + 32 ≤ (v.slot y).free) :
    let t := (v.offerOnce y id).1
    (t.slot y).part = (v.slot y).part ∧ (t.slot y).queue = [id] ∧
    (t.slot y).reserved = (v.slot y).reserved + v.recorder.store.sizeOf id ∧
    t.recorder.partOn y = some ⟨clip, number, y, .opened, 1, [], 0⟩ ∧
    t.recorder.store.frameOf id = v.recorder.store.frameOf id := by
  intro t
  have hslot : (v.offering y).slot y = v.slot y := State.slot_modifyPart ..
  have hoffered := State.offering_partOn hpartOn
  have hopening : (((v.offering y).queueing y id).slot y).state = .opening := by
    rw [State.slot_queueing, hslot]
    exact hstate
  have ht : t = (v.offering y).queueing y id := by
    have hfits : ((v.offering y).slot y).hasRoom ((v.offering y).recorder.store.sizeOf id) = true := by
      rw [hslot]
      exact (Slot.hasRoom_iff ..).mpr (Nat.not_lt.mpr hroom)
    have hshort : ¬1024 ≤ ((v.offering y).slot y).queue.length := by
      rw [hslot, hqueue]
      exact Nat.not_succ_le_zero _
    change ((v.offering y).judgeUnit y id).1 = _
    rw [State.judgeUnit_of_room (by rw [hslot]; exact hpart) rfl hfits hshort, State.issueWrite_of_opening hopening]
  rw [ht, State.slot_queueing, State.queueing_recorder, hslot]
  refine ⟨rfl, ?_, rfl, hoffered, UnitStore.frameOf_addRef ..⟩
  rw [Slot.queues, hqueue]
  rfl

theorem State.relayHandover_told (hpart : (s.slot x).part = some p) (hpartOn : s.recorder.partOn x = some q)
    (hq : q.phase = .opened) (hpending : s.recorder.pendingStop = none) :
    let t := s.relayHandover x id
    let c := s.slot x.other
    s.Closes t x p q .relay ∧
    if c.state = .ready ∧ c.hold = false ∧ q.number < 255 then
      t.recorder.pendingStop = none ∧ t.recorder.state = s.recorder.state ∧ (t.slot x.other).state = .opening ∧
      (t.slot x.other).request = some ⟨.partOpen, c.requestNumber + 1⟩ ∧
      .slotRequest x.other (c.requestNumber + 1) (.partOpen q.clip (q.number + 1)) ∈ t.out ∧
      (c.queue = [] → c.reserved + s.recorder.store.sizeOf id + 32 ≤ c.free →
        (t.slot x.other).part = some ⟨q.clip, q.number + 1, 0, 0, 0, false, false, .stop, none, none⟩ ∧
        t.recorder.partOn x.other =
          some ⟨q.clip, q.number + 1, x.other, .opened, 1, [⟨.relay x, s.recorder.store.frameOf id⟩], 0⟩ ∧
        (t.slot x.other).queue = [id] ∧ (t.slot x.other).reserved = c.reserved + s.recorder.store.sizeOf id)
    else s.recorder.Asks t.recorder .relayExhausted := by
  intro t c
  obtain ⟨-, hother, -, -, hrecorder⟩ := State.beginClose_told hpartOn hq .relay
  have hcloses := State.beginClose_closes hpart hpartOn hq .relay
  let w : State := s.beginClose x .relay
  have hc : w.slot x.other = c := (hother _ (slotOther_ne x)).2
  have hcond : ((w.slot x.other).isReady && decide (q.number < 255)) = true ↔
      c.state = .ready ∧ c.hold = false ∧ q.number < 255 := by
    rw [hc, Bool.and_eq_true, Slot.isReady_iff, decide_eq_true_iff, and_assoc]
  have ht : t =
      if ((w.slot x.other).isReady && decide (q.number < 255)) = true then
        let v := w.createPart x.other q.clip (q.number + 1)
        let u := (v.offerOnce x.other id).1
        u.modifyPart x.other (fun p => p.addMark ⟨.relay x, u.recorder.store.frameOf id⟩)
      else w.requestStop .relayExhausted := by
    simp only [t, State.relayHandover, hpartOn, Option.map_some, Option.getD_some]
    rfl
  rw [ht]
  by_cases hready : c.state = .ready ∧ c.hold = false ∧ q.number < 255
  · rw [if_pos (hcond.mpr hready), if_pos hready]
    let v : State := w.createPart x.other q.clip (q.number + 1)
    let u : State := (v.offerOnce x.other id).1
    let m : ClipMark := ⟨.relay x, u.recorder.store.frameOf id⟩
    obtain ⟨hvstate, hvrequest, hvpart, hvqueue, hvreserved, hvfree, hvslot, hvrecorder, hvout⟩ :=
      w.createPart_told x.other q.clip (q.number + 1)
    rw [hc] at hvrequest hvqueue hvreserved hvfree hvout
    have hkeeps : v.OfferKeeps (u.modifyPart x.other (fun p => p.addMark m)) x.other :=
      (State.offerOnce_offerKeeps hvstate hvpart id).trans (State.modifyPart_offerKeeps _ _ fun p => (p.addMark_keeps m).1)
    let z : State := u.modifyPart x.other (fun p => p.addMark m)
    have hback : x.other.other = x := by cases x <;> rfl
    have hzslot : z.slot x = w.slot x := by
      have h := hkeeps.slot.trans hvslot
      rw [hback] at h
      exact h
    have hzpart : z.recorder.partOn x = w.recorder.partOn x := by
      have h := hkeeps.partOn
      rw [hback, hvrecorder] at h
      exact h.trans (List.find?_cons_of_neg fun hx => slotOther_ne x (beq_iff_eq.mp hx))
    refine ⟨?_, ?_, ?_, ?_, ?_, ?_, fun hqueue hroom => ?_⟩
    · rw [State.Closes, hzslot, hzpart]
      exact hcloses
    · rw [hkeeps.pending, hvrecorder]
      exact (congrArg Recorder.pendingStop hrecorder :).trans hpending
    · rw [hkeeps.recording, hvrecorder]
      exact (congrArg Recorder.state hrecorder :)
    · exact hkeeps.state.trans hvstate
    · exact hkeeps.request.trans hvrequest
    · rw [hkeeps.out]
      exact hvout
    · have hvstore : v.recorder.store = s.recorder.store := by
        rw [hvrecorder]
        exact (congrArg Recorder.store hrecorder :)
      have hvpartOn : v.recorder.partOn x.other = some ⟨q.clip, q.number + 1, x.other, .opened, 0, [], 0⟩ := by
        rw [hvrecorder]
        refine List.find?_cons_of_pos ?_
        cases x <;> rfl
      obtain ⟨hupart, huqueue, hureserved, hupartOn, huframe⟩ :=
        State.offerOnce_of_created (id := id) hvstate hvpart hvpartOn (hvqueue.trans hqueue)
          (by rw [hvreserved, hvfree, hvstore]; exact hroom)
      rw [hvreserved, hvstore] at hureserved
      rw [hvstore] at huframe
      refine ⟨?_, ?_, ?_, ?_⟩
      · rw [State.slot_modifyPart, hupart, hvpart]
      · refine (Recorder.partOn_modifyPart (f := fun p => p.addMark m) _ _ fun p => (p.addMark_keeps m).1).trans ?_
        have hm : m = ⟨.relay x, s.recorder.store.frameOf id⟩ := congrArg (fun n => ClipMark.mk (.relay x) n) huframe
        rw [hupartOn, Option.map_some, hm]
        rfl
      · rw [State.slot_modifyPart, huqueue]
      · rw [State.slot_modifyPart, hureserved]
  · rw [if_neg fun h => hready (hcond.mp h), if_neg hready]
    exact ⟨hcloses.requestStop _, State.beginClose_asks hpartOn hq _ _⟩

/-! ### The outcome by REC_MODE (R114) -/

theorem State.refusedForSpace_of_single
    (h : s.items.record.mode = .single ∨ s.items.record.mode = .relay ∧ s.recorder.pendingStop ≠ none) :
    s.refusedForSpace x id = s.refuseSingle x := by
  obtain hmode | ⟨hmode, hpending⟩ := h
  · simp only [State.refusedForSpace, hmode]
  · simp only [State.refusedForSpace, hmode]
    exact if_pos (Option.isSome_iff_ne_none.mpr hpending)

theorem State.refusedForSpace_of_dual (h : s.items.record.mode = .dual) : s.refusedForSpace x id = s.refuseDual x := by
  simp only [State.refusedForSpace, h]

theorem State.refusedForSpace_of_relay (h : s.items.record.mode = .relay) (hpending : s.recorder.pendingStop = none) :
    s.refusedForSpace x id = s.relayHandover x id := by
  simp only [State.refusedForSpace, h]
  exact if_neg (by rw [hpending]; exact Bool.false_ne_true)

theorem State.refusing_asks {t : Recorder} {r : RecReason} (h : (s.refusing x).recorder.Asks t r) : s.recorder.Asks t r := by
  rw [(s.refusing_told x).2.2.1] at h
  exact h

theorem State.refusing_closes {t : State} {reason : CloseReason} (h : (s.refusing x).Closes t x p.refuses q.offers reason) :
    t.recorder.partOn x = some { q with phase := .closing, offered := q.offered + 1 } ∧
    (t.slot x).part = some { p with lost := p.lost + 1, spaceRefused := true, closeReason := reason } ∧
    (t.slot x).state = (if (s.slot x).state = .writing then .closing else (s.slot x).state) := by
  rw [State.Closes, (s.refusing_told x).1] at h
  exact h

/-- Settles O47. -/
theorem offeredUnitsAreAccounted : Obligations.OfferedUnitsAreAccounted := by
  intro s x id p q hpart hpartOn c size frame noRoom
  refine ⟨fun hidle => ?_, fun hq => ?_, UnitStore.release_told⟩
  · intro count refused
    obtain ⟨r, o, hr, ho, hoffered, hwritten, hcount, hrefused, hlost, hreserved⟩ :=
      State.offerOnce_told (id := id) hpart hpartOn hidle
    refine ⟨r, o, hr, ho, hoffered, hwritten, ?_, hrefused, hlost, hreserved⟩
    simp only [Slot.held, ← Nat.add_assoc] at hcount
    exact hcount
  · intro t asks closes y
    have hopen : s.partOpened x = true := (State.partOpened_of_partOn hpartOn).mpr hq
    split
    · next htaken => exact State.offer_of_taken hopen hpart htaken
    · next hrefused =>
      obtain ⟨hflag, hroom⟩ := not_or.mp hrefused
      let u : State := s.refusing x
      have ht : t = u.refusedForSpace x id :=
        State.offer_of_no_room hopen hpart (Bool.eq_false_iff.mpr hflag) (not_not.mp hroom)
      obtain ⟨huslot, huother, hurecorder, huitems⟩ := s.refusing_told x
      have hupart : (u.slot x).part = some p.refuses := by
        rw [huslot]
        exact congrArg (Option.map _) hpart
      have hupartOn : u.recorder.partOn x = some q.offers := State.refusing_partOn hpartOn
      have huopen : u.partOpened x = true := (State.partOpened_of_partOn hupartOn).mpr hq
      have hupending : u.recorder.pendingStop = s.recorder.pendingStop := by rw [hurecorder]; rfl
      have hsingle : s.items.record.mode = .single ∨
          s.items.record.mode = .relay ∧ s.recorder.pendingStop ≠ none →
          (t.slot x).part = some { p with lost := p.lost + 1, spaceRefused := true, closeReason := .full } ∧
          asks .mediaFull ∧
          (s.recorder.openFrame.isSome = true →
            t.recorder.partOn x = some { q with offered := q.offered + 1 } ∧ (t.slot x).state = c.state) := by
        intro h
        have hends := State.refuseSingle_told hupart rfl huopen
        rw [← State.refusedForSpace_of_single (s := u) (id := id) (by rw [huitems, hupending]; exact h), ← ht] at hends
        obtain ⟨hends, hasks, hwaits⟩ := hends
        refine ⟨hends, State.refusing_asks hasks, fun hframe => ?_⟩
        obtain ⟨hkept, hstate⟩ := hwaits (by rw [hurecorder]; exact hframe)
        rw [hkept, hstate, huslot]
        exact ⟨hupartOn, rfl⟩
      split
      · next hmode => exact hsingle (.inl hmode)
      · next hmode hpending => exact hsingle (.inr ⟨hmode, by rw [hpending]; exact Option.some_ne_none _⟩)
      · next hmode =>
        have hends := State.refuseDual_told hupart hupartOn hq
        rw [← State.refusedForSpace_of_dual (s := u) (id := id) (by rw [huitems]; exact hmode), ← ht] at hends
        obtain ⟨hcloses, hstop⟩ := hends
        have hother : u.partOpened x.other = s.partOpened x.other := by
          rw [State.partOpened_eq, hurecorder, Recorder.newestOpen,
            Recorder.partOn_modifyPart_other (f := ClipPart.offers) _ (slotOther_ne x) fun _ => rfl]
          rfl
        refine ⟨State.refusing_closes hcloses, ?_⟩
        rw [hother] at hstop
        split
        · next hyes =>
          rw [if_pos hyes, hurecorder] at hstop
          exact hstop
        · next hno =>
          rw [if_neg hno] at hstop
          exact State.refusing_asks hstop
      · next hmode hpending =>
        have hends := State.relayHandover_told (id := id) hupart hupartOn hq (hupending.trans hpending)
        rw [← State.refusedForSpace_of_relay (s := u) (by rw [huitems]; exact hmode) (hupending.trans hpending), ← ht]
          at hends
        obtain ⟨hcloses, hnext⟩ := hends
        refine ⟨State.refusing_closes hcloses, ?_⟩
        rw [huother] at hnext
        split
        · next hyes =>
          have hready : (s.slot x.other).state = .ready ∧ (s.slot x.other).hold = false ∧ q.offers.number < 255 := hyes
          rw [if_pos hready, hurecorder] at hnext
          exact hnext
        · next hno =>
          have hnot : ¬((s.slot x.other).state = .ready ∧ (s.slot x.other).hold = false ∧ q.offers.number < 255) := hno
          rw [if_neg hnot] at hnext
          exact State.refusing_asks hnext

end Sys2Proof.Machine
end

section
/-! PROOF. SET of an item: the value taken, the item that holds it, and the owners' acts (9.3, 9.8). -/

namespace Sys2Proof.Machine

variable {s : State} {seq tag : Byte} {src : Source} {n : Nat}

/-! ### The value a SET takes (R49, R184) -/

/-- Outside the four items that a partner bounds, the value in range is the value taken (R49). -/
theorem boundValue_of_plain (it : Items) (v : Nat) (h : n ∉ [68, 69, 71, 72]) : boundValue it n v = v := by
  simp only [List.mem_cons, List.not_mem_nil, or_false, not_or] at h
  obtain ⟨h68, h69, h71, h72⟩ := h
  unfold boundValue
  split
  · exact absurd rfl h68
  · exact absurd rfl h69
  · exact absurd rfl h71
  · exact absurd rfl h72
  · rfl

theorem onCode_of_flag {w : Nat} (h : w ≤ 1) : onCode (w != 0) = w := by
  interval_cases w <;> rfl

theorem RecMode.code_ofCode {w : Nat} (h : w ≤ 2) : (RecMode.ofCode w).code = w := by
  interval_cases w <;> rfl

theorem SlotId.code_ofCode {w : Nat} (h : w ≤ 1) : (SlotId.ofCode w).code = w := by
  interval_cases w <;> rfl

theorem ErrorPolicy.code_ofCode {w : Nat} (h : w ≤ 1) : (ErrorPolicy.ofCode w).code = w := by
  interval_cases w <;> rfl

/-- The track of a swap carries the input sent (R53). -/
theorem swapAssign_get_track (q : Quad Nat) (t : Four) (i : Nat) : (swapAssign q t i).get t = i := by
  unfold swapAssign
  dsimp only
  split
  · assumption
  · exact Quad.get_set_same _ t i

/-- The track that carried the input sent carries the other one after a swap (R53). -/
theorem swapAssign_get_other {q : Quad Nat} {t u : Four} {i : Nat} (hu : u ≠ t) (hcarries : q.get u = i) :
    (swapAssign q t i).get u = q.get t := by
  unfold swapAssign
  dsimp only
  split
  · next hsame => rw [hcarries, hsame]
  · rw [Quad.get_set_other _ t u i hu, Quad.get_map, if_pos hcarries]

/-- An item holds the value put into it: the value of an enumerated item is a code of its range, and that of
the five items of R49 is any number. -/
theorem ItemSpec.get_put : ∀ sp ∈ itemSpecs, sp.lo ≤ sp.hi ∧ ∀ (it : Items) (w : Nat),
    (sp.number ∉ [65, 68, 69, 71, 72] → w ≤ sp.hi) → sp.get (sp.put w it) = w := by
  refine forall_itemSpecs ?_ ?_ ?_ ?_ ?_ ?_
  · simp +contextual [zoomSpecs, stabSpecs, limiterSpecs, recordSpecs, viewSpecs, onCode_of_flag,
      RecMode.code_ofCode, SlotId.code_ofCode, ErrorPolicy.code_ofCode, -List.append_assoc]
  · exact fun t => ⟨(by decide : 1 ≤ 4), fun it w _ => swapAssign_get_track _ t w⟩
  · exact fun t => ⟨(by decide : 0 ≤ 160), fun it w _ => Quad.get_set_same _ t w⟩
  · intro t
    refine ⟨(by decide : 0 ≤ 1), fun it w h => ?_⟩
    have hw : w ≤ 1 := h (by cases t <;> decide)
    exact (congrArg onCode (Quad.get_set_same _ t _)).trans (onCode_of_flag hw)
  · exact fun t => ⟨Nat.zero_le _, fun it w _ => Quad.get_set_same _ t w⟩
  · exact fun t => ⟨Nat.zero_le _, fun it w _ => Quad.get_set_same _ t w⟩

/-- After a SET the item holds the value taken (R184). -/
theorem ItemSpec.get_put_taken {sp : ItemSpec} (hsp : sp ∈ itemSpecs) (it : Items) (v : Nat) :
    sp.get (sp.put (takenValue it sp v) it) = takenValue it sp v := by
  obtain ⟨hrange, hget⟩ := ItemSpec.get_put sp hsp
  refine hget it _ fun h => ?_
  simp only [List.mem_cons, List.not_mem_nil, or_false, not_or] at h
  rw [takenValue, if_neg h.1, boundValue_of_plain it _ (by simp [h])]
  exact (clampNat_mem hrange v).2

/-- The value a SET takes of a value `x` in range, item by item (R49, R184). -/
theorem boundValue_eq (it : Items) (n v x : Nat) :
    (if n = 65 then avgCountValue v else boundValue it n x) =
      match n with
      | 65 => if 8 ≤ v then 8 else if 4 ≤ v then 4 else if 2 ≤ v then 2 else 1
      | 68 => max x (it.stab.panHyst + 1)
      | 69 => min x (it.stab.panTh - 1)
      | 71 => max x it.stab.leakPan
      | 72 => min x it.stab.leakSteady
      | _ => x := by
  by_cases h65 : n = 65
  · subst h65
    rfl
  rw [if_neg h65]
  split
  · exact absurd rfl h65
  · rfl
  · rfl
  · rfl
  · rfl
  · next h68 h69 h71 h72 =>
    refine boundValue_of_plain it _ ?_
    simp only [List.mem_cons, List.not_mem_nil, or_false, not_or]
    exact ⟨h68, h69, h71, h72⟩

/-! ### The owners' acts (R38, R62, R89) -/

/-- PRE_REC_SECONDS 0 in STANDBY: the ring is emptied and the unit under assembly released (R89). -/
theorem Recorder.emptied_eq (r : Recorder) :
    (r.trimRing 0).releaseAssembly =
      { r with
        ring := []
        assembly := none
        store := match r.assembly with
          | none => r.ring.foldl UnitStore.release r.store
          | some id => (r.ring.foldl UnitStore.release r.store).release id } := by
  cases h : r.assembly <;>
    simp [Recorder.releaseAssembly, Recorder.trimRing, keepLast, UnitStore.releaseAll, h]

/-- An item that its owner lets change at rest only is refused in a recording (R101). -/
theorem State.setItem_of_recording {sp : ItemSpec} (v : Nat) (hlow : 128 ≤ sp.number) (hhigh : sp.number ≤ 130)
    (h : s.recorder.state.recording? = true) : s.setItem sp v = (s, .refusedState, []) := by
  have hrest : restOnly sp.number = true := by
    have : sp.number = 128 ∨ sp.number = 129 ∨ sp.number = 130 := by omega
    rcases this with h | h | h <;> rw [h] <;> rfl
  rw [State.setItem, hrest, RecState.not_atRest_of_recording h]
  rfl

theorem State.setItem_of_settable {sp : ItemSpec} (v : Nat)
    (h : 128 ≤ sp.number → sp.number ≤ 130 → s.recorder.state = .idle ∨ s.recorder.state = .standby) :
    s.setItem sp v =
      ({ s with items := sp.put (takenValue s.items sp v) s.items }.ownerActs sp.number,
        takenStatus (decide (takenValue s.items sp v ≠ v)), leBytes 4 (takenValue s.items sp v)) := by
  rw [State.setItem, if_neg]
  simp only [restOnly, Bool.and_eq_true, Bool.or_eq_true, beq_iff_eq, Bool.not_eq_true']
  rintro ⟨hnumber, hrest⟩
  have hatRest := RecState.atRest_iff.mpr (h (by omega) (by omega))
  rw [hrest] at hatRest
  cases hatRest

/-- The reply to a SET carries the value taken, CLAMPED where it is not the value sent (R184). -/
theorem State.reply_setValue (u : State) (w v : Nat) :
    u.reply tag (takenStatus (decide (w ≠ v))) (leBytes 4 w) =
      { u with body := u.body.hand (.reply tag (if w = v then .ok else .clamped) (leBytes 4 w)) } := by
  rw [State.reply_eq]
  by_cases h : w = v
  · simp [h, takenStatus, Status.taken]
  · simp [h, takenStatus, Status.taken]

/-- Settles O54. -/
theorem setItem : Obligations.SetItem := by
  intro s seq src tag item v n h
  have hexec : exec (.set seq src tag item v) s = .next ((s.taken .command seq n).doSet src tag item.toNat v.toNat) :=
    congrArg _ (State.command_of_takes h)
  rw [hexec]
  intro u refused
  refine ⟨fun hnone => ?_, fun (hallowed : u.permits src [item.toNat] = true) =>
    ⟨fun hspec hsome => ?_, fun hlow hhigh hrec => ?_, ?_⟩⟩
  · have hspec : specOf item.toNat = none := by
      cases hspec : specOf item.toNat with
      | none => rfl
      | some sp => rw [State.itemValue, hspec] at hnone; cases hnone
    have hset : u.doSet src tag item.toNat v.toNat = u.reply tag .badItem [] := by
      rw [State.doSet, hspec, hnone]
    exact congrArg _ (hset.trans (State.reply_eq ..))
  · obtain ⟨vs, hvs⟩ := Option.isSome_iff_exists.mp hsome
    have hset : u.doSet src tag item.toNat v.toNat = u.reply tag .readOnly [] := by
      rw [State.doSet, hspec, hvs]
      exact State.judge_of_permits hallowed
    exact congrArg _ (hset.trans (State.reply_eq ..))
  · obtain ⟨sp, hspec⟩ : ∃ sp, specOf item.toNat = some sp := by
      have : item.toNat = 128 ∨ item.toNat = 129 ∨ item.toNat = 130 := by omega
      rcases this with h | h | h <;> rw [h] <;> exact ⟨_, rfl⟩
    obtain ⟨-, hnumber⟩ := mem_of_specOf hspec
    have hset : u.doSet src tag item.toNat v.toNat = u.reply tag .refusedState [] := by
      rw [State.doSet, hspec]
      refine (State.judge_of_permits hallowed).trans ?_
      rw [State.setItem_of_recording (s := u) v.toNat (by omega) (by omega) hrec]
    exact congrArg _ (hset.trans (State.reply_eq ..))
  · intro sp hspec hrest ranged w its cut gain went lamped room st acted t
    obtain ⟨hmem, hnumber⟩ := mem_of_specOf hspec
    have hw : takenValue u.items sp v.toNat = w := by
      rw [takenValue, hnumber]
      exact boundValue_eq u.items item.toNat v.toNat (clampNat sp.lo sp.hi v.toNat)
    have hget : sp.get its = w := by
      have := ItemSpec.get_put_taken hmem u.items v.toNat
      rw [hw] at this
      exact this
    have hset : u.doSet src tag item.toNat v.toNat =
        ({ u with items := its }.ownerActs item.toNat).reply tag (takenStatus (decide (w ≠ v.toNat))) (leBytes 4 w) := by
      rw [State.doSet, hspec]
      refine (State.judge_of_permits hallowed).trans ?_
      rw [State.setItem_of_settable (s := u) v.toNat (fun hlow hhigh => hrest (by omega) (by omega)), hw, hnumber]
      rfl
    have hacts : { u with items := its }.ownerActs item.toNat = { acted with items := its } := by
      by_cases h67 : item.toNat = 67
      · have hact : acted = { u with stab := { s.stab with yaw := cut s.stab.yaw, pitch := cut s.stab.pitch } } := by
          simp only [acted, h67]
        have hth : its.stab.bucketTh = w := by
          rw [h67] at hspec
          obtain rfl := Option.some.inj hspec
          exact hget
        rw [State.ownerActs, if_pos h67, hact]
        dsimp only
        rw [hth]
        rfl
      · by_cases h130 : item.toNat = 130
        · have hseconds : its.record.preRecSeconds = w := by
            rw [h130] at hspec
            obtain rfl := Option.some.inj hspec
            exact hget
          have hroom : u.recorder.ringCapacity w = room := by
            unfold Recorder.ringCapacity room
            have : u.recorder.lastMark = s.recorder.lastMark := rfl
            rw [this]
            cases s.recorder.lastMark <;> rfl
          rw [State.ownerActs, if_neg h67, if_pos h130]
          simp only [acted, h130]
          rcases hrest (by omega) (by omega) with hidle | hstandby
          · rw [State.applyPreRec_idle (s := { u with items := its }) hidle, if_pos hidle]
            dsimp only
            rw [hseconds]
            split
            · rfl
            · rw [State.setRecState_eq]
              rfl
          · have hidle : s.recorder.state ≠ .idle := by rw [hstandby]; decide
            rw [State.applyPreRec_standby (s := { u with items := its }) hstandby, if_neg hidle]
            dsimp only
            rw [hseconds]
            split
            · rw [State.setRecState_eq]
              dsimp only
              rw [Recorder.emptied_eq]
              rfl
            · rw [hroom]
              rfl
        · rw [State.ownerActs, if_neg h67, if_neg h130]
          by_cases hlimit : 104 ≤ item.toNat ∧ item.toNat ≤ 107
          · have hact : acted =
                { u with audio := { s.audio with limGain := ⟨gain .i1, gain .i2, gain .i3, gain .i4⟩ } } := by
              have : item.toNat = 104 ∨ item.toNat = 105 ∨ item.toNat = 106 ∨ item.toNat = 107 := by omega
              rcases this with hk | hk | hk | hk <;> simp only [acted, hk]
            rw [if_pos hlimit, hact]
            rfl
          · have hact : acted = u := by
              simp only [acted]
              split
              · omega
              · omega
              · omega
              · omega
              · omega
              · omega
              · rfl
            rw [if_neg hlimit, hact]
    refine ⟨?_, ?_, fun track other htrack hcarries => ?_⟩
    · rw [hset, hacts, State.reply_setValue]
    · rw [State.itemValue, hspec]
      exact congrArg (fun x : Nat => some [(x : Int)]) hget
    · have hsp : sp = assignSpec track := by
        rw [htrack] at hspec
        cases track <;> exact Option.some.inj (hspec.symm.trans rfl)
      have hassign : its.audio.assign = swapAssign s.items.audio.assign track w := by
        change (sp.put w s.items).audio.assign = _
        rw [hsp]
        rfl
      rw [hassign]
      exact ⟨swapAssign_get_track _ track w, fun hother => swapAssign_get_other hother hcarries⟩
end Sys2Proof.Machine
end

section
/-! PROOF. Table entries as a WRITE takes them, against their layouts (R137, R153, R186, R205). -/

namespace Sys2Proof.Machine

/-! ### Fields of an entry -/

theorem leNat_lt (bytes : List Byte) : leNat bytes < 256 ^ bytes.length := by
  induction bytes with
  | nil => simp [leNat]
  | cons b rest ih =>
    have hb : b.toNat < 256 := b.isLt
    simp only [leNat, List.length_cons, pow_succ]
    omega

theorem fieldAt_lt (b : List Byte) (o w : Nat) : fieldAt b o w < 256 ^ w :=
  (leNat_lt _).trans_le (Nat.pow_le_pow_right (by decide) (List.length_take_le ..))

/-- What a field holds of a value, and whether it was corrected. -/
def EntryField.takes (f : EntryField) (v : Nat) : Nat × Bool := (f.held v, f.judged && decide (f.held v ≠ v))

/-- The fields of a layout from byte `o` of an entry on. -/
def holdAt (o : Nat) (fs : List EntryField) (b : List Byte) : List Byte × Bool := holdFields fs (b.drop o)

theorem holdEntry_eq (t : TableId) (b : List Byte) : holdEntry t b = holdAt 0 (entryFields t b) b := rfl

@[simp] theorem holdAt_nil (o : Nat) (b : List Byte) : holdAt o [] b = ([], false) := rfl

/-- The layout is taken field by field: the bytes held, then those of the fields behind it. -/
@[simp] theorem holdAt_cons (o : Nat) (f : EntryField) (rest : List EntryField) (b : List Byte) :
    holdAt o (f :: rest) b =
      (leBytes f.width (f.takes (fieldAt b o f.width)).1 ++ (holdAt (o + f.width) rest b).1,
        (f.takes (fieldAt b o f.width)).2 || (holdAt (o + f.width) rest b).2) := by
  rw [holdAt, holdFields, List.drop_drop]
  rfl

@[simp] theorem EntryField.range_width (w lo hi : Nat) : (EntryField.range w lo hi).width = w := rfl

@[simp] theorem EntryField.code_width (last : Nat) : (EntryField.code last).width = 1 := rfl

@[simp] theorem EntryField.unused_width (w : Nat) : (EntryField.unused w).width = w := rfl

/-- A numeric field is held at the nearest bound of its range, and judged. -/
@[simp] theorem EntryField.range_takes {w lo hi : Nat} (h : lo ≤ hi) (v : Nat) :
    (EntryField.range w lo hi).takes v = takeField lo hi v := by
  have hclamp : max lo (min hi v) = clampNat lo hi v := by
    unfold clampNat
    split
    · omega
    · split <;> omega
  simp [EntryField.range, EntryField.takes, takeField, hclamp]

/-- An enumerated field is held as its first value past its last one. -/
@[simp] theorem EntryField.code_takes (last v : Nat) :
    (EntryField.code last).takes v = (if last < v then 0 else v, decide (last < v)) := by
  by_cases h : last < v
  · have : 0 ≠ v := by omega
    simp [EntryField.code, EntryField.takes, h, this]
  · simp [EntryField.code, EntryField.takes, h]

theorem EntryField.unused_takes (w v : Nat) : (EntryField.unused w).takes v = (256 ^ w - 1, false) := rfl

/-- A field whose range is every value of its width is held as written. -/
theorem takeField_full (w : Nat) {hi : Nat} (h : hi + 1 = 256 ^ w) (b : List Byte) (o : Nat) :
    takeField 0 hi (fieldAt b o w) = (fieldAt b o w, false) := by
  have hlt := fieldAt_lt b o w
  have hclamp : clampNat 0 hi (fieldAt b o w) = fieldAt b o w := clampNat_of_mem (Nat.zero_le _) (by omega)
  simp [takeField, hclamp]

/-! ### Entries with numeric fields alone -/

/-- What a table's taker answers is what its layout holds. -/
def Holds (t : TableId) {α : Type} (take : List Byte → α × Bool) (bytes : α → List Byte) : Prop :=
  ∀ b : List Byte, b.length = t.entryBytes → holdEntry t b = (bytes (take b).1, (take b).2)

theorem takeLens_holds : Holds .lens takeLens LensEntry.bytes := by
  intro b _
  simp [holdEntry_eq, entryFields, takeField_full 2, takeLens, LensEntry.bytes]

theorem takeSpeed_holds : Holds .speedCurve takeSpeed speedBytes := by
  intro b _
  simp [holdEntry_eq, entryFields, takeSpeed, speedBytes]

theorem takePreset_holds : Holds .presets takePreset Preset.bytes := by
  intro b _
  simp [holdEntry_eq, entryFields, takeField_full 2, takePreset, Preset.bytes]

theorem takeGain_holds : Holds .gain takeGain (leBytes 4) := by
  intro b _
  simp [holdEntry_eq, entryFields, takeGain]

theorem takePalette_holds : Holds .palette takePalette PaletteEntry.bytes := by
  intro b _
  simp [holdEntry_eq, entryFields, takePalette, PaletteEntry.bytes, Bool.or_assoc]

theorem takeMapEntry_holds : Holds .map takeMapEntry (fun e => leBytes 2 e.toNat) := by
  intro b hlen
  have hwhole : (field 16 b).toNat = fieldAt b 0 2 := by
    have hfield : fieldAt b 0 2 = leNat b := by
      rw [fieldAt, List.drop_zero, List.take_of_length_le (by rw [hlen]; decide)]
    rw [field, BitVec.toNat_ofNat, ← hfield]
    exact Nat.mod_eq_of_lt (fieldAt_lt b 0 2)
  simp [holdEntry_eq, entryFields, takeField_full 2, takeMapEntry, hwhole]

/-! ### Entries of the fault table (R153) -/

theorem takeField_flag (v : Nat) : takeField 0 1 v = (onCode (v != 0), decide (1 < v)) := by
  unfold takeField clampNat onCode
  rcases v with _ | _ | v
  · rfl
  · rfl
  · simp

theorem Notify.code_ofCode (v : Nat) : (Notify.ofCode v).code = if 3 < v then 0 else v := by
  rcases v with _ | _ | _ | _ | v
  · rfl
  · rfl
  · rfl
  · rfl
  · exact (if_pos (by omega)).symm

theorem Actions.code_ofByte (v : Nat) : (Actions.ofByte v).code = v % 32 := by
  have hbit (i : Nat) : onCode (v.testBit i) = v / 2 ^ i % 2 := by
    rw [Nat.testBit_eq_decide_div_mod_eq, onCode]
    split <;> simp_all
  simp only [Actions.code, Actions.ofByte, hbit]
  omega

/-- The action bits of a byte are its five lowest. -/
theorem actionBits_takes (v : Nat) : (⟨1, (· % 32), true⟩ : EntryField).takes v = (v % 32, decide (31 < v)) := by
  simp only [EntryField.takes, Bool.true_and, Prod.mk.injEq, true_and, decide_eq_decide]
  omega

theorem takeFault_holds : Holds .fault takeFault FaultEntry.bytes := by
  intro b _
  simp [holdEntry_eq, entryFields, actionBits_takes, takeField_flag, Notify.code_ofCode,
    Actions.code_ofByte, takeFault, FaultEntry.bytes, Bool.or_assoc]

/-! ### Glyphs (R205) -/

/-- Equal fields are held one behind the other. -/
theorem holdAt_replicate (f : EntryField) (n : Nat) (b : List Byte) (o : Nat) :
    holdAt o (List.replicate n f) b =
      ((List.range n).flatMap (fun r => leBytes f.width (f.takes (fieldAt b (o + f.width * r) f.width)).1),
        (List.range n).any (fun r => (f.takes (fieldAt b (o + f.width * r) f.width)).2)) := by
  induction n generalizing o with
  | zero => rfl
  | succ n ih =>
    rw [List.replicate_succ, holdAt_cons, ih, List.range_succ_eq_map]
    simp only [List.flatMap_cons, List.flatMap_map, List.any_cons, List.any_map, Function.comp_def, Nat.mul_zero,
      Nat.add_zero, Nat.mul_succ, Nat.add_assoc, Nat.add_comm f.width]

theorem takeGlyph_holds : Holds .glyph takeGlyph Glyph.bytes := by
  intro b _
  simp only [holdEntry_eq, entryFields, holdAt_replicate, EntryField.takes, takeGlyph, Glyph.bytes, Nat.zero_add,
    Bool.false_and]
  rw [Prod.mk.injEq]
  refine ⟨List.flatMap_congr fun r hr => ?_, List.any_eq_false.mpr (by simp)⟩
  have hrow : (List.range 16)[r]? = some r := List.getElem?_range (List.mem_range.mp hr)
  simp [List.getD_eq_getElem?_getD, hrow]

/-! ### Display entries (R137) -/

/-- A byte of a text: a letter within its length, a space behind it. -/
def textField (letters j : Nat) : EntryField :=
  if j < letters then .range 1 32 127 else ⟨1, fun _ => 32, false⟩

/-- A text is held letter by letter within its length, with spaces behind it. -/
theorem holdFields_text (letters : Nat) (b : List Byte) (i : Nat) :
    holdFields ((List.range' i b.length).map (textField letters)) b =
      ((((b.map BitVec.toNat).take (letters - i)).map (clampNat 32 127) ++
          List.replicate (b.length - (letters - i)) 32).flatMap (leBytes 1),
        ((b.map BitVec.toNat).take (letters - i)).any (fun v => decide (clampNat 32 127 v ≠ v))) := by
  induction b generalizing i with
  | nil => simp [holdFields]
  | cons x rest ih =>
    have hx : fieldAt (x :: rest) 0 1 = x.toNat := by simp [fieldAt, leNat]
    have htail : holdAt 1 ((List.range' (i + 1) rest.length).map (textField letters)) (x :: rest) = _ := ih (i + 1)
    change holdAt 0 _ _ = _
    rw [List.length_cons, List.range'_succ, List.map_cons, holdAt_cons]
    by_cases hi : i < letters
    · obtain ⟨k, hk⟩ : ∃ k, letters - i = k + 1 := ⟨letters - i - 1, by omega⟩
      have hk' : letters - (i + 1) = k := by omega
      have hfield : textField letters i = .range 1 32 127 := if_pos hi
      rw [hk'] at htail
      simp [hfield, hx, htail, hk, takeField]
    · have hk : letters - i = 0 := by omega
      have hk' : letters - (i + 1) = 0 := by omega
      have hfield : textField letters i = ⟨1, fun _ => 32, false⟩ := if_neg hi
      rw [hk'] at htail
      simp [hfield, htail, hk, EntryField.takes, List.replicate_succ]

theorem holdAt_unused (n : Nat) (b : List Byte) (o : Nat) :
    holdAt o (List.replicate n (.unused 1)) b = ((List.replicate n 255).flatMap (leBytes 1), false) := by
  rw [holdAt_replicate]
  simp [EntryField.unused_takes, List.flatMap_def, List.map_const', List.map_replicate]

@[simp] theorem Condition.code_ofCode (v : Nat) : (Condition.ofCode v).code = if 5 < v then 0 else v := by
  rcases v with _ | _ | _ | _ | _ | _ | v
  · rfl
  · rfl
  · rfl
  · rfl
  · rfl
  · rfl
  · exact (if_pos (by omega)).symm

@[simp] theorem ValueSource.code_ofCode (v : Nat) : (ValueSource.ofCode v).code = if 5 < v then 0 else v := by
  rcases v with _ | _ | _ | _ | _ | _ | v
  · rfl
  · rfl
  · rfl
  · rfl
  · rfl
  · rfl
  · exact (if_pos (by omega)).symm

@[simp] theorem flagCode_ofCode (v : Nat) : flagCode (v != 1) = if 1 < v then 0 else v := by
  rcases v with _ | _ | v
  · rfl
  · rfl
  · exact (if_pos (by omega)).symm

@[simp] theorem trackCode_ofCode (v : Nat) :
    (if 3 < v then Four.i1 else Four.ofIdx v).idx = if 3 < v then 0 else v := by
  rcases v with _ | _ | _ | _ | v
  · rfl
  · rfl
  · rfl
  · rfl
  · rw [if_pos (by omega), if_pos (by omega)]
    rfl

/-- A field that the kinds named use. -/
def usedBy (kinds : List Nat) (kind : Nat) (f : EntryField) : EntryField :=
  if kind ∈ kinds then f else .unused f.width

@[simp] theorem usedBy_width (kinds : List Nat) (kind : Nat) (f : EntryField) :
    (usedBy kinds kind f).width = f.width := by
  unfold usedBy
  split <;> rfl

@[simp] theorem usedBy_takes (kinds : List Nat) (kind : Nat) (f : EntryField) (v : Nat) :
    (usedBy kinds kind f).takes v = if kind ∈ kinds then f.takes v else (256 ^ f.width - 1, false) := by
  unfold usedBy
  split
  · rfl
  · exact EntryField.unused_takes ..

/-- The text of a display entry. -/
def textLayout (kind letters : Nat) : List EntryField :=
  (List.range 24).map (fun j => usedBy [3] kind (textField letters j))

/-- The layout of a display entry, by its kind and the length of its text. -/
def displayLayout (k letters : Nat) : List EntryField :=
  let any := [1, 2, 3, 4, 5, 6, 7]
  .code 7 :: usedBy any k (.range 2 0 959) :: usedBy any k (.range 2 0 539) :: usedBy any k (.range 2 0 960) ::
    usedBy any k (.range 2 0 540) :: usedBy any k (.range 1 0 15) :: usedBy [3, 4, 5, 7] k (.range 1 0 15) ::
    usedBy any k (.code 5) :: usedBy any k (.code 1) :: usedBy [4, 7] k (.code (if k = 4 then 3 else 5)) ::
    usedBy [2] k (.range 1 1 8) :: usedBy [3] k (.range 1 0 24) :: textLayout k letters

/-- A text that the kind does not use reads back with every bit set. -/
@[simp] theorem textLayout_of_other {kind : Nat} (h : kind ≠ 3) (letters : Nat) (b : List Byte) (o : Nat) :
    holdAt o (textLayout kind letters) b = ((List.replicate 24 255).flatMap (leBytes 1), false) := by
  have hone (j : Nat) : usedBy [3] kind (textField letters j) = .unused 1 := by
    rw [usedBy, if_neg (by simpa using h), textField]
    split <;> rfl
  simp only [textLayout, hone, List.map_const', List.length_range, holdAt_unused]

/-- The text of kind TEXT is held as it is taken, spaces behind it. -/
theorem textLayout_of_text {letters : Nat} {b : List Byte} (h : b.length = 24) :
    let taken := takeText letters (b.map BitVec.toNat)
    let held := holdFields (textLayout 3 letters) b
    held.1 = (taken.1 ++ List.replicate (24 - taken.1.length) 32).flatMap (leBytes 1) ∧
    taken.1.length = (takeField 0 24 letters).1 ∧
    taken.2 = ((takeField 0 24 letters).2 || held.2) := by
  have hbounded : takeField 0 24 letters = (min letters 24, decide (24 < letters)) := by
    have hclamp : clampNat 0 24 letters = min letters 24 := by
      unfold clampNat
      split
      · omega
      · split <;> omega
    have hflag : min letters 24 ≠ letters ↔ 24 < letters := by omega
    simp only [takeField, hclamp, hflag]
  have hused : (b.map BitVec.toNat).take (min letters 24) = (b.map BitVec.toNat).take letters := by
    rw [List.take_eq_take_iff, List.length_map, h, Nat.min_assoc, Nat.min_self]
  have hlayout : textLayout 3 letters = (List.range' 0 24).map (textField letters) := by
    simp [textLayout, usedBy, List.range_eq_range']
  have htext := holdFields_text letters b 0
  rw [h, Nat.sub_zero, ← hlayout] at htext
  have hlength : (takeText letters (b.map BitVec.toNat)).1.length = min letters 24 := by simp [takeText, h]
  have hspaces : 24 - min letters 24 = 24 - letters := by omega
  dsimp only
  refine ⟨?_, ?_, ?_⟩
  · rw [hlength, hspaces, htext, takeText, hused]
  · rw [hlength, hbounded]
  · rw [htext, takeText, hbounded, hused]

/-- A display entry is held by its kind's layout. -/
theorem holdEntry_display {b : List Byte} {k : Nat} (hk : fieldAt b 0 1 = k) :
    holdEntry .display b = holdAt 0 (displayLayout k (fieldAt b 15 1)) b := by
  rw [← hk]
  rfl

theorem takeDisplay_of_kind {b : List Byte} {k : Nat} (hk : fieldAt b 0 1 = k) :
    takeDisplay b = { DisplayFields.ofBytes b with kind := k }.take := by
  rw [← hk]
  rfl

theorem takeDisplay_of_text {b : List Byte} (hlen : b.length = 40) (hk : fieldAt b 0 1 = 3) :
    holdEntry .display b = ((takeDisplay b).1.fields.bytes, (takeDisplay b).2) := by
  obtain ⟨htext, hlength, hflag⟩ := textLayout_of_text (letters := fieldAt b 15 1) (b := b.drop 16)
    (by rw [List.length_drop, hlen])
  change (holdAt 16 _ b).1 = _ at htext
  change _ = (_ || (holdAt 16 _ b).2) at hflag
  rw [holdEntry_display hk, takeDisplay_of_kind hk]
  simp [displayLayout, hk, htext, hlength, hflag, Bool.or_assoc, DisplayFields.take, DisplayFields.base,
    DisplayFields.ofBytes, DisplayEntry.fields, DisplayFields.bytes, DisplayEntry.kindCode, -List.reduceReplicate,
    -List.map_drop]
  ac_rfl

theorem takeDisplay_holds : Holds .display takeDisplay (fun e => e.fields.bytes) := by
  intro b hlen
  beta_reduce
  generalize hk : fieldAt b 0 1 = k
  by_cases htext : k = 3
  · exact takeDisplay_of_text hlen (hk.trans htext)
  rw [holdEntry_display hk, takeDisplay_of_kind hk]
  rcases k with _ | _ | _ | _ | _ | _ | _ | _ | k
  · simp [displayLayout, hk, DisplayFields.take, DisplayEntry.fields, DisplayFields.bytes, DisplayEntry.kindCode,
      -List.reduceReplicate]
  · simp [displayLayout, hk, Bool.or_assoc, DisplayFields.take, DisplayFields.base, DisplayFields.ofBytes,
      DisplayEntry.fields, DisplayFields.bytes, DisplayEntry.kindCode, -List.reduceReplicate]
  · simp [displayLayout, hk, Bool.or_assoc, DisplayFields.take, DisplayFields.base, DisplayFields.ofBytes,
      DisplayEntry.fields, DisplayFields.bytes, DisplayEntry.kindCode, -List.reduceReplicate]
  · exact absurd rfl htext
  · simp [displayLayout, hk, Bool.or_assoc, DisplayFields.take, DisplayFields.base, DisplayFields.ofBytes,
      DisplayEntry.fields, DisplayFields.bytes, DisplayEntry.kindCode, -List.reduceReplicate]
    ac_rfl
  · simp [displayLayout, hk, Bool.or_assoc, DisplayFields.take, DisplayFields.base, DisplayFields.ofBytes,
      DisplayEntry.fields, DisplayFields.bytes, DisplayEntry.kindCode, -List.reduceReplicate]
    ac_rfl
  · simp [displayLayout, hk, Bool.or_assoc, DisplayFields.take, DisplayFields.base, DisplayFields.ofBytes,
      DisplayEntry.fields, DisplayFields.bytes, DisplayEntry.kindCode, -List.reduceReplicate]
  · simp [displayLayout, hk, Bool.or_assoc, DisplayFields.take, DisplayFields.base, DisplayFields.ofBytes,
      DisplayEntry.fields, DisplayFields.bytes, DisplayEntry.kindCode, -List.reduceReplicate]
    ac_rfl
  · simp [displayLayout, hk, DisplayFields.take, DisplayEntry.fields, DisplayFields.bytes, DisplayEntry.kindCode,
      -List.reduceReplicate]

end Sys2Proof.Machine
end

section
/-! PROOF. WRITE and READ of tables (9.4, 9.5). -/

namespace Sys2Proof.Machine

variable {s : State} {seq tag : Byte} {src : Source} {n : Nat}

/-! ### Entries read back -/

theorem length_of_mem_pieces {width m : Nat} {data e : List Byte} (hdata : data.length = m * width)
    (he : e ∈ pieces width m data) : e.length = width := by
  induction m generalizing data with
  | zero => cases he
  | succ m ih =>
    rw [Nat.succ_mul] at hdata
    rcases List.mem_cons.mp he with rfl | he
    · rw [List.length_take]
      omega
    · exact ih (by rw [List.length_drop]; omega) he

/-- Entries replaced read back as written. -/
theorem replaceAt_read {α : Type} {xs es : List α} {c : Nat} (hc : c ≤ xs.length) :
    ((replaceAt xs c es).drop c).take es.length = es := by
  have hlen : (xs.take c).length = c := by rw [List.length_take]; omega
  rw [replaceAt, List.append_assoc, List.drop_left' hlen, List.take_left]

/-- Entries outside those replaced read as before. -/
theorem replaceAt_read_other {α : Type} {xs es : List α} {c c' m : Nat} (hc : c ≤ xs.length)
    (hapart : c' + m ≤ c ∨ c + es.length ≤ c') :
    ((replaceAt xs c es).drop c').take m = (xs.drop c').take m := by
  have hlen : (xs.take c).length = c := by rw [List.length_take]; omega
  rcases hapart with hbefore | hafter
  · rw [replaceAt, List.append_assoc, List.drop_append_of_le_length (by omega),
      List.take_append_of_le_length (by rw [List.length_drop]; omega), List.drop_take, List.take_take,
      Nat.min_eq_left (by omega)]
  · have hheld : (xs.take c ++ es).length = c + es.length := by rw [List.length_append, hlen]
    rw [replaceAt, List.drop_append, List.drop_eq_nil_of_le (by omega), List.nil_append, List.drop_drop, hheld]
    congr 2
    omega

/-- What a WRITE of a table holds and whether it corrected a field, by the table's layout (R186). -/
theorem takeAll_holds {t : TableId} {α : Type} {take : List Byte → α × Bool} {bytes : α → List Byte}
    (h : Holds t take bytes) {m : Nat} {data : List Byte} (hdata : data.length = m * t.entryBytes) :
    let entries := (pieces t.entryBytes m data).map (holdEntry t)
    let taken := takeAll take (pieces t.entryBytes m data)
    taken.1.flatMap bytes = entries.flatMap Prod.fst ∧ taken.2 = entries.any Prod.snd := by
  have hone : ∀ e ∈ pieces t.entryBytes m data, holdEntry t e = (bytes (take e).1, (take e).2) :=
    fun e he => h e (length_of_mem_pieces hdata he)
  dsimp only [takeAll]
  rw [List.flatMap_map, List.flatMap_map, List.any_map]
  constructor
  · exact List.flatMap_congr fun e he => by rw [hone e he]
  · rw [Bool.eq_iff_iff, List.any_eq_true, List.any_eq_true]
    exact exists_congr fun e => and_congr_right fun he => by rw [Function.comp_apply, hone e he]

/-! ### A table written (R186) -/

/-- A WRITE of a table touches that table, and what its owner does at once: the map's count, the flag of an
edited list, the attention line. -/
theorem State.writeTable_eq (u : State) (k : TableId) (c : Nat) (bs : List (List Byte)) :
    let v := (u.writeTable k c bs).1
    v = { u with
      mgmt :=
        { u.mgmt with
          map := v.mgmt.map
          mapCount := if k = .map then max u.mgmt.mapCount (c + bs.length) else u.mgmt.mapCount }
      zoom := { u.zoom with lens := v.zoom.lens, curve := v.zoom.curve, presets := v.zoom.presets }
      audio := { u.audio with gainTable := v.audio.gainTable }
      vf :=
        { u.vf with
          editList := v.vf.editList, palette := v.vf.palette, glyphs := v.vf.glyphs
          editChanged := decide (k = .display) || u.vf.editChanged }
      sup := { u.sup with table := v.sup.table, attention := v.sup.attention } } := by
  cases k with
  | map => 
    dsimp only [State.writeTable, Management.putMap]
    rw [takeAll_length]
    rfl
  | lens | speedCurve | presets | gain | display | palette | glyph | fault => rfl

/-- A table of which entries were replaced by a WRITE's: those are held by the layout, the others as they
were. -/
theorem replaceAt_holds {k : TableId} {α : Type} {take : List Byte → α × Bool} {bytes : α → List Byte}
    (h : Holds k take bytes) {m c : Nat} {data : List Byte} (hdata : data.length = m * k.entryBytes) {xs : List α}
    (hc : c ≤ xs.length) :
    let entries := (pieces k.entryBytes m data).map (holdEntry k)
    let taken := takeAll take (pieces k.entryBytes m data)
    let ys := replaceAt xs c taken.1
    ((ys.drop c).take m).flatMap bytes = entries.flatMap Prod.fst ∧ taken.2 = entries.any Prod.snd ∧
    ∀ c' m', c' + m' ≤ c ∨ c + m ≤ c' →
      ((ys.drop c').take m').flatMap bytes = ((xs.drop c').take m').flatMap bytes := by
  obtain ⟨hbytes, hflag⟩ := takeAll_holds h hdata
  intro entries taken ys
  have hcount : taken.1.length = m := by rw [takeAll_length, pieces_length]
  have hread := replaceAt_read (es := taken.1) hc
  rw [hcount] at hread
  refine ⟨(congrArg (List.flatMap bytes) hread).trans hbytes, hflag, fun c' m' hapart => ?_⟩
  exact congrArg (List.flatMap bytes) (replaceAt_read_other hc (by rwa [hcount]))

theorem State.writeTable_holds {u : State} (hs : u.tablesSound) {k : TableId} {c m : Nat} {data : List Byte}
    (hdata : data.length = m * k.entryBytes) (hfits : u.writeFits k c m = true) :
    let entries := (pieces k.entryBytes m data).map (holdEntry k)
    let r := u.writeTable k c (pieces k.entryBytes m data)
    r.1.readTable k c m = entries.flatMap Prod.fst ∧ r.2 = entries.any Prod.snd ∧
    ∀ c' m', c' + m' ≤ c ∨ c + m ≤ c' → r.1.readTable k c' m' = u.readTable k c' m' := by
  obtain ⟨⟨-, hcurve, hgain, hglyphs, hfault, hpalette⟩, ⟨hpresets, hdisplay⟩, -, hmap, hcount, -⟩ := hs
  have hcapacity := State.writeFits_capacity hfits
  cases k with
  | lens =>
    have hc : c ≤ u.zoom.lens.length := by
      simp only [State.writeFits, Bool.and_eq_true, decide_eq_true_eq] at hfits
      exact hfits.2
    exact replaceAt_holds takeLens_holds hdata hc
  | speedCurve => exact replaceAt_holds takeSpeed_holds hdata (hcurve ▸ Nat.le_of_add_right_le hcapacity)
  | presets => exact replaceAt_holds takePreset_holds hdata (hpresets ▸ Nat.le_of_add_right_le hcapacity)
  | gain => exact replaceAt_holds takeGain_holds hdata (hgain ▸ Nat.le_of_add_right_le hcapacity)
  | display => exact replaceAt_holds takeDisplay_holds hdata (hdisplay ▸ Nat.le_of_add_right_le hcapacity)
  | palette => exact replaceAt_holds takePalette_holds hdata (hpalette ▸ Nat.le_of_add_right_le hcapacity)
  | glyph => exact replaceAt_holds takeGlyph_holds hdata (hglyphs ▸ Nat.le_of_add_right_le hcapacity)
  | fault => exact replaceAt_holds takeFault_holds hdata (hfault ▸ Nat.le_of_add_right_le hcapacity)
  | map => exact replaceAt_holds takeMapEntry_holds hdata (hmap ▸ Nat.le_of_add_right_le hcapacity)

/-- A WRITE of one table leaves what the others read. -/
theorem State.writeTable_reads_other (u : State) {k k' : TableId} (h : k' ≠ k) (c : Nat) (bs : List (List Byte))
    (c' m' : Nat) : (u.writeTable k c bs).1.readTable k' c' m' = u.readTable k' c' m' := by
  cases k <;> cases k' <;> first | rfl | exact absurd rfl h

/-- The lens table grows to the last entry written (R4). -/
theorem replaceAt_length_grown {α : Type} {xs es : List α} {c : Nat} (hc : c ≤ xs.length) :
    (replaceAt xs c es).length = max xs.length (c + es.length) := by
  simp only [replaceAt, List.length_append, List.length_take, List.length_drop]
  omega

theorem State.writeTable_lens {u : State} {k : TableId} {c : Nat} {bs : List (List Byte)}
    (hfits : u.writeFits k c bs.length = true) :
    (u.writeTable k c bs).1.zoom.lens.length =
      if k = .lens then max u.zoom.lens.length (c + bs.length) else u.zoom.lens.length := by
  cases k with
  | lens =>
    have hc : c ≤ u.zoom.lens.length := by
      simp only [State.writeFits, Bool.and_eq_true, decide_eq_true_eq] at hfits
      exact hfits.2
    exact (replaceAt_length_grown hc).trans (by rw [takeAll_length]; rfl)
  | map | speedCurve | presets | gain | display | palette | glyph | fault => rfl

/-- Entries of the speed curve become set when they are written (R8). -/
theorem State.writeTable_curve {u : State} {c : Nat} (hc : c ≤ u.zoom.curve.length) {bs : List (List Byte)} :
    ∀ v ∈ ((u.writeTable .speedCurve c bs).1.zoom.curve.drop c).take bs.length, v.isSome = true := by
  have hread := replaceAt_read (es := (takeAll takeSpeed bs).1) hc
  rw [takeAll_length] at hread
  intro v hv
  change v ∈ ((replaceAt u.zoom.curve c (takeAll takeSpeed bs).1).drop c).take bs.length at hv
  rw [hread] at hv
  obtain ⟨b, -, rfl⟩ := List.mem_map.mp hv
  rfl

/-- The attention line is judged again where table 8 is written, and stands elsewhere (R161). -/
theorem State.writeTable_attention (u : State) (k : TableId) (c : Nat) (bs : List (List Byte)) :
    let v := (u.writeTable k c bs).1
    (k ≠ .fault → v.sup.attention = u.sup.attention) ∧
    (k = .fault → (v.sup.attention = true ↔
      ∃ g, (u.sup.group g).summary = true ∧ (v.sup.entry g).notify.hasLine = true)) := by
  constructor
  · intro hk
    cases k with
    | fault => exact absurd rfl hk
    | map | lens | speedCurve | presets | gain | display | palette | glyph => rfl
  · rintro rfl
    exact Supervision.judgeAttention_iff _

/-! ### The checks of WRITE and READ (R182, R186, R187) -/

theorem State.modeRefuses_iff (u : State) (k : TableId) :
    u.modeRefuses k = true ↔ (k = .lens ∨ k = .speedCurve) ∧ u.zoom.mode = .run := by
  unfold State.modeRefuses
  split
  · next hmode => simp [hmode]
  · next hmode => simp [hmode]
  · next hlens hcurve =>
    refine iff_of_false (by decide) ?_
    rintro ⟨rfl | rfl, hrun⟩
    · exact hlens rfl hrun
    · exact hcurve rfl hrun

theorem State.writeFits_iff (u : State) (k : TableId) (c m : Nat) :
    u.writeFits k c m = false ↔
      k.capacity < c + m ∨ (k = .lens ∧ u.zoom.lens.length < c) ∨ (k = .map ∧ u.mgmt.mapCount < c) := by
  cases k <;> simp [State.writeFits, or_iff_not_imp_left]

/-- A cursor moved and a reply handed leave what the tables read. -/
theorem State.readTable_answered (v : State) (cur : Cursor) (body : LinkCtl) (k : TableId) (c m : Nat) :
    { v.setCursor src cur with body := body }.readTable k c m = v.readTable k c m := by
  cases src <;> cases k <;> rfl

/-- A refusal is a reply without data (R203). -/
theorem State.reply_refused (u : State) {st : Status} (h : st.taken = false) (d : List Byte) :
    u.reply tag st d = { u with body := u.body.hand (.reply tag st []) } := by
  rw [State.reply_eq, h]
  rfl

/-- A WRITE that fits is taken: the entries are held by their layout, the cursor moves behind them, and
nothing else changes but what the table's owner does at once (R186). -/
theorem State.doWrite_taken {u : State} (hs : u.tablesSound) {k : TableId} {c m : Nat} {data : List Byte}
    (hcur : u.mgmt.cursor src = some ⟨k, c⟩) (hm : m ≠ 0) (hdata : data.length = m * k.entryBytes)
    (howner : ¬(src = .panel ∧ k = .map)) (hallowed : u.permits src [k.guard] = true)
    (hmode : u.modeRefuses k = false) (hfits : u.writeFits k c m = true) :
    let entries := (pieces k.entryBytes m data).map (holdEntry k)
    u.doWrite src tag m data =
      let v := (u.writeTable k c (pieces k.entryBytes m data)).1
      { v.setCursor src ⟨k, c + m⟩ with
        body := u.body.hand (.reply tag
          (if entries.any Prod.snd = true then .clamped else .ok) (leBytes 2 (c + m))) } := by
  obtain ⟨-, hflag, -⟩ := State.writeTable_holds hs hdata hfits
  have hentries : u.writeEntries src ⟨k, c⟩ m data =
      ((u.writeTable k c (pieces k.entryBytes m data)).1.setCursor src ⟨k, c + m⟩,
        takenStatus (u.writeTable k c (pieces k.entryBytes m data)).2, leBytes 2 (c + m)) := by
    rw [State.writeEntries, hmode, hfits]
    rfl
  have hbody : (u.writeTable k c (pieces k.entryBytes m data)).1.body = u.body := by
    rw [State.writeTable_eq]
  rw [State.doWrite, if_neg hm, hcur]
  dsimp only
  rw [if_neg (not_not.mpr hdata), if_neg howner, State.judge_of_permits hallowed, hentries, hflag, State.reply_eq]
  dsimp only [State.setCursor]
  rw [hbody]
  unfold takenStatus
  split <;> rfl

/-- What a WRITE taken changes: the table, what its owner does at once, the cursor and the reply. -/
theorem State.written_eq (u : State) (k : TableId) (c : Nat) (bs : List (List Byte)) (src : Source) (cur : Cursor)
    (body : LinkCtl) :
    let t : State := { (u.writeTable k c bs).1.setCursor src cur with body := body }
    t = { u with
      mgmt := Management.setCursor
        { u.mgmt with
          map := t.mgmt.map
          mapCount := if k = .map then max u.mgmt.mapCount (c + bs.length) else u.mgmt.mapCount } src cur
      zoom := { u.zoom with lens := t.zoom.lens, curve := t.zoom.curve, presets := t.zoom.presets }
      audio := { u.audio with gainTable := t.audio.gainTable }
      vf :=
        { u.vf with
          editList := t.vf.editList, palette := t.vf.palette, glyphs := t.vf.glyphs
          editChanged := decide (k = .display) || u.vf.editChanged }
      sup := { u.sup with table := t.sup.table, attention := t.sup.attention }
      body := body } := by
  have hwritten := congrArg (fun v : State => { v.setCursor src cur with body := body }) (State.writeTable_eq u k c bs)
  cases src with
  | system => exact hwritten
  | panel => exact hwritten

/-- Settles O56. -/
theorem writeAndRead : Obligations.WriteAndRead := by
  intro s seq src tag m n h u replied denied
  have hzero : m.toNat = 0 ↔ m = 0#16 := ⟨fun h0 => BitVec.eq_of_toNat_eq h0, fun h0 => by rw [h0]; rfl⟩
  have hreplied (st : Status) (hst : st.taken = false) (d : List Byte) : .next (u.reply tag st d) = replied st :=
    congrArg _ (State.reply_refused u hst d)
  refine ⟨fun data => ?_, ?_⟩
  · split
    · next hlong => exact congrArg _ (if_neg (Nat.not_le_of_lt hlong))
    next hroom =>
    have hexec : exec (.write seq src tag m data) s = .next (u.doWrite src tag m.toNat data) :=
      (congrArg _ (if_pos (Nat.le_of_not_lt hroom))).trans (congrArg _ (State.command_of_takes h))
    rw [hexec]
    split
    · next hm =>
      rw [State.doWrite, if_pos (hzero.mpr hm)]
      exact hreplied _ rfl _
    next hm =>
    have hm : m.toNat ≠ 0 := fun h0 => hm (hzero.mp h0)
    cases hcur : s.mgmt.cursor src with
    | none =>
      have hcur : u.mgmt.cursor src = none := hcur
      dsimp only
      rw [State.doWrite, if_neg hm, hcur]
      exact hreplied _ rfl _
    | some cur =>
      obtain ⟨k, c⟩ := cur
      have hcur : u.mgmt.cursor src = some ⟨k, c⟩ := hcur
      dsimp only
      split
      · next hform =>
        rw [State.doWrite, if_neg hm, hcur]
        dsimp only
        rw [if_pos hform]
        exact hreplied _ rfl _
      next hform =>
      have hrun : u.doWrite src tag m.toNat data =
          if src = .panel ∧ k = .map then u.countDenied.reply tag .denied []
          else u.judge src tag [k.guard] (fun s => s.writeEntries src ⟨k, c⟩ m.toNat data) := by
        rw [State.doWrite, if_neg hm, hcur]
        exact if_neg hform
      have hdenied : .next (u.countDenied.reply tag .denied []) = denied :=
        congrArg _ (State.reply_refused u.countDenied rfl _)
      split
      · next hnot =>
        rw [hrun]
        split
        · exact hdenied
        · next howner =>
          have hforbidden : u.permits src [k.guard] = false := hnot.resolve_right howner
          rw [State.judge_of_denied hforbidden]
          exact hdenied
      next hnot =>
      obtain ⟨hallowed, howner⟩ := not_or.mp hnot
      have hallowed : u.permits src [k.guard] = true := Bool.not_eq_false _ ▸ hallowed
      rw [if_neg howner, State.judge_of_permits hallowed] at hrun
      split
      · next hmode =>
        rw [hrun, State.writeEntries, if_pos ((State.modeRefuses_iff u k).mpr hmode)]
        exact hreplied _ rfl _
      next hmode =>
      have hmode : u.modeRefuses k = false := by
        rw [← Bool.not_eq_true, State.modeRefuses_iff]
        exact hmode
      split
      · next hlong =>
        have hfits : u.writeFits k c m.toNat = false := (State.writeFits_iff u k c m.toNat).mpr hlong
        rw [hrun, State.writeEntries, hmode]
        simp only [hfits, Bool.not_false, Bool.false_eq_true, if_false, if_true]
        exact hreplied _ rfl _
      next hlong =>
      have hfits : u.writeFits k c m.toNat = true := by
        rw [← Bool.not_eq_false, State.writeFits_iff]
        exact hlong
      intro hsound
      have hdata : data.length = m.toNat * k.entryBytes := not_not.mp hform
      have hpieces : (pieces k.entryBytes m.toNat data).length = m.toNat := pieces_length ..
      have hsound : u.tablesSound := hsound
      obtain ⟨hread, -, hapart⟩ := State.writeTable_holds hsound hdata hfits
      have hlens := State.writeTable_lens (bs := pieces k.entryBytes m.toNat data) (hpieces.symm ▸ hfits)
      rw [hpieces] at hlens
      refine ⟨_, congrArg _ (State.doWrite_taken hsound hcur hm hdata howner hallowed hmode hfits),
        ?_, ?_, ?_, ?_, ?_, ?_, ?_⟩
      · have hwritten := State.written_eq u k c (pieces k.entryBytes m.toNat data) src ⟨k, c + m.toNat⟩
        rw [hpieces] at hwritten
        exact hwritten _
      · exact (State.readTable_answered ..).trans hread
      · intro k' c' m' hother
        refine (State.readTable_answered ..).trans ?_
        by_cases hk : k' = k
        · subst hk
          exact hapart c' m' (hother.resolve_left (fun h => h rfl))
        · exact State.writeTable_reads_other u hk c _ c' m'
      · exact hlens
      · rintro rfl
        have hc : c ≤ u.zoom.curve.length := by
          obtain ⟨⟨-, hcurve, -⟩, -⟩ := hsound
          exact hcurve ▸ Nat.le_of_add_right_le (State.writeFits_capacity hfits)
        have hset := State.writeTable_curve hc (bs := pieces TableId.speedCurve.entryBytes m.toNat data)
        rw [hpieces] at hset
        exact hset
      · exact (State.writeTable_attention u k c _).1
      · exact (State.writeTable_attention u k c _).2
  · have hexec : exec (.read seq src tag m) s = .next (u.doRead src tag m.toNat) :=
      congrArg _ (State.command_of_takes h)
    rw [hexec]
    split
    · next hm =>
      rw [State.doRead, if_pos (hzero.mpr hm)]
      exact hreplied _ rfl _
    next hm =>
    have hm : m.toNat ≠ 0 := fun h0 => hm (hzero.mp h0)
    cases hcur : s.mgmt.cursor src with
    | none =>
      have hcur : u.mgmt.cursor src = none := hcur
      dsimp only
      rw [State.doRead, if_neg hm, hcur]
      exact hreplied _ rfl _
    | some cur =>
      obtain ⟨k, c⟩ := cur
      have hcur : u.mgmt.cursor src = some ⟨k, c⟩ := hcur
      dsimp only
      rw [State.doRead, if_neg hm, hcur]
      dsimp only
      split
      · next hforbidden =>
        have hforbidden : u.permits src [k.guard] = false := hforbidden
        rw [State.judge_of_denied hforbidden]
        exact congrArg _ (State.reply_refused u.countDenied rfl _)
      next hallowed =>
      have hallowed : u.permits src [k.guard] = true := Bool.not_eq_false _ ▸ hallowed
      rw [State.judge_of_permits hallowed]
      split
      · next hlong =>
        have hlong : u.tableEnd k < c + m.toNat ∨ replyRoom < m.toNat * k.entryBytes := hlong
        rw [State.readEntries, if_pos hlong]
        exact hreplied _ rfl _
      · next hfits =>
        have hfits : ¬(u.tableEnd k < c + m.toNat ∨ replyRoom < m.toNat * k.entryBytes) := hfits
        rw [State.readEntries, if_neg hfits, State.reply_eq]
        rfl

end Sys2Proof.Machine
end

section
/-! PROOF. ESSENCE taken: the blocks of the unit under assembly, and the bytes stored (R78, R80, R82). -/

namespace Sys2Proof.Machine

variable {s : State} {r r' : Recorder} {id : Nat} {u v : RecordUnit}

/-! ### A unit changed (R76) -/

/-- Two recorders that differ in one unit at most, among what essence can change. -/
structure Recorder.SameBut (id : Nat) (r r' : Recorder) : Prop where
  others : ∀ j, j ≠ id → r'.store.find j = r.store.find j
  free : r'.store.freeCount = r.store.freeCount
  ring : r'.ring = r.ring
  evicted : r'.ringEvicted = r.ringEvicted
  dropped : r'.droppedUnits = r.droppedUnits
  discarded : r'.essenceDiscarded = r.essenceDiscarded

theorem Recorder.SameBut.refl (id : Nat) (r : Recorder) : r.SameBut id r := ⟨fun _ _ => rfl, rfl, rfl, rfl, rfl, rfl⟩

theorem Recorder.SameBut.trans {r'' : Recorder} (h : r.SameBut id r') (h' : r'.SameBut id r'') : r.SameBut id r'' :=
  ⟨fun j hj => (h'.others j hj).trans (h.others j hj), h'.free.trans h.free, h'.ring.trans h.ring,
    h'.evicted.trans h.evicted, h'.dropped.trans h.dropped, h'.discarded.trans h.discarded⟩

/-- A unit modified under its name is the unit changed, and everything else as it was. -/
theorem Recorder.modifyUnit_told {f : RecordUnit → RecordUnit} (hf : ∀ u, (f u).id = u.id) (h : r.store.find id = some u) :
    (r.modifyUnit id f).store.find id = some (f u) ∧ r.SameBut id (r.modifyUnit id f) :=
  ⟨UnitStore.find_modify_same hf h, fun _ hj => UnitStore.find_modify_other hf hj, rfl, rfl, rfl, rfl, rfl⟩

theorem RecordUnit.setStream_id (u : RecordUnit) (st : Stream) (v : UnitStream) : (u.setStream st v).id = u.id := by
  cases st <;> rfl

theorem Recorder.putBytes_told (h : r.store.find id = some u) (st : Stream) (bs : List Byte) :
    (r.putBytes id st bs).store.find id =
      some (u.setStream st { u.stream st with bytes := (u.stream st).bytes ++ bs }) ∧
    r.SameBut id (r.putBytes id st bs) :=
  Recorder.modifyUnit_told (fun _ => RecordUnit.setStream_id ..) h

/-! ### A block for a unit (R76, R78) -/

theorem UnitStore.takeBlock_of_free {st : UnitStore} (h : 0 < st.freeCount) :
    ∃ b st', st.takeBlock = some (b, st') ∧ st'.units = st.units ∧ st'.freeCount = st.freeCount - 1 := by
  unfold UnitStore.takeBlock
  unfold UnitStore.freeCount at h ⊢
  split
  · exact ⟨_, _, rfl, rfl, by dsimp only; omega⟩
  · cases hreturned : st.returned with
    | nil => rw [hreturned, List.length_nil] at h; omega
    | cons b rest => exact ⟨_, _, rfl, rfl, by dsimp only; rw [List.length_cons]; omega⟩

theorem UnitStore.takeBlock_of_none {st : UnitStore} (h : st.freeCount = 0) : st.takeBlock = none := by
  unfold UnitStore.freeCount at h
  rw [UnitStore.takeBlock, if_neg (by omega), List.eq_nil_of_length_eq_zero (by omega : st.returned.length = 0)]

/-- The recorder in which the unit has been given a block. -/
def Recorder.giveBlock (r : Recorder) (id b : Nat) (st : UnitStore) : Recorder :=
  { r with store := st.modify id (fun u => { u with blocks := u.blocks ++ [b] }) }

/-- The recorder in which the oldest unit of the ring has been evicted (R78). -/
def Recorder.evict (r : Recorder) (old : Nat) (rest : List Nat) : Recorder :=
  { r with ring := rest, store := r.store.release old, ringEvicted := sat16 (r.ringEvicted + 1) }

theorem Recorder.allocBlock_of_block {b : Nat} {st : UnitStore} (h : r.store.takeBlock = some (b, st)) (id : Nat) :
    r.allocBlock id = (r.giveBlock id b st, true) := by
  simp only [Recorder.allocBlock, h]
  rfl

theorem Recorder.allocBlock_of_empty (h : r.store.takeBlock = none) (hring : r.ring = []) (id : Nat) :
    r.allocBlock id = (r.dropUnit id, false) := by
  simp only [Recorder.allocBlock, h, hring]

theorem Recorder.allocBlock_of_evicted {old : Nat} {rest : List Nat} (h : r.store.takeBlock = none)
    (hring : r.ring = old :: rest) (id : Nat) :
    r.allocBlock id =
      match (r.evict old rest).store.takeBlock with
      | some (b, st) => ((r.evict old rest).giveBlock id b st, true)
      | none => ((r.evict old rest).dropUnit id, false) := by
  simp only [Recorder.allocBlock, h, hring]
  rfl

/-- A unit with one more block. -/
def RecordUnit.grow (u : RecordUnit) (b : Nat) : RecordUnit := { u with blocks := u.blocks ++ [b] }

/-- A unit without its essence (R78). -/
def RecordUnit.drop (u : RecordUnit) : RecordUnit :=
  { u with dropped := true, blocks := [], main := { u.main with bytes := [] }, proxy := { u.proxy with bytes := [] } }

/-- A block given is one free block fewer and one block more in its unit. -/
theorem Recorder.giveBlock_told (h : r.store.find id = some u) {b : Nat} {st : UnitStore} (hunits : st.units = r.store.units)
    (hfree : st.freeCount = r.store.freeCount - 1) :
    let q := r.giveBlock id b st
    q.store.find id = some (u.grow b) ∧ (∀ j, j ≠ id → q.store.find j = r.store.find j) ∧
    q.store.freeCount = r.store.freeCount - 1 := by
  have hfind (j : Nat) : st.find j = r.store.find j := by rw [UnitStore.find, hunits]; rfl
  refine ⟨UnitStore.find_modify_same (fun _ => rfl) ((hfind id).trans h), fun j hj => ?_, hfree⟩
  exact (UnitStore.find_modify_other (f := fun u => u.grow b) (fun _ => rfl) hj).trans (hfind j)

/-- A unit dropped returns its blocks and is counted. -/
theorem Recorder.dropUnit_told (h : r.store.find id = some u) :
    let q := r.dropUnit id
    q.store.find id = some u.drop ∧ (∀ j, j ≠ id → q.store.find j = r.store.find j) ∧
    q.store.freeCount = r.store.freeCount + u.blocks.length := by
  refine ⟨?_, fun j hj => ?_, ?_⟩
  · exact UnitStore.find_modify_same (st := { r.store with returned := _ }) (fun _ => rfl) h
  · exact UnitStore.find_modify_other (st := { r.store with returned := _ }) (fun _ => rfl) hj
  · rw [Recorder.dropUnit, h]
    simp only [UnitStore.modify, UnitStore.freeCount, Option.map_some, Option.getD_some, List.length_append]
    omega

/-! ### A packet's bytes stored (R82) -/

variable {st : Stream} {last : Bool} {offset n : Nat} {bytes : List Byte}

/-- The unit with the hole that a packet's offset shows. -/
def RecordUnit.holed (u : RecordUnit) (st : Stream) (offset : Nat) : RecordUnit :=
  { u with incomplete := u.incomplete || decide ((u.stream st).count < offset) }

/-- The unit with the first `k` bytes of a packet. -/
def RecordUnit.filled (u : RecordUnit) (st : Stream) (offset : Nat) (bytes : List Byte) (k : Nat) (ended : Bool) :
    RecordUnit :=
  { u.setStream st ⟨(u.stream st).bytes ++ bytes.take k, offset + k, ended⟩ with tookEssence := true }

theorem RecordUnit.holed_stream (u : RecordUnit) (st st' : Stream) (offset : Nat) :
    (u.holed st offset).stream st' = u.stream st' := by
  cases st' <;> rfl

theorem holed_eq (u : RecordUnit) (st : Stream) (offset : Nat) :
    (if (u.stream st).count < offset then { u with incomplete := true } else u) = u.holed st offset := by
  unfold RecordUnit.holed
  split
  · next h => rw [decide_eq_true h, Bool.or_true]
  · next h => rw [decide_eq_false h, Bool.or_false]

/-- A unit with bytes joined to a stream. -/
def RecordUnit.put (u : RecordUnit) (st : Stream) (bs : List Byte) : RecordUnit :=
  u.setStream st { u.stream st with bytes := (u.stream st).bytes ++ bs }

/-- A unit at the end of a packet: the count of the stream, its last flag, and that essence was taken. -/
def RecordUnit.mark (u : RecordUnit) (st : Stream) (count : Nat) (last : Bool) : RecordUnit :=
  { u.setStream st { u.stream st with count := count, last := (u.stream st).last || last } with tookEssence := true }

/-- A unit at the end of a packet that was cut (R80). -/
def RecordUnit.overflow (u : RecordUnit) (st : Stream) (count : Nat) : RecordUnit :=
  { u.setStream st { u.stream st with count := count } with oversize := true, tookEssence := true }

/-- The taking of a packet, by what became of its bytes. -/
theorem Recorder.takeEssence_eq (r : Recorder) (id : Nat) (st : Stream) (last : Bool) (offset : Nat)
    (bytes : List Byte) :
    r.takeEssence id st last offset bytes =
      match Recorder.storeBytes id st (bytes.length + 1) (r.modifyUnit id (·.holed st offset)) 0 bytes with
      | (r, .all) => r.modifyUnit id (·.mark st (offset + bytes.length) last)
      | (r, .cut stored) => r.modifyUnit id (·.overflow st (offset + stored))
      | (r, .dropped) => r := by
  have hholed : (fun u : RecordUnit => if (u.stream st).count < offset then { u with incomplete := true } else u) =
      (·.holed st offset) := funext fun u => holed_eq u st offset
  rw [Recorder.takeEssence, hholed]
  rfl

theorem Recorder.holed_told (h : r.store.find id = some u) (st : Stream) (offset : Nat) :
    (r.modifyUnit id (·.holed st offset)).store.find id = some (u.holed st offset) ∧
    r.SameBut id (r.modifyUnit id (·.holed st offset)) :=
  Recorder.modifyUnit_told (f := (·.holed st offset)) (fun _ => rfl) h

theorem RecordUnit.mark_put (u : RecordUnit) (hlast : (u.stream st).last = false) (k : Nat) (ended : Bool) :
    (u.put st (bytes.take k)).mark st (offset + k) ended = u.filled st offset bytes k ended := by
  cases st with
  | main =>
    have hlast : u.main.last = false := hlast
    simp [RecordUnit.put, RecordUnit.mark, RecordUnit.filled, RecordUnit.setStream, RecordUnit.stream, hlast]
  | proxy =>
    have hlast : u.proxy.last = false := hlast
    simp [RecordUnit.put, RecordUnit.mark, RecordUnit.filled, RecordUnit.setStream, RecordUnit.stream, hlast]

theorem RecordUnit.overflow_put (u : RecordUnit) (hlast : (u.stream st).last = false) (k : Nat) :
    (u.put st (bytes.take k)).overflow st (offset + k) =
      { u.filled st offset bytes k false with oversize := true } := by
  cases st with
  | main =>
    have hlast : u.main.last = false := hlast
    simp [RecordUnit.put, RecordUnit.overflow, RecordUnit.filled, RecordUnit.setStream, RecordUnit.stream, hlast]
  | proxy =>
    have hlast : u.proxy.last = false := hlast
    simp [RecordUnit.put, RecordUnit.overflow, RecordUnit.filled, RecordUnit.setStream, RecordUnit.stream, hlast]

theorem RecordUnit.put_grow_put (u : RecordUnit) (k b : Nat) :
    ((u.put st (bytes.take k)).grow b).put st (bytes.drop k) = (u.put st bytes).grow b := by
  cases st with
  | main => simp [RecordUnit.put, RecordUnit.grow, RecordUnit.setStream, RecordUnit.stream]
  | proxy => simp [RecordUnit.put, RecordUnit.grow, RecordUnit.setStream, RecordUnit.stream]

/-- A packet stored whole: its bytes put, and the stream's count and last flag moved. -/
theorem Recorder.stored_told (h : r.store.find id = some u) (bs : List Byte) (count : Nat) (ended : Bool) :
    let q := (r.putBytes id st bs).modifyUnit id (·.mark st count ended)
    q.store.find id = some ((u.put st bs).mark st count ended) ∧ r.SameBut id q := by
  obtain ⟨hput, hsame⟩ := Recorder.putBytes_told h st bs
  obtain ⟨hmark, hsame'⟩ := Recorder.modifyUnit_told (f := (·.mark st count ended)) (fun u => u.setStream_id ..) hput
  exact ⟨hmark, hsame.trans hsame'⟩

/-- A packet that fits is stored whole. -/
theorem Recorder.takeEssence_fits (h : r.store.find id = some u) (hlast : (u.stream st).last = false)
    (hfits : bytes.length ≤ u.space) :
    let q := r.takeEssence id st last offset bytes
    q.store.find id = some ((u.holed st offset).filled st offset bytes bytes.length last) ∧ r.SameBut id q := by
  obtain ⟨hholed, hsame⟩ := Recorder.holed_told h st offset
  have hspace : bytes.length ≤ (u.holed st offset).space := hfits
  have hlast : ((u.holed st offset).stream st).last = false := by rwa [RecordUnit.holed_stream]
  intro q
  have hq : q = _ := Recorder.takeEssence_eq ..
  rw [storeBytes_of_find hholed, if_pos hspace] at hq
  obtain ⟨hstored, hsame'⟩ := Recorder.stored_told hholed (st := st) bytes (offset + bytes.length) last
  rw [hq]
  refine ⟨hstored.trans (congrArg some ?_), hsame.trans hsame'⟩
  have hunit := RecordUnit.mark_put (offset := offset) (bytes := bytes) _ hlast bytes.length last
  rwa [List.take_length] at hunit

/-- A packet that a full unit cannot hold is cut, and the unit OVERSIZE (R80). -/
theorem Recorder.takeEssence_cut (h : r.store.find id = some u) (hlast : (u.stream st).last = false)
    (hover : ¬bytes.length ≤ u.space) (hfull : 256 ≤ u.blocks.length) :
    let q := r.takeEssence id st last offset bytes
    q.store.find id =
      some { (u.holed st offset).filled st offset bytes u.space false with oversize := true } ∧ r.SameBut id q := by
  obtain ⟨hholed, hsame⟩ := Recorder.holed_told h st offset
  have hspace : ¬bytes.length ≤ (u.holed st offset).space := hover
  have hblocks : unitBlocks ≤ (u.holed st offset).blocks.length := hfull
  have hlast : ((u.holed st offset).stream st).last = false := by rwa [RecordUnit.holed_stream]
  intro q
  have hq : q = _ := Recorder.takeEssence_eq ..
  rw [storeBytes_of_find hholed, if_neg hspace, if_pos hblocks] at hq
  obtain ⟨hput, hsame'⟩ := Recorder.putBytes_told hholed st (bytes.take u.space)
  obtain ⟨hend, hsame''⟩ := Recorder.modifyUnit_told (f := (·.overflow st (offset + u.space)))
    (fun u => u.setStream_id ..) hput
  have hstored : 0 + (u.holed st offset).space = u.space := Nat.zero_add _
  rw [hq, hstored]
  exact ⟨hend.trans (congrArg some (RecordUnit.overflow_put _ hlast u.space)), (hsame.trans hsame').trans hsame''⟩

/-- The recorder while the packet's unit waits for a block: the hole shown, and what the blocks held took. -/
def Recorder.waiting (r : Recorder) (id : Nat) (st : Stream) (offset : Nat) (bytes : List Byte) (k : Nat) : Recorder :=
  (r.modifyUnit id (·.holed st offset)).putBytes id st (bytes.take k)

theorem Recorder.waiting_told (h : r.store.find id = some u) (st : Stream) (offset : Nat) (bytes : List Byte) (k : Nat) :
    let q := r.waiting id st offset bytes k
    q.store.find id = some ((u.holed st offset).put st (bytes.take k)) ∧ r.SameBut id q := by
  obtain ⟨hholed, hsame⟩ := Recorder.holed_told h st offset
  obtain ⟨hput, hsame'⟩ := Recorder.putBytes_told hholed st (bytes.take k)
  exact ⟨hput, hsame.trans hsame'⟩

/-- A packet that needs a block takes what that one holds, or drops its unit (R78). -/
theorem Recorder.takeEssence_more (h : r.store.find id = some u)
    (hover : ¬bytes.length ≤ u.space) (hroom : ¬256 ≤ u.blocks.length) :
    r.takeEssence id st last offset bytes =
      let a := (r.waiting id st offset bytes u.space).allocBlock id
      match (if a.2 then Recorder.storeBytes id st bytes.length a.1 u.space (bytes.drop u.space) else (a.1, .dropped)) with
      | (r, .all) => r.modifyUnit id (·.mark st (offset + bytes.length) last)
      | (r, .cut stored) => r.modifyUnit id (·.overflow st (offset + stored))
      | (r, .dropped) => r := by
  obtain ⟨hholed, -⟩ := Recorder.holed_told h st offset
  have hspace : ¬bytes.length ≤ (u.holed st offset).space := hover
  have hblocks : ¬unitBlocks ≤ (u.holed st offset).blocks.length := hroom
  have hstored : 0 + (u.holed st offset).space = u.space := Nat.zero_add _
  rw [Recorder.takeEssence_eq, storeBytes_of_find hholed, if_neg hspace, if_neg hblocks, hstored]
  rfl

theorem Recorder.takeEssence_dropped (h : r.store.find id = some u) (hover : ¬bytes.length ≤ u.space)
    (hroom : ¬256 ≤ u.blocks.length) {q : Recorder}
    (hdrop : (r.waiting id st offset bytes u.space).allocBlock id = (q, false)) :
    r.takeEssence id st last offset bytes = q := by
  rw [Recorder.takeEssence_more h hover hroom, hdrop]
  rfl

/-- A block had holds the rest of any packet (R82). -/
theorem Recorder.takeEssence_grown (h : r.store.find id = some u) (hlast : (u.stream st).last = false)
    (hover : ¬bytes.length ≤ u.space) (hroom : ¬256 ≤ u.blocks.length) (hpacket : bytes.length ≤ 4086)
    (hfits : u.main.bytes.length + u.proxy.bytes.length ≤ (u.blocks.length - 1) * 65536) (hhead : u.blocks ≠ [])
    {g : Recorder} {b : Nat} (halloc : (r.waiting id st offset bytes u.space).allocBlock id = (g, true))
    (hg : g.store.find id = some (((u.holed st offset).put st (bytes.take u.space)).grow b)) :
    let q := r.takeEssence id st last offset bytes
    q.store.find id = some (((u.holed st offset).filled st offset bytes bytes.length last).grow b) ∧ g.SameBut id q := by
  have hroomy : (bytes.drop u.space).length ≤ (((u.holed st offset).put st (bytes.take u.space)).grow b).space := by
    have hblocks : 1 ≤ u.blocks.length := List.length_pos_of_ne_nil hhead
    have hspace : u.space = (u.blocks.length - 1) * 65536 - (u.main.bytes.length + u.proxy.bytes.length) := rfl
    cases st with
    | main =>
      simp only [RecordUnit.space, RecordUnit.grow, RecordUnit.put, RecordUnit.holed, RecordUnit.setStream,
        RecordUnit.stream, blockBytes, List.length_append, List.length_take, List.length_drop, List.length_cons,
        List.length_nil] at hover ⊢
      omega
    | proxy =>
      simp only [RecordUnit.space, RecordUnit.grow, RecordUnit.put, RecordUnit.holed, RecordUnit.setStream,
        RecordUnit.stream, blockBytes, List.length_append, List.length_take, List.length_drop, List.length_cons,
        List.length_nil] at hover ⊢
      omega
  obtain ⟨fuel, hfuel⟩ : ∃ fuel, bytes.length = fuel + 1 := ⟨bytes.length - 1, by omega⟩
  intro q
  have hq : q = _ := Recorder.takeEssence_more h hover hroom
  rw [halloc] at hq
  dsimp only at hq
  rw [if_pos rfl, hfuel, storeBytes_of_find hg, if_pos hroomy, ← hfuel] at hq
  obtain ⟨hstored, hsame⟩ := Recorder.stored_told hg (st := st) (bytes.drop u.space) (offset + bytes.length) last
  rw [RecordUnit.put_grow_put] at hstored
  rw [hq]
  refine ⟨hstored.trans (congrArg some ?_), hsame⟩
  have hunit := RecordUnit.mark_put (offset := offset) (bytes := bytes) (u.holed st offset)
    (by rwa [RecordUnit.holed_stream]) bytes.length last
  rw [List.take_length] at hunit
  rw [← hunit]
  cases st <;> rfl

/-- What is kept while a unit is given a block or dropped. -/
def Recorder.KeepsBut (id : Nat) (r r' : Recorder) : Prop :=
  (∀ j, j ≠ id → r'.store.find j = r.store.find j) ∧ r'.ring = r.ring ∧ r'.ringEvicted = r.ringEvicted ∧
  r'.essenceDiscarded = r.essenceDiscarded

/-- A packet stored whole where a block could be had (R78). -/
theorem Recorder.takeEssence_given (h : r.store.find id = some u) (hlast : (u.stream st).last = false)
    (hover : ¬bytes.length ≤ u.space) (hroom : ¬256 ≤ u.blocks.length) (hpacket : bytes.length ≤ 4086)
    (hfits : u.main.bytes.length + u.proxy.bytes.length ≤ (u.blocks.length - 1) * 65536) (hhead : u.blocks ≠ [])
    {p : Recorder} (hp : p.store.find id = some ((u.holed st offset).put st (bytes.take u.space)))
    (hfree : 0 < p.store.freeCount)
    (halloc : ∀ b store, p.store.takeBlock = some (b, store) →
      (r.waiting id st offset bytes u.space).allocBlock id = (p.giveBlock id b store, true)) :
    let q := r.takeEssence id st last offset bytes
    (∃ b, q.store.find id = some (((u.holed st offset).filled st offset bytes bytes.length last).grow b)) ∧
    q.store.freeCount = p.store.freeCount - 1 ∧ q.droppedUnits = p.droppedUnits ∧ p.KeepsBut id q := by
  obtain ⟨b, store, htake, hunits, hcount⟩ := UnitStore.takeBlock_of_free hfree
  obtain ⟨hgiven, hothers, hgivenFree⟩ := Recorder.giveBlock_told hp hunits hcount (b := b)
  obtain ⟨hstored, hsame⟩ := Recorder.takeEssence_grown (last := last) h hlast hover hroom hpacket hfits hhead
    (halloc b store htake) hgiven
  exact ⟨⟨b, hstored⟩, hsame.free.trans hgivenFree, hsame.dropped, fun j hj => (hsame.others j hj).trans (hothers j hj),
    hsame.ring, hsame.evicted, hsame.discarded⟩

/-- A packet whose unit is dropped for want of a block (R78). -/
theorem Recorder.takeEssence_refused (h : r.store.find id = some u)
    (hover : ¬bytes.length ≤ u.space) (hroom : ¬256 ≤ u.blocks.length)
    {p : Recorder} (hp : p.store.find id = some ((u.holed st offset).put st (bytes.take u.space)))
    (hnone : p.store.freeCount = 0)
    (halloc : (r.waiting id st offset bytes u.space).allocBlock id = (p.dropUnit id, false)) :
    let q := r.takeEssence id st last offset bytes
    q.store.find id = some (u.holed st offset).drop ∧ q.store.freeCount = u.blocks.length ∧
    q.droppedUnits = sat16 (p.droppedUnits + 1) ∧ p.KeepsBut id q := by
  obtain ⟨hdropped, hothers, hfree⟩ := Recorder.dropUnit_told hp
  intro q
  have hq : q = p.dropUnit id := Recorder.takeEssence_dropped h hover hroom halloc
  rw [hq]
  refine ⟨hdropped.trans (congrArg some ?_), hfree.trans ?_, rfl, hothers, rfl, rfl, rfl⟩
  · cases st <;> rfl
  · rw [hnone, Nat.zero_add, RecordUnit.put, (Recorder.setStream_blocks _ _ _).1]
    rfl

theorem UnitStore.find_release_other (st : UnitStore) {i j : Nat} (hj : j ≠ i) : (st.release i).find j = st.find j := by
  cases h : st.find i with
  | none => rw [UnitStore.release, h]
  | some u => exact (UnitStore.release_told st i u h).2.2 j hj

theorem Recorder.allocBlock_discarded (r : Recorder) (id : Nat) :
    (r.allocBlock id).1.essenceDiscarded = r.essenceDiscarded := by
  unfold Recorder.allocBlock
  dsimp only
  split
  · rfl
  · split
    · rfl
    · split <;> rfl

theorem Recorder.storeBytes_discarded (id : Nat) (st : Stream) (fuel : Nat) (r : Recorder) (done : Nat)
    (bytes : List Byte) :
    (Recorder.storeBytes id st fuel r done bytes).1.essenceDiscarded = r.essenceDiscarded := by
  induction fuel generalizing r done bytes with
  | zero => rfl
  | succ fuel ih =>
    cases hu : r.store.find id with
    | none =>
      unfold Recorder.storeBytes
      rw [hu]
    | some u =>
      rw [storeBytes_of_find hu]
      have hput := (r.putBytes id st (bytes.take u.space)).allocBlock_discarded id
      split
      · rfl
      · split
        · rfl
        · dsimp only
          split
          · exact (ih _ _ _).trans hput
          · exact hput

/-- A packet taken into a unit is not discarded. -/
theorem Recorder.takeEssence_discarded (r : Recorder) (id : Nat) (st : Stream) (last : Bool) (offset : Nat)
    (bytes : List Byte) : (r.takeEssence id st last offset bytes).essenceDiscarded = r.essenceDiscarded := by
  have hstored := Recorder.storeBytes_discarded id st (bytes.length + 1) (r.modifyUnit id (·.holed st offset)) 0 bytes
  rw [Recorder.takeEssence_eq]
  generalize Recorder.storeBytes _ _ _ _ _ _ = stored at hstored
  obtain ⟨q, outcome⟩ := stored
  cases outcome <;> exact hstored

/-! ### The steps of R82 -/

/-- The unit after a report of missed packets. -/
def RecordUnit.missing (u : RecordUnit) (n : Nat) : RecordUnit :=
  { u with incomplete := u.incomplete || (!u.dropped && decide (0 < n)) }

theorem Recorder.essenceMissed_told (hasm : r.assembly = some id) (h : r.store.find id = some u) (n : Nat) :
    (r.essenceMissed n).store.find id = some (u.missing n) ∧ r.SameBut id (r.essenceMissed n) := by
  simp only [Recorder.essenceMissed, hasm]
  by_cases hn : n = 0
  · rw [if_pos hn]
    refine ⟨h.trans (congrArg some ?_), .refl id r⟩
    simp [RecordUnit.missing, hn]
  · rw [if_neg hn]
    obtain ⟨hfind, hsame⟩ := Recorder.modifyUnit_told
      (f := fun u => if u.dropped = true then u else { u with incomplete := true }) (fun u => by split <;> rfl) h
    refine ⟨hfind.trans (congrArg some ?_), hsame⟩
    have hpos : 0 < n := Nat.pos_of_ne_zero hn
    unfold RecordUnit.missing
    split
    · next hdropped =>
      have hincomplete : (u.incomplete || (!u.dropped && decide (0 < n))) = u.incomplete := by simp [hdropped]
      rw [hincomplete]
    · next hdropped => simp [hdropped, hpos]

theorem Recorder.essence_of_find (hstate : r.state ≠ .idle) (hasm : r.assembly = some id) (h : r.store.find id = some u)
    (frame : Nat) (st : Stream) (last : Bool) (offset : Nat) (bytes : List Byte) :
    r.essence frame st last offset bytes =
      if frame ≠ u.frame then r.discardEssence
      else if u.dropped = true ∨ u.oversize = true then r
      else if (u.stream st).last = true ∨ offset < (u.stream st).count then r.discardEssence
      else r.takeEssence id st last offset bytes := by
  have hbind : r.assembly.bind r.store.find = some u := by rw [hasm, Option.bind_some, h]
  unfold Recorder.essence
  split
  · next hidle => exact absurd hidle hstate
  · rw [hbind]
    simp only [Bool.or_eq_true, UnitStore.find_id h]
    congr 2
    by_cases hlast : (u.stream st).last = true
    · simp [hlast]
    · simp [hlast]

/-- Settles O36. -/
theorem essenceTaken : Obligations.EssenceTaken := by
  intro s seq frame st last offset bytes n hlen h r discarded
  have hexec : exec (.essence seq frame st last offset bytes) s =
      .next { s.taken .essence seq n with
        recorder := (r.essenceMissed n).essence frame.toNat st last offset.toNat bytes } :=
    (congrArg _ (if_pos hlen)).trans (congrArg _ (State.intake_of_takes h))
  rw [hexec]
  refine ⟨fun hidle hnone => ?_, fun hstate => ⟨fun hnone => ?_, fun id u hasm hu => ?_⟩⟩
  · have hmissed : r.essenceMissed n = r := by
      unfold Recorder.essenceMissed
      split
      · rfl
      · next hsome => exact if_pos (hnone.resolve_right (by rw [hsome]; nofun))
    rw [hmissed, Recorder.essence, hidle]
    rfl
  · have hmissed : r.essenceMissed n = r := by rw [Recorder.essenceMissed, hnone]
    have hdiscard : r.essence frame.toNat st last offset.toNat bytes = r.discardEssence := by
      unfold Recorder.essence
      split
      · next hidle => exact absurd hidle hstate
      · rw [hnone]
        rfl
    rw [hmissed, hdiscard]
    rfl
  · intro missed holed filled
    obtain ⟨hmissed, hsame⟩ := Recorder.essenceMissed_told hasm hu n
    have honly := Recorder.EssenceOnly.essenceMissed r n
    have hstate' : (r.essenceMissed n).state ≠ .idle := by
      rw [honly]
      exact hstate
    have hasm' : (r.essenceMissed n).assembly = some id := by
      rw [honly]
      exact hasm
    have hstream : (u.missing n).stream st = u.stream st := by cases st <;> rfl
    have hkept := honly.trans (Recorder.EssenceOnly.essence _ frame.toNat st last offset.toNat bytes)
    have hessence := Recorder.essence_of_find hstate' hasm' hmissed frame.toNat st last offset.toNat bytes
    rw [hstream] at hessence
    change _ = if frame.toNat ≠ u.frame then _ else if u.dropped = true ∨ u.oversize = true then _ else _ at hessence
    generalize hq : (r.essenceMissed n).essence frame.toNat st last offset.toNat bytes = q at hessence hkept ⊢
    refine ⟨_, rfl, congrArg (fun q : Recorder => { s.taken .essence seq n with recorder := q }) ?_, ?_⟩
    · exact hkept
    intro unitIs noEviction others freeIs
    have hothers (j : Nat) (hj : j ≠ id) (_ : j ∉ []) := hsame.others j hj
    have hdiscard (hq : q = (r.essenceMissed n).discardEssence) :
        q.essenceDiscarded = discarded ∧ unitIs missed ∧ others [] ∧ freeIs r.store.freeCount ∧ noEviction ∧
          q.droppedUnits = r.droppedUnits := by
      subst hq
      exact ⟨congrArg (fun k => sat16 (k + 1)) hsame.discarded, hmissed, hothers, hsame.free,
        ⟨hsame.ring, hsame.evicted⟩, hsame.dropped⟩
    split
    · next hframe => exact hdiscard (hessence.trans (if_pos hframe))
    next hframe =>
    rw [if_neg hframe] at hessence
    split
    · next hclosed =>
      rw [if_pos hclosed] at hessence
      subst hessence
      exact ⟨hsame.discarded, hmissed, hothers, hsame.free, ⟨hsame.ring, hsame.evicted⟩, hsame.dropped⟩
    next hclosed =>
    rw [if_neg hclosed] at hessence
    split
    · next hended => exact hdiscard (hessence.trans (if_pos hended))
    next hended =>
    rw [if_neg hended] at hessence
    have hlast : ((u.missing n).stream st).last = false := by
      rw [hstream]
      exact Bool.eq_false_iff.mpr fun hlast => hended (.inl hlast)
    have hfilled (k : Nat) (ended : Bool) :
        ((u.missing n).holed st offset.toNat).filled st offset.toNat bytes k ended = filled k ended := by
      cases st <;> rfl
    have hgrow (b : Nat) (k : Nat) (ended : Bool) :
        (((u.missing n).holed st offset.toNat).filled st offset.toNat bytes k ended).grow b =
          { filled k ended with blocks := u.blocks ++ [b] } := by
      cases st <;> rfl
    subst hessence
    refine ⟨(Recorder.takeEssence_discarded ..).trans hsame.discarded, ?_⟩
    split
    · next hfits =>
      obtain ⟨hunit, hkeeps⟩ := Recorder.takeEssence_fits (last := last) (offset := offset.toNat) hmissed hlast hfits
      replace hkeeps := hsame.trans hkeeps
      exact ⟨hunit.trans (congrArg some (hfilled _ _)), fun j hj _ => hkeeps.others j hj, hkeeps.free,
        ⟨hkeeps.ring, hkeeps.evicted⟩, hkeeps.dropped⟩
    next hover =>
    split
    · next hfull =>
      obtain ⟨hunit, hkeeps⟩ := Recorder.takeEssence_cut (last := last) (offset := offset.toNat) hmissed hlast hover hfull
      replace hkeeps := hsame.trans hkeeps
      rw [hfilled] at hunit
      exact ⟨hunit, fun j hj _ => hkeeps.others j hj, hkeeps.free, ⟨hkeeps.ring, hkeeps.evicted⟩, hkeeps.dropped⟩
    next hroom =>
    intro hsound grown dropped
    obtain ⟨⟨⟨hnamed, hheld⟩, -, -⟩, hapart⟩ := State.storeSound_iff.mp hsound
    have hunit := hheld u (List.mem_of_find?_eq_some hu)
    have hhead : u.blocks ≠ [] := hunit.head (Bool.eq_false_iff.mpr fun hdropped => hclosed (.inl hdropped))
    have hwaiting := Recorder.waiting_told hmissed st offset.toNat bytes u.space
    obtain ⟨hwait, hwaits⟩ := hwaiting
    replace hwaits := hsame.trans hwaits
    split
    · next hfree =>
      obtain ⟨⟨b, hgrown⟩, hcount, hdrops, hothers, hring, hevicted, -⟩ :=
        Recorder.takeEssence_given (last := last) hmissed hlast hover hroom hlen hunit.fits hhead hwait
          (hwaits.free.symm ▸ hfree) (fun b store htake => Recorder.allocBlock_of_block htake id)
      rw [hgrow] at hgrown
      exact ⟨⟨hdrops.trans hwaits.dropped, b, hgrown⟩, fun j hj _ => (hothers j hj).trans (hwaits.others j hj),
        hcount.trans (congrArg (· - 1) hwaits.free), hring.trans hwaits.ring, hevicted.trans hwaits.evicted⟩
    next hfree =>
    have hzero := hwaits.free.trans (Nat.eq_zero_of_not_pos hfree)
    have hnone := UnitStore.takeBlock_of_none hzero
    split
    · next hring =>
      have hwaitRing : _ = [] := hwaits.ring.trans hring
      obtain ⟨hdropped, hcount, hdrops, hothers, hrings, hevicted, -⟩ :=
        Recorder.takeEssence_refused (last := last) hmissed hover hroom hwait hzero
          (Recorder.allocBlock_of_empty hnone hwaitRing id)
      exact ⟨⟨hdrops.trans (congrArg (fun k => sat16 (k + 1)) hwaits.dropped), hdropped⟩,
        fun j hj _ => (hothers j hj).trans (hwaits.others j hj), hcount, hrings.trans hwaits.ring,
        hevicted.trans hwaits.evicted⟩
    next old rest hring =>
    have hold : old ≠ id := by
      rintro rfl
      exact hapart _ hasm (hring ▸ List.mem_cons_self ..)
    generalize hw : (r.essenceMissed n).waiting id st offset.toNat bytes u.space = w at hwait hwaits hzero hnone
    have hwaitRing : w.ring = old :: rest := hwaits.ring.trans hring
    have halloc := Recorder.allocBlock_of_evicted hnone hwaitRing id
    have hevict : (w.evict old rest).store.find id = w.store.find id := UnitStore.find_release_other w.store hold.symm
    have hkept (j : Nat) (hj : j ≠ id) (hgone : j ∉ [old]) : (w.evict old rest).store.find j = r.store.find j :=
      (UnitStore.find_release_other w.store (List.ne_of_not_mem_cons hgone)).trans (hwaits.others j hj)
    have holdFind : w.store.find old = r.store.find old := hwaits.others old hold
    have hgone (v : RecordUnit) (hv : r.store.find old = some v) :
        1 ≤ v.refs ∧
        (w.evict old rest).store.find old = (if v.refs ≤ 1 then none else some { v with refs := v.refs - 1 }) ∧
        (w.evict old rest).store.freeCount = (if v.refs ≤ 1 then v.blocks.length else 0) := by
      obtain ⟨hfind, hcount, -⟩ := UnitStore.release_told w.store old v (holdFind.trans hv)
      rw [hzero, Nat.zero_add] at hcount
      exact ⟨(hheld v (List.mem_of_find?_eq_some hv)).refs, hfind, hcount⟩
    by_cases hgiven : 0 < (w.evict old rest).store.freeCount
    · obtain ⟨⟨b, hgrown⟩, hcount, hdrops, hothers, hrings, hevicted, -⟩ :=
        Recorder.takeEssence_given (last := last) hmissed hlast hover hroom hlen hunit.fits hhead
          (hevict.trans hwait) hgiven (fun b store htake =>
            (congrArg (Recorder.allocBlock · id) hw).trans (halloc.trans (by rw [htake])))
      rw [hgrow] at hgrown
      refine ⟨hrings, hevicted.trans (congrArg (fun k => sat16 (k + 1)) hwaits.evicted),
        fun j hj hgone => (hothers j hj).trans (hkept j hj hgone), fun v hv => ?_⟩
      obtain ⟨hrefs, hfind, hfreed⟩ := hgone v hv
      rw [hfreed] at hgiven hcount
      by_cases hlastHolder : v.refs ≤ 1
      · rw [if_pos hlastHolder] at hgiven hcount hfind
        rw [if_pos ⟨by omega, List.ne_nil_of_length_pos hgiven⟩]
        exact ⟨⟨hdrops.trans hwaits.dropped, b, hgrown⟩, (hothers old hold).trans hfind, hcount⟩
      · rw [if_neg hlastHolder] at hgiven
        exact absurd hgiven (Nat.lt_irrefl 0)
    · have hfull := Nat.eq_zero_of_not_pos hgiven
      obtain ⟨hdropped, hcount, hdrops, hothers, hrings, hevicted, -⟩ :=
        Recorder.takeEssence_refused (last := last) hmissed hover hroom (hevict.trans hwait) hfull
          ((congrArg (Recorder.allocBlock · id) hw).trans
            (halloc.trans (by rw [UnitStore.takeBlock_of_none hfull])))
      refine ⟨hrings, hevicted.trans (congrArg (fun k => sat16 (k + 1)) hwaits.evicted),
        fun j hj hgone => (hothers j hj).trans (hkept j hj hgone), fun v hv => ?_⟩
      obtain ⟨hrefs, hfind, hfreed⟩ := hgone v hv
      rw [hfull] at hfreed
      have hother : ¬(v.refs = 1 ∧ v.blocks ≠ []) := by
        rintro ⟨hone, hblocks⟩
        rw [if_pos (Nat.le_of_eq hone)] at hfreed
        exact hblocks (List.eq_nil_of_length_eq_zero hfreed.symm)
      rw [if_neg hother]
      refine ⟨⟨hdrops.trans (congrArg (fun k => sat16 (k + 1)) hwaits.dropped), hdropped⟩, hcount, fun hrefs' => ?_⟩
      rw [if_neg (by omega)] at hfind
      exact (hothers old hold).trans hfind

end Sys2Proof.Machine
end

section
/-! PROOF. The close of a frame: what the offers, the loss count and a stop make of the recorder (R83 to R96). -/

namespace Sys2Proof.Machine

variable {s : State} {x : SlotId} {id : Nat} {r r' : Recorder}

/-! ### The recorder while a frame is being closed -/

/-- Away from the unit store, the parts and a pending stop the two recorders are the same. -/
def Recorder.Offered (r r' : Recorder) : Prop :=
  r' = { r with store := r'.store, parts := r'.parts, pendingStop := r'.pendingStop }

theorem Recorder.Offered.refl (r : Recorder) : r.Offered r := rfl

theorem Recorder.Offered.trans {r'' : Recorder} (h : r.Offered r') (h' : r'.Offered r'') : r.Offered r'' := by
  unfold Recorder.Offered at h h' ⊢
  conv_lhs => rw [h']
  conv_lhs => rw [h]

theorem Recorder.Offered.openFrame (h : r.Offered r') : r'.openFrame = r.openFrame := by
  unfold Recorder.Offered at h
  rw [h]

/-- A stop asked for while a frame is open is pending, and nothing more (R93). -/
theorem State.requestStop_of_frame (h : s.recorder.openFrame ≠ none) (reason : RecReason) :
    s.requestStop reason =
      { s with recorder := { s.recorder with
          pendingStop := if s.recorder.canStop = true then some reason else s.recorder.pendingStop } } := by
  rw [State.requestStop_eq, if_pos (Option.isSome_iff_ne_none.mpr h)]
  split <;> rfl

theorem State.beginClose_offered (s : State) (x : SlotId) (reason : CloseReason) :
    s.recorder.Offered (s.beginClose x reason).recorder := by
  cases hopen : s.partOpened x with
  | true =>
    rw [State.beginClose_recorder hopen, Recorder.closeNewest]
    split <;> rfl
  | false =>
    unfold State.beginClose
    split
    · next hphase =>
      obtain ⟨p, hp, hopened⟩ := Option.map_eq_some_iff.mp hphase
      rw [(State.partOpened_of_partOn hp).mpr hopened] at hopen
      exact absurd hopen Bool.noConfusion
    · split
      · cases x <;> rfl
      · rfl
    · rfl

theorem State.offerOnce_offered (s : State) (x : SlotId) (id : Nat) : s.recorder.Offered (s.offerOnce x id).1.recorder := by
  rw [State.offerOnce_eq, State.judgeUnit]
  dsimp only
  split
  · rfl
  · split
    · cases x <;> rfl
    · split
      · cases x <;> rfl
      · split
        · cases x <;> rfl
        · rw [State.issueWrite_recorder]
          cases x <;> rfl

theorem State.refusedForSpace_offered (h : s.recorder.openFrame ≠ none) (x : SlotId) (id : Nat) :
    s.recorder.Offered (s.refusedForSpace x id).recorder := by
  have hsingle : s.recorder.Offered (s.refuseSingle x).recorder := by
    have hcounts : (s.modifyCounts x (fun p => { p with closeReason := .full })).recorder = s.recorder := by
      cases x <;> rfl
    rw [State.refuseSingle, State.requestStop_of_frame (by rw [hcounts]; exact h), hcounts]
    rfl
  have hclose (reason : CloseReason) (stop : RecReason) :
      s.recorder.Offered ((s.beginClose x reason).requestStop stop).recorder := by
    have hbegin := s.beginClose_offered x reason
    rw [State.requestStop_of_frame (by rw [hbegin.openFrame]; exact h)]
    exact hbegin.trans rfl
  unfold State.refusedForSpace
  split
  · exact hsingle
  · unfold State.refuseDual
    dsimp only
    split
    · exact hclose _ _
    · exact s.beginClose_offered x _
  · split
    · exact hsingle
    · unfold State.relayHandover
      dsimp only
      split
      · refine (((s.beginClose_offered x .relay).trans ?_).trans (State.offerOnce_offered ..)).trans rfl
        rw [State.createPart_eq]
        cases x <;> rfl
      · exact hclose _ _

theorem State.offer_offered (h : s.recorder.openFrame ≠ none) (id : Nat) (x : SlotId) :
    s.recorder.Offered (s.offer id x).recorder := by
  have honce := s.offerOnce_offered x id
  unfold State.offer
  dsimp only
  split
  · split
    · exact honce.trans (State.refusedForSpace_offered (by rw [honce.openFrame]; exact h) x id)
    · exact honce
  · rfl

theorem State.offers_offered (xs : List SlotId) (h : s.recorder.openFrame ≠ none) (id : Nat) :
    s.recorder.Offered (xs.foldl (fun v x => v.offer id x) s).recorder := by
  induction xs generalizing s with
  | nil => rfl
  | cons x xs ih =>
    have hoffer := State.offer_offered h id x
    exact hoffer.trans (ih (by rw [hoffer.openFrame]; exact h))

/-! ### A stop entered (R93, R94) -/

/-- The recording has stopped for this reason: no part is open, and at rest where every part has ended. -/
def State.Stopped (t : State) (it : RecItems) (reason : RecReason) : Prop :=
  t.recorder.pendingStop = none ∧ t.recorder.stopReason = some reason ∧ (∀ x, t.partOpened x = false) ∧
  t.recorder.state =
    if ∀ q ∈ t.recorder.parts, q.phase = .ended then if it.preRecSeconds = 0 then .idle else .standby else .stopping

/-- Away from what a stop changes, and from the unit store, the two recorders are the same. -/
def Recorder.Steadies (r r' : Recorder) : Prop :=
  r'.openFrame = r.openFrame ∧ r'.lastMark = r.lastMark ∧ r'.markSilence = r.markSilence ∧
  r'.essenceGap = r.essenceGap ∧ r'.lossCount = r.lossCount

theorem Recorder.stopAtOnce_parts (r : Recorder) (it : RecItems) (reason : RecReason) :
    (r.stopAtOnce it reason).parts = (r.toStopping reason).parts ∧ r.Steadies (r.stopAtOnce it reason) := by
  have hkept := r.toStopping_eq reason
  have hsteady : r.Steadies (r.toStopping reason) := by
    rw [hkept]
    exact ⟨rfl, rfl, rfl, rfl, rfl⟩
  rw [Recorder.stopAtOnce]
  split
  · rw [Recorder.rested_eq]
    exact ⟨rfl, hsteady⟩
  · exact ⟨rfl, hsteady⟩

theorem State.enterStopping_stopped (s : State) (reason : RecReason) :
    (s.enterStopping reason).Stopped s.items.record reason ∧
    s.recorder.Steadies (s.enterStopping reason).recorder := by
  obtain ⟨hparts, hsteady⟩ := s.recorder.stopAtOnce_parts s.items.record reason
  obtain ⟨hreason, hpending, hstate, -, -, -, -⟩ := s.recorder.stopAtOnce_told s.items.record reason
  rw [State.Stopped, State.enterStopping_recorder_eq]
  refine ⟨⟨hpending, hreason, fun x => ?_, hstate.trans ?_⟩, hsteady⟩
  · rw [State.partOpened, State.enterStopping_recorder_eq, Recorder.partOn_of_parts hparts, Recorder.toStopping_partOn]
    cases s.recorder.partOn x with
    | none => rfl
    | some q =>
      simp only [Option.map_some]
      split
      · rfl
      · next hopen => simp [hopen]
  · have hends : s.recorder.parts.all (fun p => p.phase == .ended) = true ↔
        ∀ q ∈ (s.recorder.stopAtOnce s.items.record reason).parts, q.phase = .ended := by
      rw [hparts, ← Recorder.allEnded_iff, Recorder.toStopping_allEnded]
      rfl
    simp only [hends]

/-! ### The end of a close (R87, R93) -/

/-- What follows the close of a frame at a mark, up to the new frame. -/
def State.settle (c : State) (broken : Bool) : State :=
  if broken then ((c.requestStop .frameDiscontinuity).endClose).emptyRing else c.endClose

theorem State.takeFrameMark_eq (s : State) (m : OpenFrame) :
    s.takeFrameMark m =
      (State.settle { s.markGap m with recorder :=
          { (s.markGap m).recorder with lastMark := some m, markSilence := .running 200 } }.closeFrame
        (discontinuous s.recorder.lastMark m)).openNew m := by
  unfold State.takeFrameMark State.settle
  cases discontinuous s.recorder.lastMark m <;> rfl

/-- The recording as it goes on after a close, or stops. -/
def State.GoesOn (c t : State) : Option RecReason → Prop
  | some r => t.Stopped c.items.record r
  | none =>
    t.recorder.state = c.recorder.state ∧ t.recorder.pendingStop = c.recorder.pendingStop ∧
    t.recorder.stopReason = c.recorder.stopReason ∧ t.recorder.parts = c.recorder.parts ∧
    t.slotA = c.slotA ∧ t.slotB = c.slotB

theorem State.GoesOn.emptyRing {c t : State} {reason : Option RecReason} (h : c.GoesOn t reason) :
    c.GoesOn t.emptyRing reason := by
  cases reason with
  | none => exact h
  | some r => exact h

theorem Recorder.Steadies.trans {r'' : Recorder} (h : r.Steadies r') (h' : r'.Steadies r'') : r.Steadies r'' := by
  obtain ⟨hframe, hmark, hsilence, hgap, hloss⟩ := h
  obtain ⟨hframe', hmark', hsilence', hgap', hloss'⟩ := h'
  exact ⟨hframe'.trans hframe, hmark'.trans hmark, hsilence'.trans hsilence, hgap'.trans hgap, hloss'.trans hloss⟩

/-- A pending stop is entered as the close of the frame is complete. -/
theorem State.endClose_told {c : State} (h : c.recorder.openFrame ≠ none) :
    c.GoesOn c.endClose
      (if c.recorder.state = .starting ∨ c.recorder.state = .recording then c.recorder.pendingStop else none) ∧
    { c.recorder with openFrame := none }.Steadies c.endClose.recorder := by
  have hstops (r : RecReason) :=
    State.enterStopping_stopped { c with recorder := { c.recorder with openFrame := none } } r
  unfold State.endClose
  split
  · next hnone => exact absurd hnone h
  · dsimp only
    split
    · next r hstate hpending =>
      rw [if_pos (.inl hstate), hpending]
      exact hstops r
    · next r hstate hpending =>
      rw [if_pos (.inr hstate), hpending]
      exact hstops r
    · next hstarting hrecording =>
      have hnone : (if c.recorder.state = .starting ∨ c.recorder.state = .recording then c.recorder.pendingStop
          else none) = none := by
        split
        · next hactive =>
          cases hpending : c.recorder.pendingStop with
          | none => rfl
          | some r => exact (hactive.elim (hstarting r · hpending) (hrecording r · hpending)).elim
        · rfl
      rw [hnone]
      exact ⟨⟨rfl, rfl, rfl, rfl, rfl, rfl⟩, rfl, rfl, rfl, rfl, rfl⟩

theorem State.endClose_of_none {c : State} (h : c.recorder.openFrame = none) : c.endClose = c := by
  rw [State.endClose, h]

/-- With a frame closed: a pending stop, else the discontinuity's. -/
theorem State.settle_told {c : State} (h : c.recorder.openFrame ≠ none) (broken : Bool) :
    c.GoesOn (c.settle broken)
      (if c.recorder.state = .starting ∨ c.recorder.state = .recording then
        if broken = true then some (c.recorder.pendingStop.getD .frameDiscontinuity) else c.recorder.pendingStop
      else none) ∧
    { c.recorder with openFrame := none }.Steadies (c.settle broken).recorder := by
  cases broken with
  | false => exact State.endClose_told h
  | true =>
    have hsettle : c.settle true = ((c.requestStop .frameDiscontinuity).endClose).emptyRing := rfl
    obtain ⟨hgoes, hsteady⟩ := State.endClose_told (c := { c with recorder := { c.recorder with
      pendingStop := if c.recorder.canStop = true then some .frameDiscontinuity else c.recorder.pendingStop } }) h
    rw [hsettle, State.requestStop_of_frame h]
    generalize hp : (if c.recorder.canStop = true then some RecReason.frameDiscontinuity else c.recorder.pendingStop) = p
      at hgoes hsteady ⊢
    refine ⟨State.GoesOn.emptyRing ?_, hsteady⟩
    by_cases hactive : c.recorder.state = .starting ∨ c.recorder.state = .recording
    · have hreason : p = some (c.recorder.pendingStop.getD .frameDiscontinuity) := by
        rw [← hp]
        cases hpending : c.recorder.pendingStop with
        | none => exact if_pos ((Recorder.canStop_iff _).mpr ⟨hactive, hpending⟩)
        | some r =>
          refine if_neg fun hcan => ?_
          rw [((Recorder.canStop_iff _).mp hcan).2] at hpending
          cases hpending
      rw [if_pos hactive] at hgoes ⊢
      rw [if_pos rfl]
      rw [hreason] at hgoes ⊢
      exact hgoes
    · have hkept : p = c.recorder.pendingStop :=
        hp.symm.trans (if_neg fun hcan => hactive ((Recorder.canStop_iff _).mp hcan).1)
      rw [if_neg hactive] at hgoes ⊢
      rw [hkept] at hgoes ⊢
      exact hgoes

/-- With no frame to close a discontinuity stops the recording at once (R87). -/
theorem State.settle_of_none {c : State} (h : c.recorder.openFrame = none) (broken : Bool) :
    c.GoesOn (c.settle broken)
      (if broken = true ∧ (c.recorder.state = .starting ∨ c.recorder.state = .recording) ∧ c.recorder.pendingStop = none
        then some .frameDiscontinuity else none) ∧
    c.recorder.Steadies (c.settle broken).recorder := by
  have hstays : c.GoesOn c none := ⟨rfl, rfl, rfl, rfl, rfl, rfl⟩
  cases broken with
  | false =>
    have hsettle : c.settle false = c.endClose := rfl
    rw [hsettle, State.endClose_of_none h, if_neg fun h => Bool.false_ne_true h.1]
    exact ⟨hstays, rfl, rfl, rfl, rfl, rfl⟩
  | true =>
    have hsettle : c.settle true = ((c.requestStop .frameDiscontinuity).endClose).emptyRing := rfl
    obtain ⟨hstopped, hsteady⟩ := c.enterStopping_stopped .frameDiscontinuity
    have hnoframe : ¬c.recorder.openFrame.isSome = true := by
      rw [h]
      exact Bool.false_ne_true
    rw [hsettle, State.requestStop_eq]
    by_cases hcan : c.recorder.canStop = true
    · rw [if_pos hcan, if_neg hnoframe, if_pos ⟨rfl, (Recorder.canStop_iff _).mp hcan⟩,
        State.endClose_of_none (hsteady.1.trans h)]
      exact ⟨hstopped, hsteady⟩
    · rw [if_neg hcan, if_neg fun h => hcan ((Recorder.canStop_iff _).mpr h.2), State.endClose_of_none h]
      exact ⟨hstays.emptyRing, rfl, rfl, rfl, rfl, rfl⟩

end Sys2Proof.Machine
end

section
/-! PROOF. What the close of a frame and the opening of the next make of the unit store (R77, R81, R83, R85, R88). -/

namespace Sys2Proof.Machine

variable {s : State} {r r' : Recorder} {st st' st'' : UnitStore} {id : Nat} {u v : RecordUnit}

/-! ### A store in which no unit comes and no block goes -/

/-- The store has gained no unit and lost no free block. -/
structure UnitStore.Ebbs (st st' : UnitStore) : Prop where
  next : st'.nextId = st.nextId
  gone : ∀ k, st.find k = none → st'.find k = none
  free : st.freeCount ≤ st'.freeCount

theorem UnitStore.Ebbs.refl (st : UnitStore) : st.Ebbs st := ⟨rfl, fun _ => id, Nat.le_refl _⟩

theorem UnitStore.Ebbs.trans (h : st.Ebbs st') (h' : st'.Ebbs st'') : st.Ebbs st'' :=
  ⟨h'.next.trans h.next, fun k hk => h'.gone k (h.gone k hk), h.free.trans h'.free⟩

/-- The units of a store after one name's unit is replaced. -/
theorem UnitStore.find_replace (st : UnitStore) (i j : Nat) (hv : v.id = i) :
    (st.modify i (fun _ => v)).find j = (st.find j).map (fun w => if w.id = i then v else w) := by
  have hsame : st.modify i (fun _ => v) = st.modify i (fun w => if w.id = i then v else w) :=
    congrArg (fun us => { st with units := us }) (List.map_congr_left fun w _ => by
      split
      · next hw => exact (if_pos hw).symm
      · rfl)
  rw [hsame, UnitStore.find_modify st i j (f := fun w => if w.id = i then v else w) fun w => by
    split
    · next hw => exact hv.trans hw.symm
    · rfl]
  exact congrArg (fun f => (st.find j).map f) (funext fun w => by split <;> rfl)

theorem UnitStore.ebbs_modify (st : UnitStore) {f : RecordUnit → RecordUnit} (hf : ∀ u, (f u).id = u.id) (i : Nat) :
    st.Ebbs (st.modify i f) :=
  ⟨rfl, fun k hk => by rw [UnitStore.find_modify st i k hf, hk, Option.map_none], Nat.le_refl _⟩

theorem UnitStore.ebbs_replace (st : UnitStore) (hv : v.id = id) : st.Ebbs (st.modify id (fun _ => v)) :=
  ⟨rfl, fun k hk => by rw [UnitStore.find_replace st id k hv, hk, Option.map_none], Nat.le_refl _⟩

theorem UnitStore.ebbs_release (st : UnitStore) (i : Nat) : st.Ebbs (st.release i) := by
  refine ⟨st.release_nextId i, fun k hk => ?_, ?_⟩
  · by_cases hi : k = i
    · rw [hi] at hk ⊢
      rw [UnitStore.release, hk]
      exact hk
    · exact (UnitStore.find_release_other st hi).trans hk
  · cases h : st.find i with
    | none => rw [UnitStore.release, h]
    | some w =>
      obtain ⟨-, hfree, -⟩ := UnitStore.release_told st i w h
      rw [hfree]
      split
      · exact Nat.le_add_right _ _
      · exact Nat.le_refl _

theorem UnitStore.ebbs_releaseAll (st : UnitStore) (ids : List Nat) : st.Ebbs (st.releaseAll ids) := by
  induction ids generalizing st with
  | nil => exact .refl st
  | cons i rest ih => exact (st.ebbs_release i).trans (ih (st.release i))

theorem Recorder.StoreStep.ebbs (h : r.StoreStep r') : r.store.Ebbs r'.store := by
  cases h with
  | release n => exact r.store.ebbs_release n
  | releaseAll ids => exact r.store.ebbs_releaseAll ids
  | addRef n => exact r.store.ebbs_modify (f := fun u => { u with refs := u.refs + 1 }) (fun _ => rfl) n
  | releaseAssembly =>
    unfold Recorder.releaseAssembly
    split
    · exact .refl _
    · exact r.store.ebbs_release _
  | trimRing n => exact r.store.ebbs_releaseAll _
  | clearRing => exact .refl _
  | describe u v hfind hsame => exact r.store.ebbs_replace hsame.1

theorem ebbs_closed (st : UnitStore) : RecordClosed (fun s => st.Ebbs s.recorder.store) where
  hand := by
    intro u m hu
    simpa using hu
  frame := by
    rintro u v ⟨-, -, -, hstore, -⟩ hu
    exact hstore.symm ▸ hu
  store := fun hstep hu => hu.trans hstep.ebbs

theorem assemblyNone_closed : RecordClosed (fun s => s.recorder.assembly = none) where
  hand := by
    intro u m hu
    simpa using hu
  frame := by
    rintro u v ⟨-, -, -, -, -, hasm, -⟩ hu
    exact hasm.trans hu
  store := by
    intro u r hstep hu
    cases hstep with
    | releaseAssembly => exact Recorder.releaseAssembly_assembly _
    | _ => exact hu

theorem RecordClosed.settle {P : State → Prop} (hP : RecordClosed P) (broken : Bool) (hs : P s) :
    P (s.settle broken) := by
  unfold State.settle
  split
  · exact hP.emptyRing (hP.endClose (hP.requestStop _ hs))
  · exact hP.endClose hs

theorem UnitStore.ebbs_ringAppend (r : Recorder) (n id : Nat) : r.store.Ebbs (r.ringAppend n id).store :=
  (UnitStore.ebbs_releaseAll ..).trans (UnitStore.ebbs_modify _ (f := fun u => { u with refs := u.refs + 1 }) (fun _ => rfl) id)

/-- From a frame's close to the new frame the store gains nothing. -/
theorem State.settled_ebbs (s : State) (broken : Bool) :
    s.recorder.store.Ebbs (s.closeFrame.settle broken).recorder.store :=
  (ebbs_closed s.recorder.store).settle broken ((ebbs_closed s.recorder.store).closeFrame
    ((ebbs_closed s.recorder.store).closeUnit fun n id _ hu => hu.trans (UnitStore.ebbs_ringAppend _ n id)) (.refl _))

/-! ### Units released -/

/-- A unit whose one holder is among those released is gone. -/
theorem UnitStore.releaseAll_gone {ids : List Nat} (hmem : id ∈ ids) (h : st.find id = some v) (hone : v.refs = 1) :
    (st.releaseAll ids).find id = none := by
  induction ids generalizing st with
  | nil => exact absurd hmem List.not_mem_nil
  | cons i rest ih =>
    by_cases hi : id = i
    · subst hi
      refine (UnitStore.ebbs_releaseAll (st.release id) rest).gone id ?_
      rw [(UnitStore.release_told st id v h).1, if_pos (Nat.le_of_eq hone)]
    · exact ih ((List.mem_cons.mp hmem).resolve_left hi) ((UnitStore.find_release_other st hi).trans h)

theorem UnitStore.releaseAll_other {ids : List Nat} (hmem : id ∉ ids) : (st.releaseAll ids).find id = st.find id := by
  induction ids generalizing st with
  | nil => rfl
  | cons i rest ih =>
    exact (ih (List.not_mem_of_not_mem_cons hmem)).trans
      (UnitStore.find_release_other st (List.ne_of_not_mem_cons hmem))

/-- The holder that the ring is comes and the one that the assembly was goes: the unit stands as it was. -/
theorem UnitStore.addRef_release (h : st.find id = some v) (hheld : 1 ≤ v.refs) :
    ((st.addRef id).release id).find id = some v := by
  have hadded := UnitStore.find_modify_same (f := fun u => { u with refs := u.refs + 1 }) (fun _ => rfl) h
  rw [UnitStore.addRef, (UnitStore.release_told _ id _ hadded).1, if_neg (Nat.not_le.mpr (Nat.succ_lt_succ hheld))]
  rfl

/-! ### The next frame (R81) -/

/-- The recorder with the unit of the new frame, before its head block. -/
def Recorder.nameUnit (r : Recorder) (m : OpenFrame) : Recorder :=
  { r with
    store := { r.store with units := r.store.units ++ [newUnit r.store.nextId m], nextId := r.store.nextId + 1 }
    assembly := some r.store.nextId }

theorem Recorder.openUnit_eq (r : Recorder) (m : OpenFrame) :
    r.openUnit m = ((r.nameUnit m).allocBlock r.store.nextId).1 := rfl

theorem Recorder.nameUnit_find (r : Recorder) (m : OpenFrame) (k : Nat) :
    (r.nameUnit m).store.find k =
      (r.store.find k).or (if k = r.store.nextId then some (newUnit r.store.nextId m) else none) := by
  have hnew : (newUnit r.store.nextId m).id = r.store.nextId := rfl
  simp only [Recorder.nameUnit, UnitStore.find, List.find?_append, List.find?_cons, List.find?_nil, hnew]
  congr 1
  by_cases hk : r.store.nextId = k
  · simp [hk]
  · rw [if_neg fun h => hk h.symm, beq_eq_false_iff_ne.mpr hk]

/-- A block sought leaves the names, the assembly, and everything else but the ring and the counts. -/
theorem Recorder.allocBlock_kept (r : Recorder) (id : Nat) :
    let q := (r.allocBlock id).1
    q = { r with store := q.store, ring := q.ring, ringEvicted := q.ringEvicted, droppedUnits := q.droppedUnits } ∧
    (∀ k, r.store.find k = none → q.store.find k = none) ∧ (r.ring = [] → q.ring = []) := by
  have hgive {q : Recorder} {b : Nat} {st : UnitStore} (htake : q.store.takeBlock = some (b, st)) (k : Nat)
      (hk : q.store.find k = none) : (q.giveBlock id b st).store.find k = none := by
    have hfind : st.find k = none := by
      rw [UnitStore.find, (UnitStore.takeBlock_units htake).1]
      exact hk
    exact (st.ebbs_modify (f := fun u => { u with blocks := u.blocks ++ [b] }) (fun _ => rfl) id).gone k hfind
  have hdrop (q : Recorder) (k : Nat) (hk : q.store.find k = none) : (q.dropUnit id).store.find k = none :=
    (UnitStore.ebbs_modify { q.store with returned := _ } (f := RecordUnit.drop) (fun _ => rfl) id).gone k hk
  cases htake : r.store.takeBlock with
  | some had =>
    rw [Recorder.allocBlock_of_block htake]
    exact ⟨rfl, hgive htake, fun h => h⟩
  | none =>
    cases hring : r.ring with
    | nil =>
      rw [Recorder.allocBlock_of_empty htake hring]
      exact ⟨rfl, hdrop r, fun _ => hring⟩
    | cons old rest =>
      have hevict (k : Nat) (hk : r.store.find k = none) : (r.evict old rest).store.find k = none :=
        (r.store.ebbs_release old).gone k hk
      rw [Recorder.allocBlock_of_evicted htake hring]
      split
      · next htake' => exact ⟨rfl, fun k hk => hgive htake' k (hevict k hk), nofun⟩
      · exact ⟨rfl, fun k hk => hdrop _ k (hevict k hk), nofun⟩

/-- What the opening of a frame leaves of the recorder. -/
def Recorder.Opened (m : OpenFrame) (r r' : Recorder) : Prop :=
  r' = { r with
    openFrame := some m, store := r'.store, assembly := r'.assembly, ring := r'.ring, ringEvicted := r'.ringEvicted
    droppedUnits := r'.droppedUnits }

theorem State.openNew_of_idle (h : s.recorder.state = .idle) (m : OpenFrame) :
    s.openNew m = { s with recorder := { s.recorder with openFrame := some m } } := by
  unfold State.openNew
  dsimp only
  rw [h]

theorem State.openNew_of_busy (h : s.recorder.state ≠ .idle) (m : OpenFrame) :
    s.openNew m = { s with recorder := ({ s.recorder with openFrame := some m } : Recorder).openUnit m } := by
  unfold State.openNew
  dsimp only
  split
  · next hidle => exact absurd hidle h
  · rfl

/-- The opening of a frame: no unit comes but the new one, and an empty ring stays empty. -/
theorem State.openNew_told (s : State) (m : OpenFrame) :
    let t := s.openNew m
    s.recorder.Opened m t.recorder ∧ (s.recorder.ring = [] → t.recorder.ring = []) ∧
    (∀ k, k ≠ s.recorder.store.nextId → s.recorder.store.find k = none → t.recorder.store.find k = none) ∧
    (s.recorder.state ≠ .idle → t.recorder.assembly = some s.recorder.store.nextId) := by
  intro t
  by_cases hidle : s.recorder.state = .idle
  · have ht : t = _ := s.openNew_of_idle hidle m
    rw [ht]
    exact ⟨rfl, fun h => h, fun _ _ hk => hk, fun h => absurd hidle h⟩
  · have ht : t = _ := s.openNew_of_busy hidle m
    rw [ht, Recorder.openUnit_eq]
    generalize hr : ({ s.recorder with openFrame := some m } : Recorder) = r
    have hnext : r.store.nextId = s.recorder.store.nextId := by rw [← hr]
    have hstore : r.store = s.recorder.store := by rw [← hr]
    have hring : r.ring = s.recorder.ring := by rw [← hr]
    obtain ⟨hkept, hgone, hempty⟩ := (r.nameUnit m).allocBlock_kept r.store.nextId
    generalize ((r.nameUnit m).allocBlock r.store.nextId).1 = q at hkept hgone hempty
    refine ⟨?_, fun h => hempty (hring.trans h), fun k hk hnone => hgone k ?_, fun _ => ?_⟩
    · rw [Recorder.Opened, hkept, ← hr]
      rfl
    · rw [Recorder.nameUnit_find, hnext, if_neg hk, hstore, hnone]
      rfl
    · rw [hkept]
      exact congrArg some hnext

/-- With a block free the new unit holds it, and the other units and the ring stand. -/
theorem State.openNew_given {m : OpenFrame} (hbusy : s.recorder.state ≠ .idle) (hfree : 0 < s.recorder.store.freeCount)
    (hnew : s.recorder.store.find s.recorder.store.nextId = none) :
    let t := s.openNew m
    (∃ b, t.recorder.store.find s.recorder.store.nextId = some ((newUnit s.recorder.store.nextId m).grow b)) ∧
    (∀ k, k ≠ s.recorder.store.nextId → t.recorder.store.find k = s.recorder.store.find k) ∧
    t.recorder.ring = s.recorder.ring := by
  intro t
  have ht : t = _ := s.openNew_of_busy hbusy m
  rw [ht, Recorder.openUnit_eq]
  obtain ⟨b, st, htake, hunits, hcount⟩ := UnitStore.takeBlock_of_free
    (st := (({ s.recorder with openFrame := some m } : Recorder).nameUnit m).store) hfree
  have hnamed (k : Nat) := Recorder.nameUnit_find { s.recorder with openFrame := some m } m k
  have hnew : (({ s.recorder with openFrame := some m } : Recorder).nameUnit m).store.find s.recorder.store.nextId =
      some (newUnit s.recorder.store.nextId m) := by
    rw [hnamed, hnew, if_pos rfl, Option.none_or]
  obtain ⟨hgiven, hothers, -⟩ := Recorder.giveBlock_told (b := b) hnew hunits hcount
  dsimp only
  rw [Recorder.allocBlock_of_block htake]
  refine ⟨⟨b, hgiven⟩, fun k hk => (hothers k hk).trans ?_, rfl⟩
  rw [hnamed, if_neg hk, Option.or_none]

end Sys2Proof.Machine
end

section
/-! PROOF. FRAME_MARK taken and mark silence: the close of a frame, its unit's disposal, and the next frame (R81 to R96). -/

namespace Sys2Proof.Machine

variable {s : State} {r r' : Recorder} {u v : RecordUnit} {f m : OpenFrame}

/-! ### The unit of a closed frame (R83) -/

theorem padTrack_take (n : Nat) (xs : List Int) : padTrack n (xs.take n) = (xs ++ List.replicate n 0).take n := by
  rw [padTrack, List.take_append, List.take_replicate, List.length_take]
  congr 2
  omega

/-- The unit as the close of its frame leaves it. -/
def State.unitAt (s : State) (f : OpenFrame) (u : RecordUnit) : RecordUnit :=
  let count := cadence f.rate f.frame
  { u with
    audio :=
      if u.dropped = true then u.audio else s.audio.fifo.map (fun z => (z ++ List.replicate count 0).take count)
    audioShort := u.audioShort || (!u.dropped && Four.all.any (fun t => decide ((s.audio.fifo.get t).length < count)))
    incomplete := u.incomplete || !u.main.last || (decide (u.proxy.bytes ≠ []) && !u.proxy.last)
    z := s.zoom.report.z
    focal := s.zoom.focalNow
    stab := s.stab.live
    faults := s.sup.summarySet }

theorem State.describe_eq (s : State) (f : OpenFrame) (u : RecordUnit) :
    s.describeUnit ((u.takeAudio (cadence f.rate f.frame) (s.audio.fifo.map (List.take (cadence f.rate f.frame)))
      (s.audio.fifo.map (fun z => cadence f.rate f.frame - z.length))).judgeComplete) = s.unitAt f u := by
  generalize hn : cadence f.rate f.frame = n
  have htracks : (s.audio.fifo.map (List.take n)).map (padTrack n) =
      s.audio.fifo.map (fun z => (z ++ List.replicate n 0).take n) := by
    simp only [Quad.map, padTrack_take]
  have hshort : (s.audio.fifo.map (fun z => n - z.length)).toList.any (fun k => decide (k ≠ 0)) =
      Four.all.any (fun t => decide ((s.audio.fifo.get t).length < n)) := by
    have hlen (k : Nat) : decide (n - k ≠ 0) = decide (k < n) := decide_eq_decide.mpr (by omega)
    simp only [Quad.map, Quad.toList, Four.all, Quad.get, List.any_cons, List.any_nil, hlen]
    rfl
  have htaken : u.takeAudio n (s.audio.fifo.map (List.take n)) (s.audio.fifo.map (fun z => n - z.length)) =
      { u with
        audio := if u.dropped = true then u.audio else s.audio.fifo.map (fun z => (z ++ List.replicate n 0).take n)
        audioShort :=
          u.audioShort || (!u.dropped && Four.all.any (fun t => decide ((s.audio.fifo.get t).length < n))) } := by
    rw [RecordUnit.takeAudio, htracks, hshort]
    by_cases hdropped : u.dropped = true
    · have hnone (b : Bool) : (!u.dropped && b) = false := by rw [hdropped, Bool.not_true, Bool.false_and]
      rw [if_pos hdropped, if_pos hdropped, hnone, Bool.or_false]
    · simp [hdropped]
  have hjudge (w : RecordUnit) : w.judgeComplete =
      { w with incomplete := w.incomplete || !w.main.last || (decide (w.proxy.bytes ≠ []) && !w.proxy.last) } := by
    rw [RecordUnit.judgeComplete, Bool.or_assoc]
    split
    · next h => rw [h, Bool.or_true]
    · next h => rw [Bool.eq_false_iff.mpr h, Bool.or_false]
  rw [htaken, hjudge, State.unitAt, hn]
  rfl

/-! ### The close of a frame -/

/-- Away from what a unit's disposal and the loss count change the two recorders are the same. -/
def Recorder.Closing (r r' : Recorder) : Prop :=
  r' = { r with
    store := r'.store, parts := r'.parts, pendingStop := r'.pendingStop, ring := r'.ring, lossCount := r'.lossCount }

theorem Recorder.Closing.trans {r'' : Recorder} (h : r.Closing r') (h' : r'.Closing r'') : r.Closing r'' := by
  unfold Recorder.Closing at h h' ⊢
  conv_lhs => rw [h']
  conv_lhs => rw [h]

theorem Recorder.Offered.closing (h : r.Offered r') : r.Closing r' := by
  unfold Recorder.Offered at h
  rw [h]
  rfl

/-- The state in which the unit of a frame has taken what its close gives it. -/
def State.atClose (s : State) (f : OpenFrame) (u : RecordUnit) : State :=
  { s with
    audio := { s.audio with fifo := s.audio.fifo.map (List.drop (cadence f.rate f.frame)) }
    recorder := s.recorder.modifyUnit u.id (fun _ => s.unitAt f u) }

/-- The closing of a unit: its disposal, then the loss count. -/
def State.account (s : State) (v : RecordUnit) : State := (s.dispose v).judgeLoss v

theorem State.closeFrame_of_unit (hf : s.recorder.openFrame = some f)
    (hu : s.recorder.assembly.bind s.recorder.store.find = some u) :
    s.closeFrame =
      { (s.atClose f u).account (s.unitAt f u) with
        recorder := ((s.atClose f u).account (s.unitAt f u)).recorder.releaseAssembly } := by
  have hdescribe : ({ s with audio := (s.audio.takeFrame (cadence f.rate f.frame)).1 } : State).describeUnit
      ((u.takeAudio (cadence f.rate f.frame) (s.audio.takeFrame (cadence f.rate f.frame)).2.1
        (s.audio.takeFrame (cadence f.rate f.frame)).2.2).judgeComplete) = s.unitAt f u := s.describe_eq f u
  have hclose : s.closeFrame = ({ s with audio := (s.audio.takeFrame (cadence f.rate f.frame)).1 } : State).closeUnit
      (cadence f.rate f.frame) (s.audio.takeFrame (cadence f.rate f.frame)).2.1
      (s.audio.takeFrame (cadence f.rate f.frame)).2.2 := by rw [State.closeFrame, hf]
  have hu : (({ s with audio := (s.audio.takeFrame (cadence f.rate f.frame)).1 } : State).recorder.assembly.bind
      ({ s with audio := (s.audio.takeFrame (cadence f.rate f.frame)).1 } : State).recorder.store.find) = some u := hu
  rw [hclose, State.closeUnit, hu]
  dsimp only
  rw [hdescribe]
  rfl

theorem State.closeFrame_of_none (hf : s.recorder.openFrame = some f)
    (hu : s.recorder.assembly.bind s.recorder.store.find = none) :
    s.closeFrame =
      { s with audio := { s.audio with fifo := s.audio.fifo.map (List.drop (cadence f.rate f.frame)) } } := by
  have hclose : s.closeFrame = ({ s with audio := (s.audio.takeFrame (cadence f.rate f.frame)).1 } : State).closeUnit
      (cadence f.rate f.frame) (s.audio.takeFrame (cadence f.rate f.frame)).2.1
      (s.audio.takeFrame (cadence f.rate f.frame)).2.2 := by rw [State.closeFrame, hf]
  have hu : (({ s with audio := (s.audio.takeFrame (cadence f.rate f.frame)).1 } : State).recorder.assembly.bind
      ({ s with audio := (s.audio.takeFrame (cadence f.rate f.frame)).1 } : State).recorder.store.find) = none := hu
  rw [hclose, State.closeUnit, hu]
  rfl

/-! ### The disposal of a unit and the loss count (R85, R96) -/

/-- A unit is offered, or its loss marked, in STARTING and RECORDING; it joins the ring in STANDBY. -/
theorem State.dispose_of_active (h : s.recorder.state = .starting ∨ s.recorder.state = .recording) (v : RecordUnit) :
    s.dispose v =
      if v.dropped = true then { s with recorder := s.recorder.markOpen ⟨.gap 1, v.frame⟩ } else s.offerAll v.id := by
  rcases h with h | h <;> (unfold State.dispose; rw [h])

theorem State.dispose_of_rest (h : ¬(s.recorder.state = .starting ∨ s.recorder.state = .recording)) (v : RecordUnit) :
    s.dispose v =
      if s.recorder.state = .standby ∧ v.dropped = false then
        { s with recorder := s.recorder.ringAppend s.items.record.preRecSeconds v.id }
      else s := by
  unfold State.dispose
  split
  · next hstate =>
    cases hdropped : v.dropped with
    | true => rw [if_pos rfl, if_neg fun h => Bool.noConfusion h.2]
    | false => rw [if_neg Bool.false_ne_true, if_pos ⟨hstate, rfl⟩]
  · next hstate => exact absurd (.inl hstate) h
  · next hstate => exact absurd (.inr hstate) h
  · next hstate => rw [if_neg fun h => RecState.noConfusion (hstate.symm.trans h.1)]
  · next hstate => rw [if_neg fun h => RecState.noConfusion (hstate.symm.trans h.1)]

theorem State.dispose_closing (h : s.recorder.openFrame ≠ none) (v : RecordUnit) :
    s.recorder.Closing (s.dispose v).recorder := by
  by_cases hactive : s.recorder.state = .starting ∨ s.recorder.state = .recording
  · rw [State.dispose_of_active hactive]
    split
    · rfl
    · exact (State.offers_offered s.openSlots h v.id).closing
  · rw [State.dispose_of_rest hactive]
    split
    · rfl
    · rfl

/-- The essence loss count once a unit has closed in RECORDING. -/
def Recorder.lossAfter (r : Recorder) (v : RecordUnit) : Nat := if v.tookEssence = true then 0 else r.lossCount + 1

/-- The essence loss count, and the stop it takes while a frame is open (R96). -/
theorem State.judgeLoss_of_recording (h : s.recorder.openFrame ≠ none) (hstate : s.recorder.state = .recording)
    (v : RecordUnit) :
    s.judgeLoss v = { s with recorder := { s.recorder with
      lossCount := s.recorder.lossAfter v
      pendingStop :=
        if v.tookEssence = false ∧ s.items.record.essenceLossFrames ≤ s.recorder.lossAfter v ∧
            s.recorder.pendingStop = none then
          some .essenceLost
        else s.recorder.pendingStop } } := by
  unfold State.judgeLoss Recorder.lossAfter
  rw [hstate]
  dsimp only
  cases htook : v.tookEssence with
  | true => rw [if_pos rfl, if_pos rfl, if_neg fun h => Bool.noConfusion h.1]
  | false =>
    rw [if_neg Bool.false_ne_true, if_neg Bool.false_ne_true]
    split
    · next hlimit =>
      refine (State.requestStop_of_frame (s := { s with recorder := { s.recorder with
        lossCount := s.recorder.lossCount + 1 } }) h .essenceLost).trans ?_
      have hcan : (({ s.recorder with lossCount := s.recorder.lossCount + 1 } : Recorder).canStop = true) ↔
          false = false ∧ s.items.record.essenceLossFrames ≤ s.recorder.lossCount + 1 ∧
            s.recorder.pendingStop = none := by
        rw [Recorder.canStop_iff]
        exact ⟨fun h => ⟨rfl, hlimit, h.2⟩, fun h => ⟨.inr hstate, h.2.2⟩⟩
      simp only [hcan]
    · next hlimit => rw [if_neg fun h => hlimit h.2.1]

theorem State.judgeLoss_of_other (hstate : s.recorder.state ≠ .recording) (v : RecordUnit) : s.judgeLoss v = s := by
  unfold State.judgeLoss
  split
  · next h => exact absurd h hstate
  · rfl

theorem State.judgeLoss_closing (h : s.recorder.openFrame ≠ none) (v : RecordUnit) :
    s.recorder.Closing (s.judgeLoss v).recorder := by
  by_cases hstate : s.recorder.state = .recording
  · rw [State.judgeLoss_of_recording h hstate]
    rfl
  · rw [State.judgeLoss_of_other hstate]
    rfl

theorem State.account_closing (h : s.recorder.openFrame ≠ none) (v : RecordUnit) :
    s.recorder.Closing (s.account v).recorder := by
  have hdispose := State.dispose_closing h v
  refine hdispose.trans (State.judgeLoss_closing ?_ v)
  rw [hdispose]
  exact h

/-- At rest the loss count, the parts and the slots stand. -/
theorem State.account_of_rest (h : ¬(s.recorder.state = .starting ∨ s.recorder.state = .recording)) (v : RecordUnit) :
    s.account v =
      if s.recorder.state = .standby ∧ v.dropped = false then
        { s with recorder := s.recorder.ringAppend s.items.record.preRecSeconds v.id }
      else s := by
  have hdispose := State.dispose_of_rest h v
  rw [State.account, State.judgeLoss_of_other, hdispose]
  intro hstate
  rw [hdispose] at hstate
  refine h (.inr (Eq.trans ?_ hstate))
  split <;> rfl

theorem State.account_rest_told (h : ¬(s.recorder.state = .starting ∨ s.recorder.state = .recording)) (v : RecordUnit) :
    (s.account v).recorder.lossCount = s.recorder.lossCount ∧ (s.account v).recorder.parts = s.recorder.parts ∧
    (s.account v).recorder.pendingStop = s.recorder.pendingStop ∧ (s.account v).slotA = s.slotA ∧
    (s.account v).slotB = s.slotB := by
  rw [State.account_of_rest h]
  split <;> exact ⟨rfl, rfl, rfl, rfl, rfl⟩

/-- In STARTING and RECORDING: the offers or the gap mark, and what the loss count then is and asks. -/
theorem State.account_of_active (hframe : s.recorder.openFrame ≠ none)
    (h : s.recorder.state = .starting ∨ s.recorder.state = .recording) (v : RecordUnit) :
    let w := s.dispose v
    let t := s.account v
    let loss := if s.recorder.state = .starting then s.recorder.lossCount else s.recorder.lossAfter v
    t.recorder.store = w.recorder.store ∧ t.recorder.parts = w.recorder.parts ∧ t.slotA = w.slotA ∧ t.slotB = w.slotB ∧
    t.recorder.lossCount = loss ∧
    t.recorder.pendingStop =
      match w.recorder.pendingStop with
      | some r => some r
      | none =>
        if s.recorder.state = .recording ∧ v.tookEssence = false ∧ s.items.record.essenceLossFrames ≤ loss then
          some .essenceLost
        else none := by
  intro w t loss
  have hclosing : s.recorder.Closing w.recorder := State.dispose_closing hframe v
  have hitems : w.items = s.items := by simp [w]
  have hstate : w.recorder.state = s.recorder.state := by rw [hclosing]
  have hloss : w.recorder.lossCount = s.recorder.lossCount := by
    have hoffered : s.recorder.Offered w.recorder := by
      have hw : w = _ := State.dispose_of_active h v
      rw [hw]
      split
      · rfl
      · exact State.offers_offered s.openSlots hframe v.id
    rw [hoffered]
  rcases h with h | h
  · have ht : t = w := State.judgeLoss_of_other (by rw [hstate, h]; nofun) v
    have hl : loss = s.recorder.lossCount := if_pos h
    rw [ht, hloss, hl, if_neg (by rw [h]; nofun)]
    exact ⟨rfl, rfl, rfl, rfl, rfl, by cases w.recorder.pendingStop <;> rfl⟩
  · have ht : t = _ := State.judgeLoss_of_recording (by rw [hclosing]; exact hframe) (hstate.trans h) v
    have hl : loss = s.recorder.lossAfter v := if_neg (by rw [h]; nofun)
    have hafter : w.recorder.lossAfter v = s.recorder.lossAfter v := by rw [Recorder.lossAfter, hloss]; rfl
    rw [ht, hl]
    refine ⟨rfl, rfl, rfl, rfl, hafter, ?_⟩
    dsimp only
    rw [hafter, hitems]
    cases w.recorder.pendingStop with
    | some r => exact if_neg fun h => by cases h.2.2
    | none => simp [h]

/-! ### The frame closed -/

/-- Away from what a close changes the two recorders are the same. -/
def Recorder.Closed (r r' : Recorder) : Prop :=
  r' = { r with
    store := r'.store, parts := r'.parts, pendingStop := r'.pendingStop, ring := r'.ring, assembly := r'.assembly
    lossCount := r'.lossCount }

theorem Recorder.Closing.releaseAssembly (h : r.Closing r') : r.Closed r'.releaseAssembly := by
  unfold Recorder.releaseAssembly
  split
  · rw [h]
    rfl
  · rw [h]
    rfl

/-- The assembly let go leaves the loss count, the parts and a pending stop. -/
theorem Recorder.releaseAssembly_told (r : Recorder) :
    r.releaseAssembly.lossCount = r.lossCount ∧ r.releaseAssembly.parts = r.parts ∧
    r.releaseAssembly.pendingStop = r.pendingStop := by
  unfold Recorder.releaseAssembly
  split <;> exact ⟨rfl, rfl, rfl⟩

theorem State.closeFrame_closed (s : State) : s.recorder.Closed s.closeFrame.recorder := by
  cases hf : s.recorder.openFrame with
  | none =>
    rw [State.closeFrame, hf]
    rfl
  | some f =>
    cases hu : s.recorder.assembly.bind s.recorder.store.find with
    | none =>
      rw [State.closeFrame_of_none hf hu]
      rfl
    | some u =>
      rw [State.closeFrame_of_unit hf hu]
      have hopen : (s.atClose f u).recorder.openFrame ≠ none := by
        intro h
        exact absurd (hf.symm.trans h) nofun
      have hatClose : s.recorder.Closing (s.atClose f u).recorder := rfl
      exact (hatClose.trans (State.account_closing hopen (s.unitAt f u))).releaseAssembly

theorem State.closeFrame_audio (hf : s.recorder.openFrame = some f) :
    s.closeFrame.audio = { s.audio with fifo := s.audio.fifo.map (List.drop (cadence f.rate f.frame)) } := by
  rw [State.closeFrame, hf]
  exact (State.closeUnit_keeps _ _ _ _).2.2.1

/-- The recording as it goes on from the parts and slots of `w`, or stops. -/
def State.GoesOnFrom (s w t : State) : Option RecReason → Prop
  | some r => t.Stopped s.items.record r
  | none =>
    t.recorder.state = s.recorder.state ∧ t.recorder.pendingStop = w.recorder.pendingStop ∧
    t.recorder.stopReason = s.recorder.stopReason ∧ t.recorder.parts = w.recorder.parts ∧
    t.slotA = w.slotA ∧ t.slotB = w.slotB

/-- What a close may stop the recording for: what is pending, and a discontinuity. -/
def stopAfter (broken : Bool) (r : Option RecReason) : Option RecReason :=
  if broken = true then some (r.getD .frameDiscontinuity) else r

theorem stopAfter_eq_none {broken : Bool} {r : Option RecReason} (h : stopAfter broken r = none) : r = none := by
  unfold stopAfter at h
  split at h
  · cases h
  · exact h

/-- The frame closed, the recording goes on from its parts and slots as they are then. -/
theorem State.closed_goesOn (hf : s.recorder.openFrame = some f) (broken : Bool) {w : State}
    (hparts : s.closeFrame.recorder.parts = w.recorder.parts) (hA : s.closeFrame.slotA = w.slotA)
    (hB : s.closeFrame.slotB = w.slotB) {reason : Option RecReason}
    (hreason : (if s.recorder.state = .starting ∨ s.recorder.state = .recording then
      stopAfter broken s.closeFrame.recorder.pendingStop else none) = reason)
    (hpending : reason = none → s.closeFrame.recorder.pendingStop = w.recorder.pendingStop) :
    s.GoesOnFrom w (s.closeFrame.settle broken) reason := by
  have hclosing := s.closeFrame_closed
  have hitems : s.closeFrame.items = s.items := by simp
  generalize s.closeFrame = d at hclosing hitems hparts hA hB hreason hpending ⊢
  have hopen : d.recorder.openFrame ≠ none := by
    rw [hclosing, hf]
    nofun
  have hstate : d.recorder.state = s.recorder.state := by rw [hclosing]
  have hstop : d.recorder.stopReason = s.recorder.stopReason := by rw [hclosing]
  obtain ⟨hgoes, -⟩ := State.settle_told hopen broken
  rw [hstate] at hgoes
  have hgoes : d.GoesOn (d.settle broken) reason := hreason ▸ hgoes
  cases reason with
  | some r =>
    rw [State.GoesOnFrom, ← hitems]
    exact hgoes
  | none =>
    obtain ⟨kstate, kpending, kstop, kparts, kA, kB⟩ := hgoes
    exact ⟨kstate.trans hstate, kpending.trans (hpending rfl), kstop.trans hstop, kparts.trans hparts, kA.trans hA,
      kB.trans hB⟩

/-! ### What the next frame leaves standing -/

/-- The frame closed, and it may be the next one opened. -/
structure State.Onward (e t : State) : Prop where
  audio : t.audio = e.audio
  slotA : t.slotA = e.slotA
  slotB : t.slotB = e.slotB
  recorder : t.recorder = { e.recorder with
    openFrame := t.recorder.openFrame, store := t.recorder.store, assembly := t.recorder.assembly
    ring := t.recorder.ring, ringEvicted := t.recorder.ringEvicted, droppedUnits := t.recorder.droppedUnits }
  gone : ∀ k, k ≠ e.recorder.store.nextId → e.recorder.store.find k = none → t.recorder.store.find k = none
  stands : 0 < e.recorder.store.freeCount → e.recorder.store.find e.recorder.store.nextId = none →
    (∀ k, k ≠ e.recorder.store.nextId → t.recorder.store.find k = e.recorder.store.find k) ∧
    t.recorder.ring = e.recorder.ring

theorem State.Onward.refl (e : State) : e.Onward e :=
  ⟨rfl, rfl, rfl, rfl, fun _ _ h => h, fun _ _ => ⟨fun _ _ => rfl, rfl⟩⟩

theorem State.Onward.openNew (e : State) (m : OpenFrame) : e.Onward (e.openNew m) := by
  obtain ⟨hopened, -, hgone, -⟩ := e.openNew_told m
  refine ⟨by simp, by simp, by simp, ?_, hgone, fun hfree hnew => ?_⟩
  · rw [hopened]
  · by_cases hidle : e.recorder.state = .idle
    · rw [State.openNew_of_idle hidle]
      exact ⟨fun _ _ => rfl, rfl⟩
    · obtain ⟨-, hothers, hring⟩ := State.openNew_given (m := m) hidle hfree hnew
      exact ⟨hothers, hring⟩

theorem State.Onward.goesOn {w e t : State} (h : e.Onward t) {reason : Option RecReason}
    (hgoes : s.GoesOnFrom w e reason) : s.GoesOnFrom w t reason := by
  have hkept := h.recorder
  have hopen (x : SlotId) : t.partOpened x = e.partOpened x := by
    unfold State.partOpened
    rw [hkept]
    rfl
  cases reason with
  | some r =>
    obtain ⟨hpending, hstop, hclosed, hstate⟩ := hgoes
    refine ⟨?_, ?_, fun x => (hopen x).trans (hclosed x), ?_⟩
    · rw [hkept]; exact hpending
    · rw [hkept]; exact hstop
    · rw [hkept]; exact hstate
  | none =>
    obtain ⟨hstate, hpending, hstop, hparts, hA, hB⟩ := hgoes
    rw [State.GoesOnFrom, hkept]
    exact ⟨hstate, hpending, hstop, hparts, h.slotA.trans hA, h.slotB.trans hB⟩

/-! ### What becomes of the recording and of the unit -/

section
variable {t : State} {broken : Bool} (hf : s.recorder.openFrame = some f) (ht : (s.closeFrame.settle broken).Onward t)
include hf ht

theorem State.Onward.lossCount : t.recorder.lossCount = s.closeFrame.recorder.lossCount := by
  have hopen : s.closeFrame.recorder.openFrame ≠ none := by
    rw [s.closeFrame_closed, hf]
    nofun
  obtain ⟨-, -, -, -, -, hloss⟩ := State.settle_told hopen broken
  rw [ht.recorder]
  exact hloss

/-- A frame without a unit (R83). -/
theorem State.Onward.of_noUnit (hu : s.recorder.assembly.bind s.recorder.store.find = none) :
    t.recorder.lossCount = s.recorder.lossCount ∧
    s.GoesOnFrom s t (if s.recorder.state = .starting ∨ s.recorder.state = .recording then
      stopAfter broken s.recorder.pendingStop else none) := by
  have hclose := State.closeFrame_of_none hf hu
  refine ⟨(State.Onward.lossCount hf ht).trans (by rw [hclose]), ht.goesOn (State.closed_goesOn hf broken ?_ ?_ ?_ ?_ ?_)⟩
  all_goals rw [hclose]
  exact fun _ => rfl

/-- The recording at rest goes on as it was. -/
theorem State.Onward.of_rest (hu : s.recorder.assembly.bind s.recorder.store.find = some u)
    (hrest : ¬(s.recorder.state = .starting ∨ s.recorder.state = .recording)) :
    t.recorder.lossCount = s.recorder.lossCount ∧ s.GoesOnFrom s t none := by
  have hkept : s.closeFrame.recorder.lossCount = s.recorder.lossCount ∧
      s.closeFrame.recorder.parts = s.recorder.parts ∧ s.closeFrame.recorder.pendingStop = s.recorder.pendingStop ∧
      s.closeFrame.slotA = s.slotA ∧ s.closeFrame.slotB = s.slotB := by
    obtain ⟨hloss, hparts, hpending, hA, hB⟩ := State.account_rest_told (s := s.atClose f u) hrest (s.unitAt f u)
    obtain ⟨kloss, kparts, kpending⟩ := ((s.atClose f u).account (s.unitAt f u)).recorder.releaseAssembly_told
    rw [State.closeFrame_of_unit hf hu]
    exact ⟨kloss.trans hloss, kparts.trans hparts, kpending.trans hpending, hA, hB⟩
  obtain ⟨hloss, hparts, hpending, hA, hB⟩ := hkept
  exact ⟨(State.Onward.lossCount hf ht).trans hloss,
    ht.goesOn (State.closed_goesOn hf broken hparts hA hB (if_neg hrest) fun _ => hpending)⟩

/-- The recording that takes units goes on from the offers, or the gap, that the unit made. -/
theorem State.Onward.of_active (hu : s.recorder.assembly.bind s.recorder.store.find = some u)
    (hactive : s.recorder.state = .starting ∨ s.recorder.state = .recording) :
    let w := (s.atClose f u).dispose (s.unitAt f u)
    let loss := if s.recorder.state = .starting then s.recorder.lossCount else s.recorder.lossAfter u
    t.recorder.lossCount = loss ∧
    s.GoesOnFrom w t (stopAfter broken
      (match w.recorder.pendingStop with
        | some r => some r
        | none =>
          if s.recorder.state = .recording ∧ u.tookEssence = false ∧ s.items.record.essenceLossFrames ≤ loss then
            some .essenceLost
          else none)) := by
  intro w loss
  have hopen : (s.atClose f u).recorder.openFrame ≠ none := fun h => absurd (hf.symm.trans h) nofun
  obtain ⟨-, hparts, hA, hB, hloss, hpending⟩ := State.account_of_active hopen hactive (s.unitAt f u)
  obtain ⟨kloss, kparts, kpending⟩ := ((s.atClose f u).account (s.unitAt f u)).recorder.releaseAssembly_told
  have hclose := State.closeFrame_of_unit hf hu
  have hp : s.closeFrame.recorder.pendingStop = _ := (congrArg (·.recorder.pendingStop) hclose).trans (kpending.trans hpending)
  refine ⟨(State.Onward.lossCount hf ht).trans ?_, ht.goesOn (State.closed_goesOn hf broken ?_ ?_ ?_ ?_ ?_)⟩
  · rw [hclose]
    exact kloss.trans hloss
  · rw [hclose]
    exact kparts.trans hparts
  · rw [hclose]
    exact hA
  · rw [hclose]
    exact hB
  · exact (if_pos hactive).trans (congrArg (stopAfter broken) hp)
  · intro hnone
    have hnothing := stopAfter_eq_none hnone
    refine hp.trans (hnothing.trans ?_)
    cases hw : w.recorder.pendingStop with
    | none => rfl
    | some r =>
      rw [hw] at hnothing
      cases hnothing
end

theorem State.atClose_find (hu : s.recorder.assembly.bind s.recorder.store.find = some u) :
    s.recorder.assembly = some u.id ∧ s.recorder.store.find u.id = some u ∧
    (s.atClose f u).recorder.store.find u.id = some (s.unitAt f u) ∧
    ∀ k, k ≠ u.id → (s.atClose f u).recorder.store.find k = s.recorder.store.find k := by
  obtain ⟨id, hasm, hfound⟩ := Option.bind_eq_some_iff.mp hu
  have hid : u.id = id := UnitStore.find_id hfound
  subst hid
  have hreplace (k : Nat) : (s.atClose f u).recorder.store.find k =
      (s.recorder.store.find k).map (fun w => if w.id = u.id then s.unitAt f u else w) :=
    UnitStore.find_replace s.recorder.store u.id k rfl
  refine ⟨hasm, hfound, ?_, fun k hk => ?_⟩
  · rw [hreplace, hfound, Option.map_some, if_pos rfl]
  · rw [hreplace]
    cases hw : s.recorder.store.find k with
    | none => rfl
    | some w => rw [Option.map_some, if_neg (by rw [UnitStore.find_id hw]; exact hk)]

/-- The assembly's holder leaves as the frame closes (R85). -/
theorem State.closeFrame_store (hf : s.recorder.openFrame = some f)
    (hu : s.recorder.assembly.bind s.recorder.store.find = some u) :
    s.closeFrame.recorder.store = ((s.atClose f u).account (s.unitAt f u)).recorder.store.release u.id ∧
    s.closeFrame.recorder.ring = ((s.atClose f u).account (s.unitAt f u)).recorder.ring ∧
    s.closeFrame.recorder.assembly = none := by
  have hopen : (s.atClose f u).recorder.openFrame ≠ none := fun h => absurd (hf.symm.trans h) nofun
  have hasm : ((s.atClose f u).account (s.unitAt f u)).recorder.assembly = some u.id := by
    rw [State.account_closing hopen (s.unitAt f u)]
    exact (State.atClose_find (f := f) hu).1
  rw [State.closeFrame_of_unit hf hu]
  dsimp only [Recorder.releaseAssembly]
  rw [hasm]
  exact ⟨rfl, rfl, rfl⟩

section
variable {t : State} {broken : Bool} (hf : s.recorder.openFrame = some f) (ht : (s.closeFrame.settle broken).Onward t)
include hf ht

/-- A unit with no other holder that is neither offered nor kept in the ring is gone (R85). -/
theorem State.Onward.released (hu : s.recorder.assembly.bind s.recorder.store.find = some u) (hsound : s.storeSound)
    (hone : u.refs = 1) (hleft : s.recorder.state = .idle ∨ s.recorder.state = .stopping ∨ u.dropped = true) :
    t.recorder.store.find u.id = none := by
  obtain ⟨-, hfind, hatClose, -⟩ := State.atClose_find (f := f) hu
  obtain ⟨⟨⟨-, hheld⟩, -, -⟩, -⟩ := State.storeSound_iff.mp hsound
  have hopen : (s.atClose f u).recorder.openFrame ≠ none := fun h => absurd (hf.symm.trans h) nofun
  have haccount : ((s.atClose f u).account (s.unitAt f u)).recorder.store = (s.atClose f u).recorder.store := by
    by_cases hactive : s.recorder.state = .starting ∨ s.recorder.state = .recording
    · have hdropped : (s.unitAt f u).dropped = true :=
        (hleft.resolve_left fun h => by simp [h] at hactive).resolve_left fun h => by simp [h] at hactive
      obtain ⟨hstore, -⟩ := State.account_of_active hopen hactive (s.unitAt f u)
      rw [hstore, State.dispose_of_active (s := s.atClose f u) hactive, if_pos hdropped]
      rfl
    · have hring : ¬((s.atClose f u).recorder.state = .standby ∧ (s.unitAt f u).dropped = false) := by
        rintro ⟨hstandby, hkept⟩
        have hstandby : s.recorder.state = .standby := hstandby
        have hkept : u.dropped = false := hkept
        simp [hstandby, hkept] at hleft
      rw [State.account_of_rest (s := s.atClose f u) hactive, if_neg hring]
  obtain ⟨hstore, -, -⟩ := State.closeFrame_store hf hu
  have hclosed : s.closeFrame.recorder.store.find u.id = none := by
    rw [hstore, haccount, (UnitStore.release_told _ u.id _ hatClose).1]
    exact if_pos (Nat.le_of_eq hone)
  have hnew : u.id ≠ (s.closeFrame.settle broken).recorder.store.nextId := by
    rw [(s.settled_ebbs broken).next]
    exact Nat.ne_of_lt (hheld u (List.mem_of_find?_eq_some hfind)).id_lt
  exact ht.gone u.id hnew (((ebbs_closed _).settle broken (UnitStore.Ebbs.refl _)).gone u.id hclosed)

end

theorem UnitStore.find_nextId {st : UnitStore} (h : st.Sound) : st.find st.nextId = none := by
  obtain ⟨-, hheld⟩ := h
  rw [UnitStore.find, List.find?_eq_none]
  intro w hw
  have hlt := (hheld w hw).id_lt
  simpa using Nat.ne_of_lt hlt

/-- A unit closed in STANDBY joins the ring, the oldest leaving (R88). -/
theorem State.Onward.joins {t : State} (hf : s.recorder.openFrame = some f)
    (ht : (s.closeFrame.settle false).Onward t)
    (hu : s.recorder.assembly.bind s.recorder.store.find = some u) (hstandby : s.recorder.state = .standby)
    (hdropped : u.dropped = false) (hsound : s.storeSound) (hfree : 0 < s.recorder.store.freeCount) :
    let room := s.recorder.ringCapacity s.items.record.preRecSeconds - 1
    t.recorder.state = .standby ∧
    t.recorder.ring = s.recorder.ring.drop (s.recorder.ring.length - room) ++ [u.id] ∧
    t.recorder.store.find u.id = some (s.unitAt f u) ∧
    ∀ j ∈ s.recorder.ring.take (s.recorder.ring.length - room), ∀ v,
      s.recorder.store.find j = some v → v.refs = 1 → t.recorder.store.find j = none := by
  intro room
  obtain ⟨hasm, hfind, hatClose, hothers⟩ := State.atClose_find (f := f) hu
  obtain ⟨⟨⟨-, hheld⟩, hring, -⟩, hapart⟩ := State.storeSound_iff.mp hsound
  have hrest : ¬(s.recorder.state = .starting ∨ s.recorder.state = .recording) := by simp [hstandby]
  obtain ⟨hstore, hringClosed, -⟩ := State.closeFrame_store hf hu
  rw [State.account_of_rest (s := s.atClose f u) hrest, if_pos ⟨hstandby, hdropped⟩] at hstore hringClosed
  have hopen : s.closeFrame.recorder.openFrame ≠ none := by
    rw [s.closeFrame_closed, hf]
    nofun
  have hstate : s.closeFrame.recorder.state = .standby := by rw [s.closeFrame_closed]; exact hstandby
  -- In STANDBY no stop is pending: the close is complete with the frame no longer open.
  have hsettled : s.closeFrame.settle false =
      { s.closeFrame with recorder := { s.closeFrame.recorder with openFrame := none } } := by
    have hsettle : s.closeFrame.settle false = s.closeFrame.endClose := rfl
    rw [hsettle, State.endClose]
    split
    · next hnone => exact absurd hnone hopen
    · dsimp only
      rw [hstate]
  have hebbs := s.settled_ebbs false
  have hnext : (s.closeFrame.settle false).recorder.store.nextId = s.recorder.store.nextId := hebbs.next
  have hnew := UnitStore.find_nextId (State.storeSound_iff.mp hsound).1.1
  obtain ⟨hstands, hringStands⟩ := ht.stands (Nat.lt_of_lt_of_le hfree hebbs.free) (hnext.symm ▸ hebbs.gone _ hnew)
  rw [hnext] at hstands
  have hunit := hheld u (List.mem_of_find?_eq_some hfind)
  have hevicted : u.id ∉ s.recorder.ring.take (s.recorder.ring.length - room) :=
    fun hmem => hapart u.id hasm (List.mem_of_mem_take hmem)
  generalize hids : s.recorder.ring.take (s.recorder.ring.length - room) = ids at hevicted
  have hreleased : s.closeFrame.recorder.store =
      ((((s.atClose f u).recorder.store.releaseAll ids).addRef u.id).release u.id) := by
    rw [hstore, ← hids]
    rfl
  have hsettledStore : (s.closeFrame.settle false).recorder.store = s.closeFrame.recorder.store := by rw [hsettled]
  refine ⟨?_, ?_, ?_, fun j hj w hw hone => ?_⟩
  · rw [ht.recorder, hsettled]
    exact hstate
  · rw [hringStands, hsettled]
    exact hringClosed
  · rw [hstands u.id (Nat.ne_of_lt hunit.id_lt), hsettledStore, hreleased]
    exact UnitStore.addRef_release ((UnitStore.releaseAll_other hevicted).trans hatClose) hunit.refs
  · have hne : j ≠ u.id := fun h => hevicted (h ▸ hj)
    have hjFind := List.mem_of_find?_eq_some hw
    have hjNamed := UnitStore.find_id hw
    have hgone : ((s.atClose f u).recorder.store.releaseAll ids).find j = none :=
      UnitStore.releaseAll_gone hj ((hothers j hne).trans hw) hone
    rw [hstands j (Nat.ne_of_lt (hjNamed ▸ (hheld w hjFind).id_lt)), hsettledStore, hreleased]
    exact (UnitStore.ebbs_release _ u.id).gone j ((UnitStore.ebbs_modify _ (f := fun u => { u with refs := u.refs + 1 })
      (fun _ => rfl) u.id).gone j hgone)

/-! ### The mark and the silence timer (R81, R84, R86, R87) -/

/-- A mark taken, before the frame it closes. -/
def State.marked (s : State) (m : OpenFrame) : State :=
  { s with
    recorder :=
      { s.recorder with
        lastMark := some m, markSilence := .running 200
        essenceGap := s.recorder.essenceGap || decide (0 < gapCountOf s.recorder.lastMark m)
        parts :=
          if gapCountOf s.recorder.lastMark m = 0 then s.recorder.parts
          else s.recorder.parts.map (fun p =>
            if p.phase = .opened then p.addMark ⟨.gap (gapCountOf s.recorder.lastMark m), m.frame⟩ else p) } }

theorem State.takeFrameMark_marked (s : State) (m : OpenFrame) :
    s.takeFrameMark m =
      ((s.marked m).closeFrame.settle (discontinuous s.recorder.lastMark m)).openNew m := by
  have hmarked : { s.markGap m with recorder :=
      { (s.markGap m).recorder with lastMark := some m, markSilence := .running 200 } } = s.marked m := by
    unfold State.markGap State.marked
    dsimp only
    by_cases hgap : gapCountOf s.recorder.lastMark m = 0
    · rw [if_pos hgap, if_pos hgap, hgap, decide_eq_false (Nat.lt_irrefl 0), Bool.or_false]
    · rw [if_neg hgap, if_neg hgap, decide_eq_true (Nat.pos_of_ne_zero hgap), Bool.or_true]
      rfl
  rw [State.takeFrameMark_eq, hmarked]

/-- What the frame's close and what follows it leave of the last mark, the silence timer and the gap indicator. -/
theorem State.settled_steadies (s : State) (broken : Bool) :
    { s.recorder with openFrame := none, lossCount := s.closeFrame.recorder.lossCount }.Steadies
      (s.closeFrame.settle broken).recorder := by
  cases hf : s.recorder.openFrame with
  | none =>
    have hclose : s.closeFrame = s := by rw [State.closeFrame, hf]
    obtain ⟨-, hsteady⟩ := State.settle_of_none hf broken
    rw [hclose]
    obtain ⟨hframe, hkept⟩ := hsteady
    exact ⟨hframe.trans hf, hkept⟩
  | some f =>
    have hclosed := s.closeFrame_closed
    obtain ⟨-, hframe, hmark, hsilence, hgap, hloss⟩ := State.settle_told (c := s.closeFrame)
      (by rw [hclosed, hf]; nofun) broken
    refine ⟨hframe, hmark.trans ?_, hsilence.trans ?_, hgap.trans ?_, hloss⟩
    all_goals rw [hclosed]

theorem State.settled_audio (s : State) (broken : Bool) :
    (s.closeFrame.settle broken).audio = s.closeFrame.audio := by
  unfold State.settle
  split <;> simp

theorem State.closeFrame_of_noFrame (hf : s.recorder.openFrame = none) : s.closeFrame = s := by
  rw [State.closeFrame, hf]

theorem State.GoesOn.from {t : State} {reason : Option RecReason} (h : s.GoesOn t reason) : s.GoesOnFrom s t reason := by
  cases reason with
  | some r => exact h
  | none => exact h

theorem State.settle_ring (s : State) : (s.settle true).recorder.ring = [] := by
  have hempty (u : State) : u.emptyRing.recorder.ring = [] := List.drop_eq_nil_of_le (by simp)
  exact hempty _

/-- In IDLE, with no unit, the close of a frame takes its samples and nothing more. -/
theorem State.settled_of_idle (hidle : s.recorder.state = .idle) (hnone : s.recorder.assembly = none) :
    s.closeFrame.settle false =
      { s with
        audio :=
          match s.recorder.openFrame with
          | some f => { s.audio with fifo := s.audio.fifo.map (List.drop (cadence f.rate f.frame)) }
          | none => s.audio
        recorder := { s.recorder with openFrame := none } } := by
  have hsettle (u : State) : u.settle false = u.endClose := rfl
  rw [hsettle]
  cases hf : s.recorder.openFrame with
  | none =>
    have hframe : ({ s.recorder with openFrame := none } : Recorder) = s.recorder := by rw [← hf]
    rw [State.closeFrame_of_noFrame hf, State.endClose_of_none hf, hframe]
  | some f =>
    rw [State.closeFrame_of_none hf (by rw [hnone]; rfl), State.endClose]
    dsimp only
    rw [hf]
    dsimp only
    rw [hidle]

/-- The state as a mark, or the end of marks, finds it before the close of the frame. -/
def State.beforeClose (s : State) (body : LinkCtl) (last : Option OpenFrame) (silence : Timer) (gap : Bool)
    (parts : List ClipPart) : State :=
  { s with
    body := body, out := []
    recorder := { s.recorder with lastMark := last, markSilence := silence, essenceGap := gap, parts := parts } }

/-- Settles O35. -/
theorem frameMarksAndSilence : Obligations.FrameMarksAndSilence := by
  intro s taken closed stopped active goesOn closes
  have hgoesOn (b w t : State) (hstate : b.recorder.state = s.recorder.state)
      (hstop : b.recorder.stopReason = s.recorder.stopReason) (hitems : b.items = s.items)
      (reason : Option RecReason) (h : b.GoesOnFrom w t reason) : goesOn w t reason := by
    cases reason with
    | some r =>
      rw [State.GoesOnFrom, hitems] at h
      exact h
    | none =>
      rw [State.GoesOnFrom, hstate, hstop] at h
      exact h
  have hcloses (body : LinkCtl) (last : Option OpenFrame) (silence : Timer) (gap : Bool) (parts : List ClipPart)
      (f : OpenFrame) (broken : Bool) (t : State) (hf : s.recorder.openFrame = some f)
      (ht : ((s.beforeClose body last silence gap parts).closeFrame.settle broken).Onward t) :
      closes (s.beforeClose body last silence gap parts) f broken t := by
    have hgoesOn (w t : State) := hgoesOn (s.beforeClose body last silence gap parts) w t rfl rfl rfl
    have hf : (s.beforeClose body last silence gap parts).recorder.openFrame = some f := hf
    refine ⟨ht.audio.trans ((State.settled_audio _ _).trans (State.closeFrame_audio hf)), ?_⟩
    intro after
    dsimp only
    split
    · next hu =>
      obtain ⟨hloss, hgoes⟩ := State.Onward.of_noUnit hf ht hu
      exact ⟨hloss, hgoesOn _ _ _ hgoes⟩
    · next u hu =>
      refine ⟨fun hsound hone hleft => State.Onward.released hf ht hu hsound hone hleft, fun hrest => ?_, fun hactive => ?_,
        fun hstandby hbroken hdropped => ?_⟩
      · obtain ⟨hloss, hgoes⟩ := State.Onward.of_rest hf ht hu hrest
        exact ⟨hloss, hgoesOn _ _ _ hgoes⟩
      · obtain ⟨hloss, hgoes⟩ := State.Onward.of_active hf ht hu hactive
        refine ⟨hloss, ?_⟩
        rw [State.dispose_of_active (s := (s.beforeClose body last silence gap parts).atClose f u) hactive] at hgoes
        by_cases hdropped : u.dropped = true
        · have hlost : ((s.beforeClose body last silence gap parts).unitAt f u).dropped = true := hdropped
          rw [if_pos hlost] at hgoes
          rw [if_pos hdropped]
          exact hgoesOn _ _ _ hgoes
        · have hwhole : ¬((s.beforeClose body last silence gap parts).unitAt f u).dropped = true := hdropped
          rw [if_neg hwhole] at hgoes
          rw [if_neg hdropped]
          exact hgoesOn _ _ _ hgoes
      · subst hbroken
        exact fun hsound hfree => State.Onward.joins hf ht hu hstandby hdropped hsound hfree
  constructor
  · intro seq frame tc rate n h mark broken gap b
    have hexec : exec (.frameMark seq frame tc rate) s = .next ((s.taken .frameMark seq n).takeFrameMark mark) :=
      congrArg _ (State.intake_of_takes h)
    have hgapOf : gapCountOf s.recorder.lastMark mark = gap := by
      unfold gapCountOf gap
      cases s.recorder.lastMark <;> rfl
    have hbrokenOf : discontinuous s.recorder.lastMark mark = broken := by
      unfold discontinuous broken
      cases s.recorder.lastMark <;> rfl
    have hb : (s.taken .frameMark seq n).marked mark = b := by
      have hlast : gapCountOf (s.taken .frameMark seq n).recorder.lastMark mark = gap := hgapOf
      rw [State.marked, hlast]
      rfl
    have hmark : (s.taken .frameMark seq n).takeFrameMark mark = (b.closeFrame.settle broken).openNew mark := by
      have hlast : discontinuous (s.taken .frameMark seq n).recorder.lastMark mark = broken := hbrokenOf
      rw [State.takeFrameMark_marked, hb, hlast]
    generalize he : b.closeFrame.settle broken = e at hmark
    obtain ⟨hopened, hempty, -, hassembly⟩ := e.openNew_told mark
    have hsteady : { b.recorder with openFrame := none, lossCount := b.closeFrame.recorder.lossCount }.Steadies
        e.recorder := he ▸ b.settled_steadies broken
    obtain ⟨-, hlast, hsilence, hgap, -⟩ := hsteady
    have hebbs : b.recorder.store.Ebbs e.recorder.store := he ▸ b.settled_ebbs broken
    have honward : (b.closeFrame.settle broken).Onward (e.openNew mark) := he ▸ State.Onward.openNew e mark
    have hnext : e.recorder.store.nextId = s.recorder.store.nextId := hebbs.next
    refine ⟨e.openNew mark, hexec.trans (congrArg _ hmark), ?_, ?_, ?_, ?_, ?_, ?_, ?_, ?_⟩
    · rw [hopened]
      exact hlast
    · rw [hopened]
    · rw [hopened]
      exact hsilence
    · rw [hopened]
      exact hgap
    · split
      · next f hf => exact hcloses _ _ _ _ _ f broken _ hf honward
      · next hf =>
        have hclose : b.closeFrame = b := State.closeFrame_of_noFrame hf
        obtain ⟨hgoes, -, -, -, -, hloss⟩ := State.settle_of_none (c := b) hf broken
        rw [hclose] at he
        rw [he] at hgoes hloss
        refine ⟨honward.audio.trans ((State.settled_audio b broken).trans (congrArg State.audio hclose :)), ?_, ?_⟩
        · rw [hopened]
          exact hloss
        · exact hgoesOn b b _ rfl rfl rfl _ ((State.Onward.openNew e mark).goesOn hgoes.from)
    · intro hbroken
      refine hempty ?_
      rw [← he, hbroken]
      exact State.settle_ring _
    · intro hbusy
      have hbusy : e.recorder.state ≠ .idle := by
        rw [hopened] at hbusy
        exact hbusy
      refine ⟨(hassembly hbusy).trans (congrArg some hnext), fun hsound hfree => ?_⟩
      have hnew := hebbs.gone _ (UnitStore.find_nextId (State.storeSound_iff.mp hsound).1.1)
      obtain ⟨⟨block, hgiven⟩, -⟩ := State.openNew_given (m := mark) hbusy (Nat.lt_of_lt_of_le hfree hebbs.free)
        (hnext.symm ▸ hnew)
      rw [hnext] at hgiven
      exact ⟨block, hgiven⟩
    · intro hidle hnone hbroken hgap
      rw [← he, hbroken, State.settled_of_idle (s := b) hidle hnone]
      refine (State.openNew_of_idle (by exact hidle) mark).trans ?_
      cases hf : s.recorder.openFrame with
      | none => rfl
      | some f => rfl
  · intro ms hrunning b
    have hexec : exec .markSilenceTimerExpiry s = .next (b.closeFrame.settle false) := by
      have hrun : s.recorder.markSilence.isRunning = true := by rw [hrunning]; rfl
      exact congrArg _ (if_pos hrun)
    obtain ⟨hframe, hlast, hsilence, -, -⟩ := b.settled_steadies false
    refine ⟨_, hexec, hframe, hsilence, hlast, ?_⟩
    split
    · next hf =>
      have hf : b.recorder.openFrame = none := hf
      rw [State.closeFrame_of_noFrame hf]
      exact State.endClose_of_none hf
    · next f hf =>
      refine ⟨hcloses _ _ _ _ _ f false _ hf (State.Onward.refl _), fun id u hasm hu => ?_⟩
      have hbind : b.recorder.assembly.bind b.recorder.store.find = some u := by
        have hasm : b.recorder.assembly = some id := hasm
        rw [hasm]
        exact hu
      obtain ⟨-, -, hnone⟩ := State.closeFrame_store (s := b) hf hbind
      exact assemblyNone_closed.settle false hnone

end Sys2Proof.Machine
end

section
/-! PROOF. AUDIO_IN taken: one packet through the samples, the meters, the release and the ramp (R55 to R71). -/

namespace Sys2Proof.Machine

variable {it : AudioItems} {a : Audio} {x : Nat → Quad Int}

/-! ### The other track of a pair, and the limiter on all four (R62, R64) -/

/-- The track that a track may be linked with. -/
def otherTrack : Four → Four
  | .i1 => .i2
  | .i2 => .i1
  | .i3 => .i4
  | .i4 => .i3

/-- A track is limited together with its other one. -/
def AudioItems.linked (it : AudioItems) (t : Four) : Bool :=
  (match t with | .i1 | .i2 => it.link12 | .i3 | .i4 => it.link34) && it.limitOn.get t && it.limitOn.get (otherTrack t)

/-- The gain that a sample leaves of a gain (R62). -/
def AudioItems.cut (it : AudioItems) (g : Nat) (y : Int) : Nat :=
  if (Int.tdiv (y * g) 65536).natAbs ≤ it.limitTh then g else it.limitTh * 65536 / y.natAbs

/-- The gain of a track after a sample of each. -/
def AudioItems.nextGain (it : AudioItems) (g : Four → Nat) (y : Four → Int) (t : Four) : Nat :=
  if it.linked t = true then
    min (it.cut (min (g t) (g (otherTrack t))) (y t)) (it.cut (min (g t) (g (otherTrack t))) (y (otherTrack t)))
  else if it.limitOn.get t = true then it.cut (g t) (y t)
  else g t

/-- The output of a track at a gain. -/
def AudioItems.output (it : AudioItems) (g : Nat) (y : Int) (t : Four) : Int :=
  if it.limitOn.get t = true then Int.tdiv (y * g) 65536 else y

theorem limitOne_eq (it : AudioItems) (g : Nat) (y : Int) :
    limitOne true it.limitTh g y = (it.cut g y, Int.tdiv (y * it.cut g y) 65536) := by
  have hby (g : Nat) : limitBy g y = Int.tdiv (y * g) 65536 := rfl
  unfold limitOne AudioItems.cut
  rw [if_pos rfl, hby]
  by_cases hover : it.limitTh < (Int.tdiv (y * g) 65536).natAbs
  · rw [if_pos hover, if_neg (Nat.not_le.mpr hover)]
    rfl
  · rw [if_neg hover, if_pos (Nat.not_lt.mp hover)]

theorem linkedGain_eq (it : AudioItems) (ga gb : Nat) (ya yb : Int) :
    linkedGain it.limitTh ga gb ya yb = min (it.cut (min ga gb) ya) (it.cut (min ga gb) yb) := by
  have hcases (y : Int) : (candidate it.limitTh (min ga gb) y = none ∧ it.cut (min ga gb) y = min ga gb) ∨
      (candidate it.limitTh (min ga gb) y = some (it.cut (min ga gb) y) ∧ it.cut (min ga gb) y ≤ min ga gb) := by
    have hone := limitOne_eq it (min ga gb) y
    have hle := limitOne_le true it.limitTh (min ga gb) y
    rw [hone] at hle
    unfold candidate AudioItems.cut
    by_cases hover : it.limitTh < (limitBy (min ga gb) y).natAbs
    · refine .inr ⟨?_, hle⟩
      rw [if_pos hover]
      exact congrArg some (if_neg (Nat.not_le.mpr hover)).symm
    · exact .inl ⟨if_neg hover, if_pos (Nat.not_lt.mp hover)⟩
  unfold linkedGain
  dsimp only
  obtain ⟨ha, hga⟩ | ⟨ha, hga⟩ := hcases ya
  all_goals obtain ⟨hb, hgb⟩ | ⟨hb, hgb⟩ := hcases yb
  all_goals rw [ha, hb]
  · rw [hga, hgb, min_self]
  · rw [hga, min_eq_right hgb]
  · rw [hgb, min_eq_left hga]

/-- The first track of a pair at one sample: linked, the smaller gain of both; else its own. -/
theorem limitPair_first (it : AudioItems) (link onA onB : Bool) (ga gb : Nat) (ya yb : Int) :
    let next :=
      if (link && onA && onB) = true then min (it.cut (min ga gb) ya) (it.cut (min ga gb) yb)
      else if onA = true then it.cut ga ya
      else ga
    (limitPair link onA onB it.limitTh ga gb ya yb).1.1 = next ∧
    (limitPair link onA onB it.limitTh ga gb ya yb).2.1 = if onA = true then Int.tdiv (ya * next) 65536 else ya := by
  unfold limitPair
  by_cases hboth : (link && onA && onB) = true
  · have hon : onA = true := by
      simp only [Bool.and_eq_true] at hboth
      exact hboth.1.2
    rw [if_pos hboth, if_pos hboth, linkedGain_eq]
    exact ⟨rfl, (if_pos hon).symm⟩
  · rw [if_neg hboth, if_neg hboth]
    cases onA with
    | false => exact ⟨rfl, rfl⟩
    | true =>
      dsimp only
      rw [limitOne_eq]
      exact ⟨rfl, rfl⟩

/-- The tracks of a pair change places. -/
theorem limitPair_swap (it : AudioItems) (link onA onB : Bool) (ga gb : Nat) (ya yb : Int) :
    limitPair link onA onB it.limitTh ga gb ya yb =
      let p := limitPair link onB onA it.limitTh gb ga yb ya
      (p.1.swap, p.2.swap) := by
  have hgain : linkedGain it.limitTh ga gb ya yb = linkedGain it.limitTh gb ga yb ya := by
    rw [linkedGain_eq, linkedGain_eq, Nat.min_comm ga gb, Nat.min_comm (it.cut _ ya)]
  have hboth : (link && onA && onB) = (link && onB && onA) := by rw [Bool.and_assoc, Bool.and_comm onA, Bool.and_assoc]
  unfold limitPair
  rw [hgain, hboth]
  split <;> rfl

/-- The limiter on all four tracks, track by track (R62, R64). -/
theorem limitAll_get (it : AudioItems) (lg : Quad Nat) (y : Quad Int) (t : Four) :
    (limitAll it lg y).1.get t = it.nextGain lg.get y.get t ∧
    (limitAll it lg y).2.get t = it.output (it.nextGain lg.get y.get t) (y.get t) t := by
  cases t with
  | i1 => exact limitPair_first it it.link12 it.limitOn.q1 it.limitOn.q2 lg.q1 lg.q2 y.q1 y.q2
  | i2 =>
    have hfirst := limitPair_first it it.link12 it.limitOn.q2 it.limitOn.q1 lg.q2 lg.q1 y.q2 y.q1
    have hswap := limitPair_swap it it.link12 it.limitOn.q1 it.limitOn.q2 lg.q1 lg.q2 y.q1 y.q2
    refine Eq.mpr ?_ hfirst
    unfold limitAll
    rw [hswap]
    rfl
  | i3 => exact limitPair_first it it.link34 it.limitOn.q3 it.limitOn.q4 lg.q3 lg.q4 y.q3 y.q4
  | i4 =>
    have hfirst := limitPair_first it it.link34 it.limitOn.q4 it.limitOn.q3 lg.q4 lg.q3 y.q4 y.q3
    have hswap := limitPair_swap it it.link34 it.limitOn.q3 it.limitOn.q4 lg.q3 lg.q4 y.q3 y.q4
    refine Eq.mpr ?_ hfirst
    unfold limitAll
    rw [hswap]
    rfl

/-! ### One sample of each input (R55, R59, R68, R71) -/

/-- A value held in the range of a sample. -/
def heldSample (v : Int) : Int := max (-8388608) (min 8388607 v)

theorem clampSample_eq (v : Int) : clampSample v = heldSample v := by
  unfold clampSample clampInt heldSample
  omega

/-- A track's sample after the gain of its input, before it saturates. -/
def Audio.staged (it : AudioItems) (a : Audio) (x : Quad Int) (t : Four) : Int :=
  roundDiv (x.get (it.inputOf t) * (a.gainTable.getD (a.gainNow.get (it.inputOf t)) 0 : Nat)) 65536

/-- A track's sample as the limiter finds it. -/
def Audio.level (it : AudioItems) (a : Audio) (x : Quad Int) (t : Four) : Int := heldSample (a.staged it x t)

/-- A track's sample as it leaves the limiter. -/
def Audio.sent (it : AudioItems) (a : Audio) (x : Quad Int) (t : Four) : Int :=
  it.output (it.nextGain a.limGain.get (a.level it x) t) (a.level it x t) t

/-- One side of a monitor pair, from the four tracks. -/
def mixOf (gain : Quad Nat) (z : Four → Int) : Int :=
  heldSample (roundDiv (z .i1 * gain.q1 + z .i2 * gain.q2 + z .i3 * gain.q3 + z .i4 * gain.q4) 65536)

theorem Audio.sampleStep_told (it : AudioItems) (a : Audio) (x : Quad Int) :
    let q := (a.sampleStep it x).1
    q = { a with clip := q.clip, limGain := q.limGain, fifo := q.fifo, overflow := q.overflow, peakAcc := q.peakAcc } ∧
    (a.sampleStep it x).2 = (mixOf it.monL (a.sent it x), mixOf it.monR (a.sent it x)) ∧
    ∀ t,
      q.limGain.get t = it.nextGain a.limGain.get (a.level it x) t ∧
      q.clip.get t = (a.clip.get t || decide (a.level it x t ≠ a.staged it x t)) ∧
      q.fifo.get t = (fifoAppend (a.fifo.get t) (a.sent it x t)).1 ∧
      q.overflow.get t =
        (if (fifoAppend (a.fifo.get t) (a.sent it x t)).2 = true then sat16 (a.overflow.get t + 1) else a.overflow.get t) ∧
      q.peakAcc.get t = max (a.peakAcc.get t) (a.sent it x t).natAbs := by
  generalize hstaged : (⟨.i1, .i2, .i3, .i4⟩ : Quad Four).map (fun t =>
      gainStage (a.gainTable.getD (a.gainNow.get (it.inputOf t)) 0) (x.get (it.inputOf t))) = staged
  have hstage (t : Four) : staged.get t = (a.level it x t, decide (a.level it x t ≠ a.staged it x t)) := by
    have hname : (⟨.i1, .i2, .i3, .i4⟩ : Quad Four).get t = t := by cases t <;> rfl
    rw [← hstaged, Quad.get_map, hname, Audio.level, ← clampSample_eq]
    rfl
  have hlevels : (staged.map Prod.fst).get = a.level it x := funext fun t => by rw [Quad.get_map, hstage]
  have hz (t : Four) := limitAll_get it a.limGain (staged.map Prod.fst) t
  rw [hlevels] at hz
  have hsent (t : Four) : (limitAll it a.limGain (staged.map Prod.fst)).2.get t = a.sent it x t := (hz t).2
  have hmix (gain : Quad Nat) :
      monitorMix gain (limitAll it a.limGain (staged.map Prod.fst)).2 = mixOf gain (a.sent it x) := by
    rw [monitorMix, clampSample_eq, mixOf, ← hsent, ← hsent, ← hsent, ← hsent]
    rfl
  unfold Audio.sampleStep
  rw [hstaged]
  dsimp only
  refine ⟨rfl, ?_, fun t => ⟨(hz t).1, ?_, ?_, ?_, ?_⟩⟩
  · rw [hmix, hmix]
  · rw [Quad.get_zipWith, hstage]
  · rw [Quad.get_map, Quad.get_zipWith, hsent]
  · rw [Quad.get_zipWith, Quad.get_zipWith, hsent]
  · rw [Quad.get_zipWith, hsent]

/-! ### The samples of a packet, in time order (R55) -/

/-- The unit after the first `k` samples of a packet. -/
def Audio.after (it : AudioItems) (a : Audio) (x : Nat → Quad Int) : Nat → Audio
  | 0 => { a with clip := .fill false }
  | k + 1 => ((Audio.after it a x k).sampleStep it (x k)).1

theorem Audio.sampleSteps_range (it : AudioItems) (a : Audio) (x : Nat → Quad Int) (j n : Nat) :
    (a.after it x j).sampleSteps it ((List.range' j n).map x) =
      (a.after it x (j + n), (List.range' j n).map (fun k => ((a.after it x k).sampleStep it (x k)).2)) := by
  induction n generalizing j with
  | zero => rfl
  | succ n ih =>
    have hstep : ((a.after it x j).sampleStep it (x j)).1 = a.after it x (j + 1) := rfl
    rw [List.range'_succ, List.map_cons, List.map_cons, Audio.sampleSteps]
    dsimp only
    rw [hstep, ih, Nat.add_right_comm, Nat.add_assoc]

/-- The samples change the flags, the limiter gains, the FIFOs and the accumulators alone. -/
theorem Audio.after_kept (it : AudioItems) (a : Audio) (x : Nat → Quad Int) (k : Nat) :
    let q := a.after it x k
    q = { a with clip := q.clip, limGain := q.limGain, fifo := q.fifo, overflow := q.overflow, peakAcc := q.peakAcc } := by
  induction k with
  | zero => rfl
  | succ k ih =>
    obtain ⟨hstep, -⟩ := (a.after it x k).sampleStep_told it (x k)
    intro q
    have hq : q = _ := hstep
    rw [hq]
    dsimp only
    rw [ih]

/-- A track's sample `k` as it leaves the limiter. -/
def Audio.sentAt (it : AudioItems) (a : Audio) (x : Nat → Quad Int) (k : Nat) (t : Four) : Int :=
  it.output ((a.after it x (k + 1)).limGain.get t) (a.level it (x k) t) t

theorem Audio.after_succ (it : AudioItems) (a : Audio) (x : Nat → Quad Int) (k : Nat) :
    let p := a.after it x k
    let q := a.after it x (k + 1)
    (p.sampleStep it (x k)).2 = (mixOf it.monL (a.sentAt it x k), mixOf it.monR (a.sentAt it x k)) ∧
    ∀ t,
      q.limGain.get t = it.nextGain p.limGain.get (a.level it (x k)) t ∧
      q.clip.get t = (p.clip.get t || decide (a.level it (x k) t ≠ a.staged it (x k) t)) ∧
      q.fifo.get t = (fifoAppend (p.fifo.get t) (a.sentAt it x k t)).1 ∧
      q.overflow.get t =
        (if (fifoAppend (p.fifo.get t) (a.sentAt it x k t)).2 = true then sat16 (p.overflow.get t + 1)
          else p.overflow.get t) ∧
      q.peakAcc.get t = max (p.peakAcc.get t) (a.sentAt it x k t).natAbs := by
  intro p q
  obtain ⟨-, hpair, htracks⟩ := p.sampleStep_told it (x k)
  have hkept : p = _ := a.after_kept it x k
  have hstaged : p.staged it (x k) = a.staged it (x k) := by
    rw [hkept]
    rfl
  have hlevel : p.level it (x k) = a.level it (x k) := by
    rw [hkept]
    rfl
  have hsent : p.sent it (x k) = a.sentAt it x k := by
    funext t
    obtain ⟨hgain, -⟩ := htracks t
    rw [Audio.sent, ← hgain, hlevel]
    rfl
  rw [hstaged, hlevel, hsent] at htracks
  rw [hsent] at hpair
  exact ⟨hpair, htracks⟩

/-- The clip flag: some sample so far saturated (R59). -/
theorem Audio.after_clip (it : AudioItems) (a : Audio) (x : Nat → Quad Int) (t : Four) (k : Nat) :
    (a.after it x k).clip.get t = true ↔ ∃ j, j < k ∧ a.level it (x j) t ≠ a.staged it (x j) t := by
  induction k with
  | zero => cases t <;> simp [Audio.after, Quad.fill, Quad.get]
  | succ k ih =>
    obtain ⟨-, htracks⟩ := a.after_succ it x k
    obtain ⟨-, hclip, -⟩ := htracks t
    rw [hclip, Bool.or_eq_true, ih, decide_eq_true_iff]
    constructor
    · rintro (⟨j, hj, hne⟩ | hne)
      · exact ⟨j, Nat.lt_succ_of_lt hj, hne⟩
      · exact ⟨k, Nat.lt_succ_self k, hne⟩
    · rintro ⟨j, hj, hne⟩
      rcases Nat.lt_succ_iff_lt_or_eq.mp hj with hlt | rfl
      · exact .inl ⟨j, hlt, hne⟩
      · exact .inr hne

/-- The accumulator: the largest magnitude so far (R65). -/
theorem Audio.after_peakAcc (it : AudioItems) (a : Audio) (x : Nat → Quad Int) (t : Four) (k : Nat) :
    (a.after it x k).peakAcc.get t =
      (List.range k).foldl (fun p j => max p (a.sentAt it x j t).natAbs) (a.peakAcc.get t) := by
  induction k with
  | zero => rfl
  | succ k ih =>
    obtain ⟨-, htracks⟩ := a.after_succ it x k
    obtain ⟨-, -, -, -, hpeak⟩ := htracks t
    rw [hpeak, ih, List.range_succ, List.foldl_append]
    rfl

/-- One more sample lost. -/
theorem sat16_lost (n was : Nat) :
    sat16 ((if was = 0 then n else min 65535 (n + was)) + 1) = min 65535 (n + (was + 1)) := by
  unfold sat16
  by_cases hnone : was = 0
  · rw [if_pos hnone, hnone, Nat.min_comm]
  · rw [if_neg hnone]
    omega

/-- The FIFO: the newest 4096 of what it held and the samples so far; the count of those lost (R68). -/
theorem Audio.after_fifo (it : AudioItems) (a : Audio) (x : Nat → Quad Int) (t : Four) (k : Nat)
    (h : (a.fifo.get t).length ≤ 4096) :
    let lost := (a.fifo.get t).length + k - 4096
    (a.after it x k).fifo.get t = (a.fifo.get t ++ (List.range k).map (fun j => a.sentAt it x j t)).drop lost ∧
    (a.after it x k).overflow.get t =
      if lost = 0 then a.overflow.get t else min 65535 (a.overflow.get t + lost) := by
  induction k with
  | zero =>
    have hnone : (a.fifo.get t).length + 0 - 4096 = 0 := by omega
    rw [hnone]
    exact ⟨by simp [Audio.after], rfl⟩
  | succ k ih =>
    obtain ⟨-, htracks⟩ := a.after_succ it x k
    obtain ⟨-, -, hfifo, hover, -⟩ := htracks t
    have hbefore (hroom : (a.fifo.get t).length + k < 4096) : (a.fifo.get t).length + k - 4096 = 0 := by omega
    have hafter (hroom : (a.fifo.get t).length + k < 4096) : (a.fifo.get t).length + (k + 1) - 4096 = 0 := by omega
    have hfull (hroom : ¬(a.fifo.get t).length + k < 4096) :
        (a.fifo.get t).length + (k + 1) - 4096 = (a.fifo.get t).length + k - 4096 + 1 := by omega
    obtain ⟨kfifo, kover⟩ := ih
    have hlength : ((a.after it x k).fifo.get t).length = min 4096 ((a.fifo.get t).length + k) := by
      rw [kfifo, List.length_drop, List.length_append, List.length_map, List.length_range]
      omega
    intro lost
    rw [hfifo, hover]
    unfold fifoAppend fifoCapacity
    rw [hlength, List.range_succ, List.map_append, ← List.append_assoc]
    by_cases hroom : (a.fifo.get t).length + k < 4096
    · have hlost : lost = 0 := hafter hroom
      rw [hbefore hroom] at kfifo kover
      rw [if_pos (by omega), hlost, kfifo, kover]
      exact ⟨by simp, rfl⟩
    · have hlost : lost = (a.fifo.get t).length + k - 4096 + 1 := hfull hroom
      have hlong : (a.fifo.get t).length + k - 4096 + 1 ≤
          (a.fifo.get t ++ (List.range k).map (fun j => a.sentAt it x j t)).length := by
        rw [List.length_append, List.length_map, List.length_range]
        omega
      rw [if_neg (by omega), kfifo, kover, List.drop_drop, hlost, if_pos rfl, if_neg (Nat.succ_ne_zero _),
        List.drop_append_of_le_length hlong]
      refine ⟨rfl, ?_⟩
      exact sat16_lost _ _

/-! ### Meters, release, ramp and period (R61, R63, R65, R67) -/

theorem meterThresholds_get (j : Nat) (hj : j < meterThresholds.length) :
    thresholdRounds (j + 1) meterThresholds[j] = true := by
  have hall : (meterThresholds.zipIdx 1).all (fun p => thresholdRounds p.2 p.1) = true := by
    have hsplit : meterThresholds.zipIdx 1 =
        (meterThresholds.take 30).zipIdx 1 ++ (meterThresholds.drop 30).zipIdx 31 := by
      conv_lhs => rw [← List.take_append_drop 30 meterThresholds, List.zipIdx_append]
      rfl
    rw [hsplit, List.all_append, meterThresholds_low, meterThresholds_high]
    rfl
  refine List.all_eq_true.mp hall (meterThresholds[j], j + 1) ?_
  rw [List.mem_iff_getElem]
  exact ⟨j, by simpa using hj, by simp [Nat.add_comm]⟩

/-- The meter level by the formula of the thresholds. -/
def meterOf (peak : Nat) : Nat :=
  ((List.range 60).filter (fun j => decide ((peak + 1) ^ 20 * 10 ^ (j + 1) ≤ 8388607 ^ 20))).length

theorem lt_threshold_iff (peak j : Nat) (hj : j < meterThresholds.length) :
    peak < meterThresholds[j] ↔ (peak + 1) ^ 20 * 10 ^ (j + 1) ≤ 8388607 ^ 20 := by
  have hrounds := meterThresholds_get j hj
  generalize meterThresholds[j] = th at hrounds ⊢
  simp only [thresholdRounds, Bool.and_eq_true, decide_eq_true_iff] at hrounds
  obtain ⟨hlow, hhigh⟩ := hrounds
  constructor
  · intro hlt
    exact (Nat.mul_le_mul_right _ (Nat.pow_le_pow_left hlt 20)).trans hlow
  · intro hle
    by_contra hge
    exact absurd ((Nat.mul_le_mul_right _ (Nat.pow_le_pow_left (Nat.succ_le_succ (Nat.not_lt.mp hge)) 20)).trans hle)
      (Nat.not_le.mpr hhigh)

theorem meterLevel_eq (peak : Nat) : meterLevel peak = meterOf peak := by
  have hlist : meterThresholds = (List.range 60).map (fun j => meterThresholds.getD j 0) := by
    refine List.ext_getElem (by rw [List.length_map, List.length_range, meterThresholds_length]) fun j hj _ => ?_
    rw [List.getElem_map, List.getElem_range, List.getD_eq_getElem _ _ hj]
  unfold meterLevel meterOf
  conv_lhs => rw [hlist]
  rw [List.filter_map, List.length_map]
  refine congrArg List.length (List.filter_congr fun j hj => ?_)
  have hj : j < meterThresholds.length := by rw [meterThresholds_length]; exact List.mem_range.mp hj
  rw [Function.comp_apply, List.getD_eq_getElem _ _ hj]
  exact decide_eq_decide.mpr (lt_threshold_iff peak j hj)

theorem peakUpdate_eq (m : Nat) (peak : Option Nat) (hold rise : Nat) :
    peakUpdate m peak hold rise =
      match peak with
      | none => (some m, 100, 5)
      | some h =>
        if m < h then (some m, 100, 5)
        else if hold ≠ 0 then (some h, hold - 1, rise)
        else if rise ≤ 1 then (some (min (h + 1) m), 0, 5)
        else (some h, 0, rise - 1) := by
  unfold peakUpdate
  cases peak with
  | none => rfl
  | some h =>
    dsimp only
    by_cases hhold : hold = 0
    · have hrise : rise - 1 = 0 ↔ rise ≤ 1 := Nat.sub_eq_zero_iff_le
      simp only [hhold, hrise]
    · rw [if_pos hhold, if_pos hhold]

/-- The end of a meter period on one track (R65, R67). -/
theorem Audio.endPeriod_get (a : Audio) (t : Four) :
    let q := a.endPeriod
    q.peakAcc.get t = 0 ∧ q.meter.get t = some (meterOf (a.peakAcc.get t)) ∧
    (q.peak.get t, q.holdCount.get t, q.riseCount.get t) =
      peakUpdate (meterOf (a.peakAcc.get t)) (a.peak.get t) (a.holdCount.get t) (a.riseCount.get t) := by
  rw [← meterLevel_eq]
  cases t <;> exact ⟨rfl, rfl, rfl⟩

/-- The unit once a packet's samples are through: one step of the ramp, and the release (R61, R63). -/
def Audio.released (it : AudioItems) (a : Audio) : Audio :=
  { a with
    gainNow := a.gainNow.zipWith rampStep it.inGain
    limGain := it.limitOn.zipWith (releaseGain it.limitRel) a.limGain }

theorem Audio.process_eq (it : AudioItems) (a : Audio) (x : Nat → Quad Int) :
    a.process it ((List.range 48).map x) =
      (((a.after it x 48).released it).advancePeriod,
        (List.range 48).map (fun k => (mixOf it.monL (a.sentAt it x k), mixOf it.monR (a.sentAt it x k)))) := by
  have hsteps := a.sampleSteps_range it x 0 48
  rw [← List.range_eq_range', Nat.zero_add] at hsteps
  have hpairs : (fun k => ((a.after it x k).sampleStep it (x k)).2) =
      fun k => (mixOf it.monL (a.sentAt it x k), mixOf it.monR (a.sentAt it x k)) :=
    funext fun k => (a.after_succ it x k).1
  rw [hpairs] at hsteps
  have hstart : ({ a with clip := .fill false } : Audio) = a.after it x 0 := rfl
  rw [Audio.process, hstart, hsteps]
  rfl

/-- The period count leaves everything but the meters. -/
theorem Audio.advancePeriod_kept (a : Audio) :
    let q := a.advancePeriod
    q = { a with
      peakAcc := q.peakAcc, period := q.period, meter := q.meter, peak := q.peak, holdCount := q.holdCount
      riseCount := q.riseCount } := by
  unfold Audio.advancePeriod
  split <;> rfl

theorem Audio.advancePeriod_get (a : Audio) (t : Four) :
    let q := a.advancePeriod
    if a.period < 9 then
      q.period = a.period + 1 ∧ q.peakAcc.get t = a.peakAcc.get t ∧ q.meter.get t = a.meter.get t ∧
      q.peak.get t = a.peak.get t ∧ q.holdCount.get t = a.holdCount.get t ∧ q.riseCount.get t = a.riseCount.get t
    else
      q.period = 0 ∧ q.peakAcc.get t = 0 ∧ q.meter.get t = some (meterOf (a.peakAcc.get t)) ∧
      (q.peak.get t, q.holdCount.get t, q.riseCount.get t) =
        peakUpdate (meterOf (a.peakAcc.get t)) (a.peak.get t) (a.holdCount.get t) (a.riseCount.get t) := by
  unfold Audio.advancePeriod
  by_cases hlast : a.period < 9
  · rw [if_pos (Nat.succ_lt_succ hlast), if_pos hlast]
    exact ⟨rfl, rfl, rfl, rfl, rfl, rfl⟩
  · rw [if_neg fun h => hlast (Nat.lt_of_succ_lt_succ h), if_neg hlast]
    exact ⟨rfl, a.endPeriod_get t⟩

/-! ### The filled packets (R56) -/

/-- The unit after `k` filled packets. -/
def Audio.filled (it : AudioItems) (a : Audio) : Nat → Audio
  | 0 => a
  | k + 1 => ((Audio.filled it a k).process it zeroPacket).1

/-- The monitor pairs of filled packet `k`. -/
def Audio.filledPairs (it : AudioItems) (a : Audio) (k : Nat) : List (Int × Int) :=
  ((a.filled it k).process it zeroPacket).2

theorem State.fillAudio_succ (s : State) (k : Nat) : s.fillAudio (k + 1) = (s.fillAudio k).processAudio zeroPacket := by
  induction k generalizing s with
  | zero => rfl
  | succ k ih => exact ih (s.processAudio zeroPacket)

theorem State.fillAudio_eq (s : State) (k : Nat) :
    s.fillAudio k = { s with
      audio := s.audio.filled s.items.audio k
      body := (List.range k).foldl (fun b j => b.hand (.monitor (s.audio.filledPairs s.items.audio j))) s.body } := by
  induction k with
  | zero => rfl
  | succ k ih =>
    rw [State.fillAudio_succ, ih, List.range_succ, List.foldl_append]
    rfl

theorem Audio.process_gapCount (it : AudioItems) (a : Audio) (x : Nat → Quad Int) :
    (a.process it ((List.range 48).map x)).1.gapCount = a.gapCount := by
  rw [Audio.process_eq, Audio.advancePeriod_kept, Audio.released, a.after_kept it x 48]

theorem Audio.filled_gapCount (it : AudioItems) (a : Audio) (k : Nat) : (a.filled it k).gapCount = a.gapCount := by
  induction k with
  | zero => rfl
  | succ k ih => exact (Audio.process_gapCount it (a.filled it k) fun _ => .fill 0).trans ih

/-- Settles O32. -/
theorem audioInTaken : Obligations.AudioInTaken := by
  intro s seq samples n hlen h it input other linked held cut meterOf processed fills
  have hother : other = otherTrack := funext fun t => by cases t <;> rfl
  have hlinked : linked = it.linked := funext fun t => by cases t <;> rfl
  have hprocessed (a : Audio) (x : Nat → Quad Int) :
      processed a (a.process it ((List.range 48).map x)).1 x (a.process it ((List.range 48).map x)).2 := by
    rw [Audio.process_eq]
    refine ⟨fun k t => (a.after it x k).limGain.get t, ?_⟩
    intro staged y z peak mix lost
    have hafter := a.after_kept it x 48
    have hkept := ((a.after it x 48).released it).advancePeriod_kept
    have hget := ((a.after it x 48).released it).advancePeriod_get
    dsimp only at hafter hkept hget ⊢
    generalize hb : ((a.after it x 48).released it).advancePeriod = b at hkept hget ⊢
    refine ⟨fun _ => rfl, fun k t _ => ?_, ?_, fun j => ?_, fun t => ⟨?_, ?_, fun hfits => ?_, ?_⟩, rfl⟩
    · obtain ⟨-, htracks⟩ := a.after_succ it x k
      rw [hlinked, hother]
      exact (htracks t).1
    · rw [hkept, Audio.released, hafter]
    · rw [hkept, Audio.released, hafter, Quad.get_zipWith]
      rfl
    · rw [hkept, Audio.released, Quad.get_zipWith]
      rfl
    · rw [hkept]
      exact a.after_clip it x t 48
    · rw [hkept]
      exact a.after_fifo it x t 48 hfits
    · have hpeak : ((a.after it x 48).released it).peakAcc.get t = peak t := a.after_peakAcc it x t 48
      have hmeters : ((a.after it x 48).released it) =
          { (a.after it x 48).released it with
            period := a.period, meter := a.meter, peak := a.peak, holdCount := a.holdCount, riseCount := a.riseCount } := by
        rw [Audio.released, hafter]
      have hget := hget t
      rw [hpeak, hmeters, peakUpdate_eq] at hget
      exact hget
  let filler : Nat → Quad Int := fun _ => .fill 0
  let packet : Nat → Quad Int := fun k => (samples.getD k (.fill 0#24)).map BitVec.toInt
  have hfiller : (List.range 48).map filler = zeroPacket := rfl
  have hpacket : (List.range 48).map packet = samples.map (Quad.map BitVec.toInt) := by
    refine List.ext_getElem (by simp [hlen]) fun k _ hk => ?_
    rw [List.length_map] at hk
    rw [List.getElem_map, List.getElem_range, List.getElem_map]
    exact congrArg (Quad.map BitVec.toInt) (List.getD_eq_getElem _ _ hk)
  let last := (s.audio.filled it fills).process it ((List.range 48).map packet)
  refine ⟨fun k => if k ≤ fills then s.audio.filled it k else last.1,
    fun k => if k < fills then s.audio.filledPairs it k else last.2, ?_, fun k hk => ?_, ?_, ?_⟩
  · exact if_pos (Nat.zero_le _)
  · dsimp only
    rw [if_pos hk.le, if_pos (Nat.succ_le_of_lt hk), if_pos hk]
    have hstep := hprocessed (s.audio.filled it k) filler
    rw [hfiller] at hstep
    exact hstep
  · dsimp only
    rw [if_pos (Nat.le_refl fills), if_neg (Nat.not_succ_le_self fills), if_neg (Nat.lt_irrefl fills)]
    exact hprocessed _ _
  · dsimp only
    rw [if_neg (Nat.not_succ_le_self fills)]
    have hhanded : (List.range (fills + 1)).foldl (fun b k =>
        b.hand (.monitor (if k < fills then s.audio.filledPairs it k else last.2))) s.body =
        ((List.range fills).foldl (fun b k => b.hand (.monitor (s.audio.filledPairs it k))) s.body).hand
          (.monitor last.2) := by
      rw [List.range_succ, List.foldl_append, List.foldl_ext _ (fun b k => b.hand (.monitor (s.audio.filledPairs it k)))
        s.body fun b k hk => by rw [if_pos (List.mem_range.mp hk)], List.foldl_cons, List.foldl_nil,
        if_neg (Nat.lt_irrefl fills)]
    rw [hhanded]
    have hexec : exec (.audioIn seq samples) s =
        .next ((s.taken .audioIn seq n).takeAudio n (samples.map (Quad.map BitVec.toInt))) :=
      (congrArg _ (if_pos hlen)).trans (congrArg _ (State.intake_of_takes h))
    have hnone : decide (n ≠ 0) = decide (0 < n) := decide_eq_decide.mpr Nat.pos_iff_ne_zero.symm
    have hgap : last.1.gapCount = s.audio.gapCount :=
      (Audio.process_gapCount it _ packet).trans (Audio.filled_gapCount it s.audio fills)
    have htaken : (s.taken .audioIn seq n).takeAudio n (samples.map (Quad.map BitVec.toInt)) =
        { s.taken .audioIn seq n with
          audio :=
            { last.1 with
              clipPresent := last.1.clip, silence := .running 5, meterLapse := .running 100
              gapPresent := decide (n ≠ 0), gapCount := sat16 (last.1.gapCount + n) }
          body := ((List.range fills).foldl (fun b k => b.hand (.monitor (s.audio.filledPairs it k))) s.body).hand
            (.monitor last.2) } := by
      rw [← hpacket, State.takeAudio, State.fillAudio_eq]
      rfl
    rw [hexec, htaken, hnone, hgap]

end Sys2Proof.Machine
end

section
/-! PROOF. VF_LINE taken and line silence: the lines sent and the counts (R129 to R134). -/

namespace Sys2Proof.Machine

variable {s : State}

/-! ### One line (R129, R133) -/

/-- The state in which line `n` is composed: at line 0 a new frame has started. -/
def State.atFrame (s : State) (n : Nat) : State := if n = 0 then s.frameStart else s

theorem State.atFrame_of_pos {n : Nat} (h : n ≠ 0) (s : State) : s.atFrame n = s := if_neg h

theorem State.ownLine_eq (s : State) (n : Nat) (pixels : List Pixel) :
    s.ownLine n pixels = { s with
      portSeq := s.portSeq + 1
      out := s.out ++ [.viewfinderLine s.portSeq n ((s.atFrame n).vf.composeLine n pixels)]
      vf := { (s.atFrame n).vf with expected := nextLine n, lastGood := some pixels } } := by
  unfold State.ownLine State.sendLine State.atFrame
  split <;> rfl

/-! ### Lines replaced (R130 to R132) -/

/-- The pixels of a replaced line. -/
def Viewfinder.good (f : Viewfinder) : List Pixel := f.lastGood.getD blackLine

/-- The lines sent for `count` lines left out from line `n` up, composed by `f`. -/
def replacedLines (seq : Byte) (f : Viewfinder) (good : List Pixel) (n count : Nat) : List Emission :=
  (List.range count).map (fun j =>
    .viewfinderLine (seq + BitVec.ofNat 8 j) (n + j) (f.composeLine (n + j) good))

/-- The state after `count` lines are replaced from line `n` up. -/
def State.replaced (s : State) (n count : Nat) : State :=
  { s with
    portSeq := s.portSeq + BitVec.ofNat 8 count
    out := s.out ++ replacedLines s.portSeq (s.atFrame n).vf s.vf.good n count
    vf :=
      { (s.atFrame n).vf with
        expected := nextLine (n + count - 1), repeated := sat16 (s.vf.repeated + count), lossPresent := true } }

theorem State.replaceLines_succ (s : State) (n count : Nat) :
    s.replaceLines n (count + 1) = (s.replaceLines n count).replaceLine (n + count) := by
  induction count generalizing s n with
  | zero => rfl
  | succ count ih =>
    have hstep := ih (s.replaceLine n) (n + 1)
    rw [Nat.add_right_comm, Nat.add_assoc] at hstep
    exact hstep

theorem State.atFrame_good (s : State) (n : Nat) : (s.atFrame n).vf.good = s.vf.good := by
  unfold State.atFrame
  split <;> rfl

theorem replacedLines_succ (seq : Byte) (f : Viewfinder) (good : List Pixel) (n count : Nat) :
    replacedLines seq f good n (count + 1) =
      replacedLines seq f good n count ++
        [.viewfinderLine (seq + BitVec.ofNat 8 count) (n + count) (f.composeLine (n + count) good)] := by
  unfold replacedLines
  rw [List.range_succ, List.map_append]
  rfl

theorem State.replaceLine_eq (s : State) (n : Nat) :
    s.replaceLine n = { s with
      portSeq := s.portSeq + 1
      out := s.out ++ [.viewfinderLine s.portSeq n ((s.atFrame n).vf.composeLine n s.vf.good)]
      vf :=
        { (s.atFrame n).vf with
          expected := nextLine n, repeated := sat16 (s.vf.repeated + 1), lossPresent := true } } := by
  unfold State.replaceLine State.sendLine State.atFrame
  split <;> rfl

theorem State.replaceLines_eq (s : State) (n count : Nat) :
    s.replaceLines n (count + 1) = s.replaced n (count + 1) := by
  induction count with
  | zero =>
    have hfirst : replacedLines s.portSeq (s.atFrame n).vf s.vf.good n 1 =
        [.viewfinderLine s.portSeq n ((s.atFrame n).vf.composeLine n s.vf.good)] := by
      rw [replacedLines_succ, BitVec.add_zero]
      rfl
    refine (s.replaceLine_eq n).trans ?_
    rw [State.replaced, hfirst]
    rfl
  | succ count ih =>
    have hgood : (s.replaced n (count + 1)).vf.good = s.vf.good := s.atFrame_good n
    have hrepeated : sat16 ((s.replaced n (count + 1)).vf.repeated + 1) = sat16 (s.vf.repeated + (count + 1 + 1)) := by
      change min (min (s.vf.repeated + (count + 1)) 65535 + 1) 65535 = min (s.vf.repeated + (count + 1 + 1)) 65535
      omega
    have hseq : (s.replaced n (count + 1)).portSeq + 1 = s.portSeq + BitVec.ofNat 8 (count + 1 + 1) := by
      rw [BitVec.ofNat_add, ← BitVec.add_assoc]
      rfl
    have hpos : n + (count + 1) ≠ 0 := Nat.succ_ne_zero _
    rw [State.replaceLines_succ, ih, State.replaceLine_eq, State.atFrame_of_pos hpos, hgood, hrepeated,
      hseq]
    conv_rhs => rw [State.replaced, replacedLines_succ, ← List.append_assoc]
    rfl

/-! ### A line taken (R129) -/

/-- The state after a line was sent from its own pixels, `count` lines replaced before it. -/
def State.lineSent (s : State) (f : Viewfinder) (es : List Emission) (line : Nat) (pixels : List Pixel) : State :=
  { s with
    portSeq := s.portSeq + BitVec.ofNat 8 (es.length + 1)
    out := s.out ++ (es ++ [.viewfinderLine (s.portSeq + BitVec.ofNat 8 es.length) line (f.composeLine line pixels)])
    vf := { f with expected := nextLine line, lastGood := some pixels } }

theorem replacedLines_length (seq : Byte) (f : Viewfinder) (good : List Pixel) (n count : Nat) :
    (replacedLines seq f good n count).length = count := by
  rw [replacedLines, List.length_map, List.length_range]

/-- What a line sent, after `k` lines replaced, puts on the port. -/
theorem State.lineSent_told (hout : s.out = []) {k : Nat} {es : List Emission} (hk : es.length = k) (f : Viewfinder)
    (line : Nat) (pixels : List Pixel) :
    let all := es ++ [.viewfinderLine (s.portSeq + BitVec.ofNat 8 k) line (f.composeLine line pixels)]
    (s.lineSent f es line pixels).out = all ∧
    (s.lineSent f es line pixels).portSeq = s.portSeq + BitVec.ofNat 8 all.length := by
  subst hk
  intro all
  have hlength : all.length = es.length + 1 := List.length_append
  rw [State.lineSent, hout, hlength]
  exact ⟨rfl, rfl⟩

theorem State.ownLine_sent (s : State) (line : Nat) (pixels : List Pixel) :
    s.ownLine line pixels = s.lineSent (s.atFrame line).vf [] line pixels := by
  rw [State.ownLine_eq, State.lineSent]
  have hseq : s.portSeq + BitVec.ofNat 8 ([] : List Emission).length = s.portSeq := BitVec.add_zero _
  rw [hseq]
  rfl

/-- A line after others left out: those are replaced first. -/
theorem State.ownLine_replaced (s : State) {n count line : Nat} (hcount : count ≠ 0) (pixels : List Pixel) :
    (s.replaceLines n count).ownLine line pixels =
      s.lineSent ((s.replaced n count).atFrame line).vf (replacedLines s.portSeq (s.atFrame n).vf s.vf.good n count)
        line pixels := by
  obtain ⟨c, rfl⟩ := Nat.exists_eq_succ_of_ne_zero hcount
  rw [State.replaceLines_eq, State.ownLine_eq, State.lineSent, replacedLines_length, BitVec.ofNat_add,
    ← BitVec.add_assoc, ← List.append_assoc]
  rfl

/-- The start of a frame leaves the timer, the counts and the last good line. -/
theorem State.atFrame_kept (s : State) (n : Nat) :
    (s.atFrame n).vf.lineSilence = s.vf.lineSilence ∧ (s.atFrame n).vf.dropped = s.vf.dropped ∧
    (s.atFrame n).vf.repeated = s.vf.repeated ∧ (s.atFrame n).vf.lossPresent = s.vf.lossPresent ∧
    (s.atFrame n).vf.lastGood = s.vf.lastGood := by
  unfold State.atFrame
  split <;> exact ⟨rfl, rfl, rfl, rfl, rfl⟩

/-- Line 0 starts a frame (R133). -/
theorem State.atFrame_new (s : State) {n : Nat} (h : n = 0) :
    (s.atFrame n).vf.liveList = (if s.vf.editChanged = true then s.vf.editList else s.vf.liveList) ∧
    (s.atFrame n).vf.snapshot = some s.latch ∧ (s.atFrame n).vf.stripe = (s.vf.stripe + 1) % 8 ∧
    (s.atFrame n).vf.blink = (s.vf.blink + 1) % 32 ∧ (s.atFrame n).vf.editChanged = false := by
  rw [State.atFrame, if_pos h]
  exact ⟨rfl, rfl, rfl, rfl, rfl⟩

theorem State.atFrame_same (s : State) {n : Nat} (h : n ≠ 0) :
    (s.atFrame n).vf.liveList = s.vf.liveList ∧ (s.atFrame n).vf.snapshot = s.vf.snapshot ∧
    (s.atFrame n).vf.stripe = s.vf.stripe ∧ (s.atFrame n).vf.blink = s.vf.blink ∧
    (s.atFrame n).vf.editChanged = s.vf.editChanged := by
  rw [State.atFrame_of_pos h]
  exact ⟨rfl, rfl, rfl, rfl, rfl⟩

theorem State.replaced_of_pos (s : State) {n : Nat} (h : n ≠ 0) (count : Nat) :
    s.replaced n count = { s with
      portSeq := s.portSeq + BitVec.ofNat 8 count
      out := s.out ++ replacedLines s.portSeq s.vf s.vf.good n count
      vf :=
        { s.vf with
          expected := nextLine (n + count - 1), repeated := sat16 (s.vf.repeated + count), lossPresent := true } } := by
  rw [State.replaced, State.atFrame_of_pos h]

/-- What a line taken does, by its number against the expected one. -/
theorem State.takeLine_eq (s : State) (n : Nat) (pixels : List Pixel) (h : s.vf.expected < 540) :
    let q : State := { s with vf := { s.vf with lineSilence := .running 40 } }
    let e := s.vf.expected
    s.takeLine n pixels =
      if 540 ≤ n ∨ (n < e ∧ n ≠ 0) then q.dropLine
      else if n = e then
        { q.lineSent (q.atFrame n).vf [] n pixels with
          vf := { (q.lineSent (q.atFrame n).vf [] n pixels).vf with lossPresent := false } }
      else if n = 0 then
        q.lineSent ((q.replaced e (540 - e)).atFrame 0).vf (replacedLines q.portSeq (q.atFrame e).vf q.vf.good e (540 - e)) 0
          pixels
      else
        q.lineSent ((q.replaced e (n - e)).atFrame n).vf (replacedLines q.portSeq (q.atFrame e).vf q.vf.good e (n - e)) n
          pixels := by
  intro q e
  unfold State.takeLine
  dsimp only
  change (if 540 ≤ n then q.dropLine else if n = e then _ else if e < n then _ else if n = 0 then _ else q.dropLine) = _
  by_cases hover : 540 ≤ n
  · rw [if_pos hover, if_pos (.inl hover)]
  rw [if_neg hover]
  by_cases hequal : n = e
  · rw [if_pos hequal, if_neg (by omega), if_pos hequal, State.ownLine_sent]
  rw [if_neg hequal]
  by_cases hlate : e < n
  · rw [if_pos hlate, if_neg (by omega), if_neg hequal, if_neg (Nat.ne_zero_of_lt hlate)]
    exact q.ownLine_replaced (Nat.sub_ne_zero_of_lt hlate) pixels
  rw [if_neg hlate]
  by_cases hzero : n = 0
  · rw [if_pos hzero, if_neg (by omega), if_neg hequal, if_pos hzero]
    exact q.ownLine_replaced (Nat.sub_ne_zero_of_lt h) pixels
  · rw [if_neg hzero, if_pos (.inr ⟨by omega, hzero⟩)]

end Sys2Proof.Machine
end

section
/-! PROOF. A line composed: zebra, the entries in index order, and what each draws (R134 to R147). -/

namespace Sys2Proof.Machine

/-! ### Figures (R144) -/

/-- A number's figures in `w` positions, with leading spaces where `blank`. -/
def figuresOf (blank : Bool) (w n : Nat) : List Nat :=
  (List.range w).map (fun j =>
    if blank = true ∧ j + 1 < w ∧ n < 10 ^ (w - 1 - j) then 32 else 48 + n / 10 ^ (w - 1 - j) % 10)

theorem figuresOf_succ (blank : Bool) (w n : Nat) :
    figuresOf blank (w + 1) n =
      (List.range w).map (fun j => if blank = true ∧ n < 10 ^ (w - j) then 32 else 48 + n / 10 ^ (w - j) % 10) ++
        [48 + n % 10] := by
  unfold figuresOf
  rw [List.range_succ, List.map_append, List.map_singleton]
  congr 1
  · refine List.map_congr_left fun j hj => ?_
    have hj : j + 1 < w + 1 := Nat.succ_lt_succ (List.mem_range.mp hj)
    simp only [hj, true_and, Nat.add_sub_cancel]
  · simp

/-- One figure further left of a tenth. -/
theorem div_pow_succ (n k : Nat) : n / 10 / 10 ^ k = n / 10 ^ (k + 1) := by
  rw [Nat.div_div_eq_div_mul, Nat.pow_succ']

theorem zeroFigures_eq (w n : Nat) : zeroFigures w n = figuresOf false w n := by
  induction w generalizing n with
  | zero => rfl
  | succ w ih =>
    rw [zeroFigures, ih, figuresOf_succ, figuresOf]
    congr 1
    refine List.map_congr_left fun j hj => ?_
    have hj := List.mem_range.mp hj
    rw [if_neg fun h => Bool.noConfusion h.1, if_neg fun h => Bool.noConfusion h.1, div_pow_succ]
    congr 4
    omega

theorem spaceFigures_eq (w n : Nat) : spaceFigures w n = figuresOf true w n := by
  induction w generalizing n with
  | zero => rfl
  | succ w ih =>
    rw [spaceFigures, figuresOf_succ]
    congr 1
    split
    · next hsmall =>
      refine List.ext_getElem (by simp) fun j hj _ => ?_
      rw [List.length_replicate] at hj
      have hpow : n < 10 ^ (w - j) := hsmall.trans_le (Nat.le_self_pow (by omega) 10)
      rw [List.getElem_replicate, List.getElem_map, List.getElem_range, if_pos ⟨rfl, hpow⟩]
    · next hlarge =>
      rw [ih, figuresOf]
      refine List.map_congr_left fun j hj => ?_
      have hj := List.mem_range.mp hj
      obtain ⟨k, hk⟩ : ∃ k, w - j = k + 1 := ⟨w - 1 - j, by omega⟩
      have hprev : w - 1 - j = k := by omega
      have hspace : (j + 1 < w ∧ n / 10 < 10 ^ k) ↔ n < 10 ^ (k + 1) := by
        rw [Nat.div_lt_iff_lt_mul (by decide), ← Nat.pow_succ]
        refine and_iff_right_of_imp fun hlt => ?_
        have hk0 : k ≠ 0 := by
          rintro rfl
          exact hlarge hlt
        omega
      rw [hprev, hk, div_pow_succ]
      simp only [true_and, hspace]

/-! ### Zebra, and the entries one after another (R138, R140) -/

/-- The starting pixel after zebra. -/
def Viewfinder.striped (f : Viewfinder) (sn : Snapshot) (v u : Nat) (p : Pixel) : Pixel :=
  match zebraInk sn f.stripe u v p.y with
  | some k => p.drawn (paletteAt f.palette k)
  | none => p

theorem Viewfinder.striped_eq (f : Viewfinder) (sn : Snapshot) (v u : Nat) (p : Pixel) :
    f.striped sn v u p =
      if sn.zebraOn = false then p
      else if sn.zebra1Base ≤ p.y ∧ p.y ≤ sn.zebra1Limit then
        if (u + v + f.stripe) / 4 % 2 = 0 then p.drawn (paletteAt f.palette 15) else p
      else if sn.zebra2Base ≤ p.y ∧ p.y ≤ sn.zebra2Limit then
        if (u + 1000 - v + f.stripe) / 4 % 2 = 0 then p.drawn (paletteAt f.palette 14) else p
      else p := by
  unfold Viewfinder.striped zebraInk inWindow
  cases sn.zebraOn with
  | false => rfl
  | true =>
    simp only [Bool.not_true, Bool.false_eq_true, decide_eq_true_eq, if_false, Bool.true_eq_false]
    by_cases hfirst : sn.zebra1Base ≤ p.y ∧ p.y ≤ sn.zebra1Limit
    · rw [if_pos hfirst, if_pos hfirst]
      by_cases hstripe : (u + v + f.stripe) / 4 % 2 = 0
      · rw [if_pos hstripe, if_pos hstripe]
      · rw [if_neg hstripe, if_neg hstripe]
    rw [if_neg hfirst, if_neg hfirst]
    by_cases hsecond : sn.zebra2Base ≤ p.y ∧ p.y ≤ sn.zebra2Limit
    · rw [if_pos hsecond, if_pos hsecond]
      by_cases hstripe : (u + 1000 - v + f.stripe) / 4 % 2 = 0
      · rw [if_pos hstripe, if_pos hstripe]
      · rw [if_neg hstripe, if_neg hstripe]
    · rw [if_neg hsecond, if_neg hsecond]

/-- One entry of the live list drawn onto a pixel, or not. -/
def Viewfinder.drawLive (f : Viewfinder) (sn : Snapshot) (u v : Nat) (q : Pixel) (e : DisplayEntry) : Pixel :=
  match e.visible sn f.blinkOn with
  | some b => drawEntry sn f.palette f.glyphs u v q b
  | none => q

theorem Viewfinder.composeLine_length (f : Viewfinder) (v : Nat) (pixels : List Pixel) :
    (f.composeLine v pixels).length = pixels.length := by
  unfold Viewfinder.composeLine
  split
  · rfl
  · exact List.length_mapIdx

/-- A composed pixel: zebra, then the live entries in index order. -/
theorem Viewfinder.composeLine_get {f : Viewfinder} {sn : Snapshot} (h : f.snapshot = some sn) {v u : Nat}
    {pixels : List Pixel} {p : Pixel} (hp : pixels[u]? = some p) :
    (f.composeLine v pixels)[u]? = some (f.liveList.foldl (f.drawLive sn u v) (f.striped sn v u p)) := by
  have hcompose : f.composeLine v pixels = pixels.mapIdx (f.composePixel sn (f.visibleEntries sn) v) := by
    unfold Viewfinder.composeLine
    rw [h]
  rw [hcompose, List.getElem?_mapIdx, hp, Option.map_some, Viewfinder.composePixel, Viewfinder.visibleEntries,
    List.foldl_filterMap]
  refine congrArg some (List.foldl_ext _ _ _ fun q e _ => ?_)
  unfold Viewfinder.drawLive
  cases e.visible sn f.blinkOn <;> rfl

/-- An entry draws where it is visible, inside its rectangle, with its ink. -/
theorem Viewfinder.drawLive_item (f : Viewfinder) (sn : Snapshot) (u v : Nat) (q : Pixel) (b : DisplayBase)
    (kind : DisplayKind) :
    f.drawLive sn u v q (.item b kind) =
      if (b.condition.holds sn kind = true ∧ (b.blink = true → f.blink ≤ 15) ∧ tallyTest sn f.blinkOn kind = true) ∧
          b.holds u v = true then
        match kind.ink sn f.glyphs b u v with
        | some k => q.drawn (paletteAt f.palette k)
        | none => q
      else q := by
  have hblink : (!b.blink || f.blinkOn) = true ↔ (b.blink = true → f.blink ≤ 15) := by
    rw [Viewfinder.blinkOn]
    cases b.blink <;> simp
  have hvisible : (b.condition.holds sn kind && (!b.blink || f.blinkOn) && tallyTest sn f.blinkOn kind) = true ↔
      b.condition.holds sn kind = true ∧ (b.blink = true → f.blink ≤ 15) ∧ tallyTest sn f.blinkOn kind = true := by
    rw [Bool.and_eq_true, Bool.and_eq_true, hblink, and_assoc]
  unfold Viewfinder.drawLive DisplayEntry.visible
  dsimp only
  by_cases hsees : (b.condition.holds sn kind && (!b.blink || f.blinkOn) && tallyTest sn f.blinkOn kind) = true
  · rw [if_pos hsees]
    unfold drawEntry
    dsimp only
    by_cases hinside : b.holds u v = true
    · refine (if_pos hinside).trans (Eq.trans ?_ (if_pos ⟨hvisible.mp hsees, hinside⟩).symm)
      cases kind.ink sn f.glyphs b u v <;> rfl
    · rw [if_neg hinside, if_neg fun h => hinside h.2]
  · rw [if_neg hsees, if_neg fun h => hsees (hvisible.mpr h.1)]

theorem RecState.recording_iff (r : RecState) :
    r.recording? = true ↔ r = .starting ∨ r = .recording ∨ r = .stopping := by
  cases r <;> simp [RecState.recording?]

/-- The record-state test of a TALLY_BORDER (R147). -/
theorem tallyTest_iff (sn : Snapshot) (f : Viewfinder) (kind : DisplayKind) :
    tallyTest sn f.blinkOn kind = true ↔
      (kind = .tallyBorder → sn.recState = .recording ∨
        ((sn.recState = .starting ∨ sn.recState = .stopping) ∧ f.blink ≤ 15)) := by
  cases kind with
  | tallyBorder => cases h : sn.recState <;> simp [tallyTest, h, Viewfinder.blinkOn]
  | _ => simp [tallyTest]

/-- What PAN is judged by (R141). -/
theorem panHolds_iff (sn : Snapshot) (kind : DisplayKind) :
    Condition.pan.holds sn kind = true ↔ ∃ yaw pitch, sn.stab = .running yaw pitch ∧ (yaw = true ∨ pitch = true) := by
  unfold Condition.holds
  cases h : sn.stab with
  | off => simp
  | settling => simp
  | running yaw pitch =>
    refine Bool.or_eq_true_iff.trans ⟨fun hpan => ⟨yaw, pitch, rfl, hpan⟩, ?_⟩
    rintro ⟨yaw', pitch', hstab, hpan⟩
    cases hstab
    exact hpan

theorem DisplayBase.holds_iff (b : DisplayBase) (u v : Nat) :
    b.holds u v = true ↔ b.x ≤ u ∧ u < b.x + b.w ∧ b.y ≤ v ∧ v < b.y + b.h := decide_eq_true_iff

theorem DisplayBase.nearEdge_iff (b : DisplayBase) (lw u v : Nat) :
    b.nearEdge lw u v = true ↔ u < b.x + lw ∨ b.x + b.w ≤ u + lw ∨ v < b.y + lw ∨ b.y + b.h ≤ v + lw :=
  decide_eq_true_iff

/-- The ink of a row of glyph codes (R143). -/
theorem textInk_eq (glyphs : List Glyph) (colour alternate : Nat) (codes : List Nat) (u v : Nat) :
    textInk glyphs colour alternate codes u v =
      if v < 16 then
        (codes[u / 12]?).map (fun code =>
          if ((glyphs.getD (code - 32) ⟨[]⟩).rows.getD v 0#12).getLsbD (u % 12) = true then colour else alternate)
      else none := by
  unfold textInk
  cases codes[u / 12]? <;> rfl

/-- Settles O48. -/
theorem viewfinderLines : Obligations.ViewfinderLines := by
  refine ⟨fun s he => ?_, ?_⟩
  · intro e good replaced own sameFrame newFrame sent
    refine ⟨fun seq line pixels n hlen h => ?_, fun ms hrunning => ?_⟩
    · let u := s.taken .vfLine seq n
      let q : State := { u with vf := { u.vf with lineSilence := .running 40 } }
      have hexec : exec (.vfLine seq line pixels) s = .next (u.takeLine line.toNat (pixels.map Pixel.ofWord)) :=
        (congrArg _ (if_pos hlen)).trans (congrArg _ (State.intake_of_takes h))
      have htaken := u.takeLine_eq line.toNat (pixels.map Pixel.ofWord) he
      have hexpected : u.vf.expected = e := rfl
      have hnext : line.toNat < 540 → nextLine line.toNat = if line.toNat = 539 then 0 else line.toNat + 1 := by
        intro hline
        unfold nextLine frameLines
        split <;> split <;> omega
      dsimp only at htaken
      rw [hexpected] at htaken
      rw [htaken] at hexec
      by_cases hdrop : 540 ≤ line.toNat ∨ (line.toNat < e ∧ line.toNat ≠ 0)
      · rw [if_pos hdrop] at hexec
        refine ⟨_, hexec, rfl, ?_⟩
        rw [if_pos hdrop]
        exact ⟨⟨rfl, (BitVec.add_zero _).symm⟩, ⟨rfl, rfl, rfl, rfl, rfl⟩, rfl, rfl, rfl, rfl, rfl⟩
      rw [if_neg hdrop] at hexec
      have hline : line.toNat < 540 := by omega
      by_cases hequal : line.toNat = e
      · rw [if_pos hequal, hequal] at hexec
        obtain ⟨hsilence, hdropped, hrepeated, -, -⟩ := q.atFrame_kept e
        refine ⟨_, hexec, hsilence, ?_⟩
        rw [if_neg hdrop, if_pos hequal]
        refine ⟨rfl, hdropped, hequal ▸ hnext hline, ?_, ⟨rfl, rfl⟩, rfl, hrepeated⟩
        split
        · next hfirst => exact q.atFrame_new (hfirst.elim id hequal.symm.trans)
        · next hlater => exact q.atFrame_same fun h => hlater (.inl h)
      rw [if_neg hequal] at hexec
      by_cases hzero : line.toNat = 0
      · have hlater : e ≠ 0 := fun h => hequal (hzero.trans h.symm)
        rw [if_pos hzero, State.replaced_of_pos _ hlater, State.atFrame_of_pos hlater] at hexec
        refine ⟨_, hexec, rfl, ?_⟩
        rw [if_neg hdrop, if_neg hequal, if_pos hzero]
        refine ⟨rfl, rfl, (congrArg nextLine hzero).symm.trans (hnext hline), ?_, rfl,
          State.lineSent_told (s := q) rfl (replacedLines_length ..) _ _ _, rfl⟩
        split
        · exact ⟨rfl, rfl, rfl, rfl, rfl⟩
        · next hnone => exact absurd (.inr hzero) hnone
      · rw [if_neg hzero, State.atFrame_of_pos hzero] at hexec
        obtain ⟨hsilence, hdropped, -, -, -⟩ := q.atFrame_kept e
        refine ⟨_, hexec, hsilence, ?_⟩
        rw [if_neg hdrop, if_neg hequal, if_neg hzero]
        refine ⟨rfl, hdropped, hnext hline, ?_, rfl,
          State.lineSent_told (s := q) rfl (replacedLines_length ..) _ _ _, rfl⟩
        split
        · next hfirst => exact q.atFrame_new (hfirst.resolve_right hzero)
        · next hlater => exact q.atFrame_same fun h => hlater (.inl h)
    · let q : State := { s with out := [], vf := { s.vf with lineSilence := .expired, lossPresent := true } }
      have hrun : s.vf.lineSilence.isRunning = true := by rw [hrunning]; rfl
      have hexec : exec .lineSilenceTimerExpiry s =
          .next (if e = 0 then q else q.replaceLines e (540 - e)) := congrArg _ (if_pos hrun)
      by_cases hfirst : e = 0
      · rw [if_pos hfirst] at hexec
        refine ⟨_, hexec, rfl, rfl, hfirst, rfl, ⟨rfl, rfl, rfl, rfl, rfl⟩, ?_⟩
        rw [if_pos hfirst]
        exact ⟨⟨rfl, (BitVec.add_zero _).symm⟩, rfl⟩
      · obtain ⟨c, hc⟩ := Nat.exists_eq_succ_of_ne_zero (Nat.sub_ne_zero_of_lt he)
        have hc : 540 - e = c + 1 := hc
        have hlast : e + (c + 1) - 1 = 539 := by omega
        rw [if_neg hfirst, hc, State.replaceLines_eq, State.replaced_of_pos _ hfirst, hlast] at hexec
        refine ⟨_, hexec, rfl, rfl, rfl, rfl, ⟨rfl, rfl, rfl, rfl, rfl⟩, ?_⟩
        rw [if_neg hfirst, ← hc]
        refine ⟨⟨rfl, ?_⟩, rfl⟩
        exact congrArg (s.portSeq + BitVec.ofNat 8 ·) (replacedLines_length s.portSeq s.vf s.vf.good e (540 - e)).symm
  · intro f sn v u pixels hsn mixed drawn zebra recording visible inside edge figures remain row glyphs fill ink
    refine ⟨f.composeLine_length v pixels, fun p hp => ?_⟩
    have hdrawn (k : Nat) (q : Pixel) : drawn k q = q.drawn (paletteAt f.palette k) := rfl
    have hzebra : f.striped sn v u p = zebra p := f.striped_eq sn v u p
    have hvisible (b : DisplayBase) (kind : DisplayKind) : visible b kind ↔
        b.condition.holds sn kind = true ∧ (b.blink = true → f.blink ≤ 15) ∧ tallyTest sn f.blinkOn kind = true := by
      refine and_congr ?_ (and_congr_right fun _ => (tallyTest_iff sn f kind).symm)
      cases hc : b.condition with
      | always => exact ⟨fun _ => rfl, fun _ => trivial⟩
      | onRec => exact (RecState.recording_iff _).symm
      | notRec =>
        refine (not_congr (RecState.recording_iff _).symm).trans ?_
        rw [Condition.holds, Bool.not_eq_true, Bool.not_eq_true']
      | warning => exact Iff.rfl
      | pan => exact (panHolds_iff sn kind).symm
      | limit => cases kind <;> simp [Condition.holds]
    have hzero (w k : Nat) : zeroFigures w k = figures false w k := zeroFigures_eq w k
    have hspace (w k : Nat) : spaceFigures w k = figures true w k := spaceFigures_eq w k
    have hremain (x : SlotLive) : remainRow x = remain x := by
      unfold remainRow remainFigures remain
      cases x.remaining with
      | none => rfl
      | some k =>
        dsimp only
        rw [hspace]
    have hrow (source : ValueSource) : valueRow sn source = row source := by
      cases source with
      | timecode =>
        unfold valueRow timecodeRow row
        cases sn.timecode with
        | none => rfl
        | some tc =>
          dsimp only
          rw [hzero, hzero, hzero, hzero]
          simp only [List.append_assoc, List.singleton_append]
      | remainA => exact hremain sn.slotA
      | remainB => exact hremain sn.slotB
      | focal =>
        unfold valueRow focalRow row
        cases sn.focal with
        | none => rfl
        | some k =>
          dsimp only
          rw [hspace]
      | zoomPct =>
        unfold valueRow percentRow row
        cases sn.zoomPct with
        | none => rfl
        | some k => exact hspace 3 k
      | clip =>
        unfold valueRow clipRow row
        cases sn.clip with
        | none => rfl
        | some k => exact hzero 4 k
    have hedge (b : DisplayBase) (lw : Nat) :
        (if b.nearEdge lw u v = true then some b.colour else none) = if edge b lw then some b.colour else none := by
      simp only [b.nearEdge_iff, edge]
    have hink (b : DisplayBase) (kind : DisplayKind) (hinside : inside b) :
        kind.ink sn f.glyphs b u v = ink b kind := by
      cases kind with
      | box => rfl
      | frame lw => exact hedge b lw
      | text alternate codes => exact textInk_eq ..
      | meter alternate track =>
        unfold DisplayKind.ink meterInk ink
        dsimp only
        cases sn.meter.get track with
        | none => rfl
        | some m =>
          cases sn.peak.get track with
          | none => rfl
          | some h =>
            have htop (below : Nat) : (1 ≤ meterFill b.h h ∧ below = meterFill b.h h - 1) ↔
                (1 ≤ meterFill b.h h ∧ below + 1 = meterFill b.h h) := by omega
            simp only [htop]
            rfl
      | zoomBar alternate =>
        obtain ⟨hleft, -⟩ := hinside
        unfold DisplayKind.ink zoomBarInk ink
        cases sn.zoomPct with
        | none => rfl
        | some pc =>
          have hcolumn : u - b.x < b.w * pc / 100 ↔ u < b.x + b.w * pc / 100 := Nat.sub_lt_iff_lt_add' hleft
          simp only [hcolumn]
      | tallyBorder => exact hedge b 4
      | value alternate source =>
        refine (textInk_eq ..).trans ?_
        rw [hrow]
    refine ⟨f.liveList.scanl (f.drawLive sn u v) (f.striped sn v u p), List.length_scanl, ?_, ?_, ?_⟩
    · rw [List.head?_scanl, hzebra]
    · rw [List.getLast?_scanl, Viewfinder.composeLine_get hsn hp]
    · intro i e q r he hq hr
      rw [List.getElem?_succ_scanl, hq, he] at hr
      obtain rfl : f.drawLive sn u v q e = r := Option.some.inj hr
      cases e with
      | none => rfl
      | item b kind =>
        have hdraws := f.drawLive_item sn u v q b kind
        constructor
        · rintro ⟨hsees, hinside⟩
          rw [if_pos ⟨(hvisible b kind).mp hsees, (b.holds_iff u v).mpr hinside⟩, hink b kind hinside] at hdraws
          exact hdraws
        · intro hhidden
          exact hdraws.trans (if_neg fun h => hhidden ⟨(hvisible b kind).mpr h.1, (b.holds_iff u v).mp h.2⟩)

end Sys2Proof.Machine
end
